-- ==== Sys2Proof/Word.lean ====
section
/-! DEFINITION. The word types of the YD2416 (00_scope.md R3): a line number is 48 bits, a segment number 32 bits,
press time 64 bits, and each wraps silently after its all-ones value. -/

namespace Sys2Proof

/-- One byte of a memory or of a packet. -/
abbrev Byte := BitVec 8
/-- A 32-bit register word. -/
abbrev Word32 := BitVec 32
/-- One 64-bit word of a Chive block (09_chive_chain_and_sync.md R285). -/
abbrev Word64 := BitVec 64
/-- Press time, in ticks (R3). -/
abbrev PressTime := BitVec 64
/-- A line number (R3). -/
abbrev LineNo := BitVec 48
/-- A segment number (R3). -/
abbrev SegNo := BitVec 32

/-! ### Operands that stand together in a command -/

/-- The pass over a ring in which staged records are written (10_host_interface_and_dma.md R336, R349): the ring, and the
bytes that show an uncorrectable error as they are read out, each by its record, counted among those of the command, and
its place in the record. -/
structure RingPass where
  ring : Nat
  bad : List (Nat × Nat)
  deriving DecidableEq, Repr

/-- How the link has come up (10_host_interface_and_dma.md R323, R352): its flit mode, and what the host has set in
configuration space: bit 0 Relaxed Ordering enable, bits 2:1 the max payload size 128 · 2^n, bit 3 PTM, bit 4 MSI-X enable,
bit 5 its function mask, bits 8:6 the max read request size 128 · 2^n, bit 9 Non-Fatal Error Reporting Enable; and in bit
10 that the link stands in L1. -/
structure LinkMode where
  flit : Nat
  ctl : Nat
  deriving DecidableEq, Repr

/-- The times of a precision time dialog (10_host_interface_and_dma.md R354): press time at its request and at its
response, and the responder's turnaround in ns. -/
structure PtmTimes where
  t1 : PressTime
  t4 : PressTime
  turn : Nat
  deriving DecidableEq, Repr

/-- What a host reads: an offset, and how many bytes (10_host_interface_and_dma.md R328). -/
structure ReadSpan where
  off : Nat
  size : Nat
  deriving DecidableEq, Repr

/-- A two-wire write: its command code and the bytes after it (12_two_wire_management_port.md R386). -/
structure TwWrite where
  code : Nat
  bytes : List Byte
  deriving DecidableEq, Repr

/-- How a two-wire controller reads: the bytes that it clocks out (12_two_wire_management_port.md R389), and by bit i of
`late` whether data word i was not ready in time (R391). -/
structure TwRead where
  taken : Nat
  late : Nat
  deriving DecidableEq, Repr

end Sys2Proof
end

