-- ==== Sys2Proof/Syntax.lean ====
section
/-! DEFINITION. The commands of the YD2416, one constructor for each row of spec/opcode_table.json. A command carries
what comes from outside the module: the port and data of an access, the words of a packet, the bits or readings that
the physical world supplies. Ports of accesses: 0 PCIe, 1 two-wire. Chive ports: 0 CW, 1 CE. -/

namespace Sys2Proof

/-- The commands (spec/opcode_table.json); each constructor's text is its row's summary. -/
inductive Instr where
  /-- REGISTER_WRITE (R7). A write to a register or table window that has no row of its own takes effect according to the field's class: shadowed, live, stopped-only or boot-locked. -/
  | registerWrite (port : Nat) (off : Nat) (size : Nat) (value : Nat)
  /-- WIDE_READ (R59). A read of the low half of a wide register latches the high half in that port's latch; a later read of the high half returns the latched value and releases the latch. -/
  | wideRead (port : Nat) (off : Nat)
  /-- WIDE_WRITE_LOW (R62). A write of the low half of a wide class L register goes to the port's holding stage; the following high-half write applies both halves together. -/
  | wideWriteLow (port : Nat) (off : Nat) (value : Nat)
  /-- LATCH_TMO (R60). A wide-register latch is released after 65,536 DCLK cycles without a read of the high half; the device sets LATCH_TMO and logs the event. -/
  | latchTmo (port : Nat) (off : Nat)
  /-- PT_LOAD (R56). On the head, LOAD makes PT take PTC_PT_LOAD at the first DCLK cycle that begins after the write. -/
  | ptLoad
  /-- PT_STEP (R57). Once the module has stopped, a module with |Δ| > 64 steps PT to the corrected value, sets STEPPED and logs PT_STEP. -/
  | ptStep
  /-- CNT_START (R70). A write of START makes an armed counter run. -/
  | cntStart (n : Nat)
  /-- CNT_STOP (R71). A write of STOP stops the counter; STOP beats a START in the same cycle. -/
  | cntStop (n : Nat)
  /-- CNT_RST (R71). A write of RST resets the count and the prescaler state. -/
  | cntRst (n : Nat)
  /-- CAPT_NOW (R72). A write of CAPT_NOW captures the count and press time at once. -/
  | captNow (n : Nat)
  /-- COUNTER_INPUT_EVENT (R65). An input event from the selected source advances the fractional prescaler and possibly the count. -/
  | counterInputEvent (n : Nat)
  /-- LINK_ACTION (R70). RESET and START actions raised by match and lap events act on the target counters in the next DCLK cycle. -/
  | linkAction
  /-- ENC_COUNT (R75). An accepted encoder edge is decoded into a forward or reverse count, with the press time of its threshold crossing. -/
  | encCount (a : Option Bool) (b : Option Bool) (t : PressTime)
  /-- ENC_Z_INDEX (R78). A qualified index edge captures the position and its press time, sets Z_SEEN, and optionally sets the position to 0. -/
  | encZIndex (level : Bool) (t : PressTime)
  /-- POS_CLR (R85). A write of POS_CLR sets the encoder position to 0. -/
  | posClr
  /-- SNAP (R79). A write of SNAP requests a copy of the edge FIFO into the window between two counts. -/
  | snap
  /-- SNAP_COMPLETE (R79). The copy of the edge FIFO into the window completes and SNAP_VALID reads 1. -/
  | snapComplete
  /-- LFCLK_EDGE (R80). In SLEEP or debug halt, each LFCLK rising edge advances PT by the fractional increment and gives running counters their input bursts. -/
  | lfclkEdge
  /-- DEBUG_HALT (R80). Debug halt stops TCLK, kills the strobes, and switches PT to LFCLK at the next edge. -/
  | debugHalt
  /-- DEBUG_HALT_EXIT (R80). Leaving debug halt relocks PLL-T, after which PT takes the exit increment. -/
  | debugHaltExit
  /-- THY_CTL_START (R95). On the head, with EN = 1 and RUNNING = 0, START begins launching from THY_LN_NEXT and THY_SN_NEXT. -/
  | thyCtlStart
  /-- THY_CTL_STOP (R95). On the head, STOP ends launching, sends a stop down the chain, and updates THY_LN_NEXT and THY_SN_NEXT. -/
  | thyCtlStop
  /-- LINE_DUE (R97). When a line's T comes within LEAD_EFF, the head issues its launch or skip action and sends it down the chain. -/
  | lineDue
  /-- ENC_STALL (R103). With no count for STALL × 65,536 ticks, the head invalidates its estimate, sets STALLED and logs ENC_STALL. -/
  | encStall
  /-- TRIG_EDGE (R106). A TRIG_IN edge stable for 8 ticks is accepted and schedules a line, direct or scheduled. -/
  | trigEdge (rising : Bool) (t : PressTime)
  /-- THY_RING_PI_WRITE (R108). A write of the launch ring producer index makes entries available to the head. -/
  | thyRingPiWrite (pi : Nat)
  /-- SEG_NOW (R119). On the head, a host boundary request places a boundary at the next line that falls due. -/
  | segNow
  /-- LAUNCH_ACTION (R93). At tick T the module applies due class L writes, starts the conversion frame of its previous line, and runs the program steps at TICK 0. -/
  | launchAction
  /-- SKIP_ACTION (R115). A skipped line hands the pipeline a placeholder and is counted in THY_SKIPk. -/
  | skipAction
  /-- PROGRAM_STEP (R87). At its tick, a line program step drives OPEN, TX, SNR or strobe edges on its mask. -/
  | programStep
  /-- FLUSH_FRAME (R28). With no launch 65,536 ticks after a line's launch, a flush frame converts that line and opens a flush hold. -/
  | flushFrame
  /-- TRIG_OUT_PULSE_END (R122). The TRIG_OUT pulse ends after TO_WIDTH × 16 ticks. -/
  | trigOutPulseEnd
  /-- STRB_MAXON (R41). A strobe that stays high for MAXON × 16 ticks is forced low by its watchdog and the event is logged. -/
  | strbMaxon (n : Nat)
  /-- KILL_CLR (R42). A write of KILL_CLR sets KILL_CAUSE to 0 when no kill condition is present. -/
  | killClr
  /-- LINE_SAMPLE (R135). A group's accumulated line sample is complete 128 ticks after its conversion window ends. -/
  | lineSample (g : Nat) (bits : List (Nat × List (List Bool))) (bg : List (Nat × List Bool))
  /-- CHAIN_OUTPUT (R162). The line filter chain output for an LN is complete 128 ticks after the line sample. -/
  | chainOutput (g : Nat)
  /-- CALIBRATED_SAMPLE (R182). The apply unit produces the 16-bit calibrated sample 128 ticks after the chain output. -/
  | calibratedSample (g : Nat)
  /-- CNV_TEST_RUN (R147). A write of RUN starts a full converter self-test while Thyme is stopped. -/
  | cnvTestRun
  /-- SELFTEST_DONE (R147). A full test ends: fail bits are set, DONE is set, and the results are logged. -/
  | selftestDone (codes : List (Nat × List (List Bool) × List (List Bool) × List (List Bool)))
  /-- CNV_TEST_ABORT (R148). ABORT ends a full test early, leaving an all-zero fail bitmap. -/
  | cnvTestAbort
  /-- CNV_FAIL_CLR (R151). A write of FAIL_CLR clears the whole fail bitmap. -/
  | cnvFailClr
  /-- DETECTOR_DECISION (R171). A level-event detector decides an event 256 ticks after the tap output that completes its qualification run. -/
  | detectorDecision (d : Nat)
  /-- LEVEL_RECORD_DEQUEUE (R173). A waiting level-event record moves into the event FIFO once the FIFO has room. -/
  | levelRecordDequeue (d : Nat)
  /-- EVT_PULSE_END (R174). An EVT pin pulse ends after WIDTH × 16 ticks. -/
  | evtPulseEnd (k : Nat)
  /-- CAL_SETS_WRITE (R191). Setting EN bits checks the set slots in ascending order; clearing an EN bit invalidates its slot. -/
  | calSetsWrite (en : Nat)
  /-- REBUILD (R198). A write of REBUILD starts a rebuild of the working set. -/
  | rebuild
  /-- REBUILD_COMPLETE (R198). The working set is built into the shadow bank and awaits its swap, or is swapped at once while Thyme is stopped. -/
  | rebuildComplete
  /-- SC_VISIT_END (R204). At the end of a visit frame, the pending measured offsets and gains of the pair are updated. -/
  | scVisitEnd (codes : List (Nat × List Nat × List Nat))
  /-- SC_FULL (R208). A write of FULL while Thyme is stopped starts a full measurement of every converter. -/
  | scFull
  /-- SC_FULL_DONE (R208). The full measurement ends and sets both measured tables. -/
  | scFullDone (means : List (Nat × Nat × Nat))
  /-- CAPT_START (R211). A write of CAL_CAPT.START begins a capture of chain sums or a converter-table write. -/
  | captStart
  /-- ALIGNED_RECORD (R215). The hub forms an aligned record from the calibrated planes, blends its seam, and passes it to the COLOUR and INSPECT classes and to staging. -/
  | alignedRecord
  /-- SEAM (R224). A west seam line arrives and is buffered for the blend. -/
  | seam (words : List Word64)
  /-- SEAM_MARK (R223). A placeholder marker arrives in place of west seam data. -/
  | seamMark (words : List Word64)
  /-- SEAM_WAIT_EXPIRY (R226). A record's wait for its west line expires, and its seam takes local data only. -/
  | seamWaitExpiry
  /-- BAND_RECORD (R256). A band record from the reference ring is parsed and moved into the backlog, or discarded. -/
  | bandRecord
  /-- BAND_RESIDENT (R257). A band's whole payload is in the tile cache. -/
  | bandResident (sn : SegNo) (y0 : Nat)
  /-- CELL_ROW (R252). Sorrel takes a cell row, transforms and compares its cells, and clusters defects. -/
  | cellRow
  /-- FLOOD_TOKEN (R276). The flood bucket gains one token every 1,500 ticks. -/
  | floodToken
  /-- ALARM_WIDTH_END (R279). In pulse mode, ALARM_N is released after WIDTH × 65,536 ticks. -/
  | alarmWidthEnd
  /-- ALARM_CLR (R279). A write of CLR releases a latched ALARM_N. -/
  | alarmClr
  /-- RT_ARM (R263). ARM arms the inactive region table bank, optionally copies a library slot into it, and starts validation. -/
  | rtArm
  /-- RT_DISARM (R263). DISARM cancels the arming and any validation in progress. -/
  | rtDisarm
  /-- RT_VALIDATION_DONE (R264). Validation ends: the bank becomes READY, or it is disarmed as INVALID. -/
  | rtValidationDone
  /-- SIGNAL_DETECT (R287). Signal is detected on a port's receive lanes, and training begins. -/
  | signalDetect (port : Nat)
  /-- TRAINING_COMPLETE (R287). A port completes training, becomes UP, and sends SYNC and DELAY from the upstream end. -/
  | trainingComplete (port : Nat) (rtt : Nat) (swap : Bool) (pol : Nat)
  /-- TRAINING_TIMEOUT (R287). Training not completed within its limit fails and the port is FAILED. -/
  | trainingTimeout (port : Nat) (reason : Nat)
  /-- RETRAIN_TIMER (R317). With AUTO_RETRAIN, a FAILED port starts training again when its retry time expires. -/
  | retrainTimer (port : Nat)
  /-- RETRAIN_CW (R317). A write of RETRAIN_CW fails the CW port with cause 4 and retrains it at once. -/
  | retrainCw
  /-- RETRAIN_CE (R317). A write of RETRAIN_CE fails the CE port with cause 4 and retrains it at once. -/
  | retrainCe
  /-- LOSS_OF_SIGNAL (R317). Loss of signal on a receive lane for 64 ticks fails the port. -/
  | lossOfSignal (port : Nat)
  /-- LOSS_OF_BLOCK_LOCK (R317). 16 invalid sync headers within 64 blocks fail the port. -/
  | lossOfBlockLock (port : Nat)
  /-- SPRIG_SEND (R293). At each PT multiple of 4,096, a module whose CE port is UP sends a sprig east. -/
  | sprigSend
  /-- SPRIG (R294). A received sprig is timestamped and accepted; it drives the echo, the offset computation and the phase loop. -/
  | sprig (lane0 : Word64) (lane1 : Word64) (rx : Nat)
  /-- ECHO (R297). A received echo yields a one-way delay; every 16 echoes the sender sends DELAY east. -/
  | echo (lane0 : Word64) (lane1 : Word64) (rx : Nat)
  /-- ECHO_DEADLINE (R296). No valid echo within 1,500 ticks fails the CE port with cause 3. -/
  | echoDeadline (id : Nat)
  /-- SPRIG_TIMEOUT (R300). No accepted sprig on CW for 12,288 ticks makes the module unsynchronised. -/
  | sprigTimeout
  /-- TCLK_PHASE_STEP (R414). A queued phase step moves the next TCLK edge by 1/64 tick, one step per 16 ticks. -/
  | tclkPhaseStep
  /-- CE_NO_SIGNAL_TIMEOUT (R289). With no CE signal 10 ms after CW came UP, the module ends the chain and sends CHAIN_END. -/
  | ceNoSignalTimeout
  /-- POSITION_TIMEOUT (R292). With no position 40 ms after PLL-T lock, boot continues with the position held or 31. -/
  | positionTimeout
  /-- LINE (R309). A received LINE packet is relayed, checked for lost lines, and scheduled for execution. -/
  | line (w0 : Word64) (w1 : Word64) (w2 : Word64)
  /-- STOP (R492). A received STOP packet ends the run and closes the open segment. -/
  | stop (w0 : Word64) (w1 : Word64)
  /-- COMMIT_PREPARE (R361). A PREPARE freezes the shadow and starts the module's commit check. -/
  | commitPrepare (w : Word64)
  /-- COMMIT_CONFIRM (R364). A CONFIRM arms the commit for the TARGET_SN boundary, or applies it at once when NOW = 1. -/
  | commitConfirm (w : Word64)
  /-- COMMIT_ABORT (R363). An ABORT unfreezes the module and logs COMMIT_ABORT. -/
  | commitAbort (w : Word64)
  /-- SYNC (R300). A received SYNC packet gives the full press time of a sprig after the link comes up. -/
  | sync (w0 : Word64) (w1 : Word64)
  /-- DELAY (R298). A received DELAY packet sets the one-way delay used for the offset. -/
  | delay (w : Word64)
  /-- ENUM (R288). A received ENUM gives the module its position, which it passes east. -/
  | enum (w : Word64)
  /-- CHAIN_END (R289). The head receives CHAIN_END, sets N and broadcasts CHAIN_INFO. -/
  | chainEnd (w : Word64)
  /-- CHAIN_INFO (R289). A received CHAIN_INFO stores N. -/
  | chainInfo (w : Word64)
  /-- CONFLICT (R289). A received CONFLICT makes the module end the chain with reason 3. -/
  | conflict
  /-- DIGEST (R316). The head records a module's digest prefix for an SN. -/
  | digest (w0 : Word64) (w1 : Word64)
  /-- SYNC_STATE (R307). The head records a position's synchronised and slewing state in CHV_SYNCMAP. -/
  | syncState (w : Word64)
  /-- COMMIT_RESULT (R363). The head records a commit result from a position. -/
  | commitResult (w : Word64)
  /-- DMA_PI_WRITE (R332). A write of a ring's producer index posts descriptors to the device. -/
  | dmaPiWrite (r : Nat) (pi : Nat)
  /-- RECORD_WRITE (R336). The device writes staged records into the buffers of its ring, splitting records across buffers. -/
  | recordWrite (w : RingPass)
  /-- FLUSH_READ_COMPLETE (R338). A completed flush read confirms buffers; their descriptors are written back, OWN is cleared, and a write-back and interrupt follow. -/
  | flushReadComplete (r : Nat) (ok : Bool)
  /-- BUFFER_AGE_EXPIRY (R337). Data unconfirmed for AGE × 1.0 µs completes its buffer as PARTIAL. -/
  | bufferAgeExpiry (r : Nat)
  /-- MOD_TIMER_EXPIRY (R342). The interrupt moderation timer expires and the ring's MSI-X message is sent. -/
  | modTimerExpiry (r : Nat)
  /-- RING_STOP (R350). STOP returns the device-owned descriptors ABORTED, discards staging and ends the stream. -/
  | ringStop (r : Nat)
  /-- LINK_LOSS (R348). DL_Down, a Bus Master Enable clear or D3hot stops requests, puts streams into drop and marks descriptors LINK_LOST. -/
  | linkLoss (down : Bool)
  /-- LINK_RECOVERY (R348). When the link is up again with Bus Master Enable set, LINK_LOST descriptors are returned and gap records are written. -/
  | linkRecovery
  /-- HOT_RESET (R324). A hot reset returns configuration space, DMA, PCX and MSI-X to reset, and leaves imaging untouched. -/
  | hotReset
  /-- HOST_READ_COMPLETION (R340). Completions of reads of a host-to-device buffer deliver band bytes to the parser. -/
  | hostReadCompletion (r : Nat) (status : Nat) (bytes : List Byte)
  /-- LINK_SPEED (R353). A change of link rate or width is logged with the new link figure. -/
  | linkSpeed (speed : Nat) (width : Nat) (mode : LinkMode)
  /-- EVT_SEGCLOSE (R346). Once the close events and the other streams' closes of S are delivered, stream 18 writes EVT_SEGCLOSE. -/
  | evtSegclose
  /-- PTM_NOW (R354). A write of NOW runs one PTM dialog. -/
  | ptmNow
  /-- PTM_PERIOD_EXPIRY (R354). With AUTO set, a PTM dialog runs every PERIOD × 1,048,576 ticks. -/
  | ptmPeriodExpiry
  /-- PTM_DIALOG_DONE (R354). A completed PTM dialog stores the press time and host time pair. `host` is the responder's master time, in ns. -/
  | ptmDialogDone (ok : Bool) (times : PtmTimes) (host : Nat)
  /-- BAR2_WRITE (R327). A BAR2 write lands in store DRAM or the ring area, or is discarded for read-only ranges. -/
  | bar2Write (off : Nat) (bytes : List Byte)
  /-- BAR_READ_TIMEOUT (R328). A read that cannot obtain its data within 2,000 PCLK cycles completes with all-ones and logs RD_LATE. -/
  | barReadTimeout (bar : Nat) (read : ReadSpan)
  /-- GO (R360). On the head, GO starts a chain commit for TARGET_SN or is refused with a process reason. -/
  | go
  /-- CFG_CHECK_DONE (R362). The module's commit check completes and its result is sent to the head. -/
  | cfgCheckDone
  /-- DISCARD (R358). DISCARD copies the configuration in force into the shadow. -/
  | discard
  /-- CFG_LOCK (R380). A write of LOCK sets the configuration lock. -/
  | cfgLock
  /-- HOST_REBOOT (R377). HOST_REBOOT reboots from an image in store DRAM, in SAFE or in a stopped STANDBY. -/
  | hostReboot
  /-- RESET_N_RELEASE (R475). The release of RESET_N samples the straps and begins boot. -/
  | resetNRelease (straps : Nat)
  /-- RESET_N_LOW (R437). RESET_N low holds the main domains in reset, releases the strobes and ends the thermal hold or SLEEP. -/
  | resetNLow
  /-- MAIN_DOMAINS_RELEASE (R439). Once the Bay rail and the main rails are good and RESET_N is high, the supervisor releases the main domains and phase 0 starts. -/
  | mainDomainsRelease
  /-- IMAGE_VERIFIED (R375). Phase 3 checks the header, key, signature and rollback of the image that has been read. -/
  | imageVerified
  /-- BOOT_APPLY_DONE (R373). Sections are applied and checked, the configuration takes effect as a commit with NOW, and the module enters STANDBY. -/
  | bootApplyDone
  /-- SLOT_PROGRAM (R378). PROGRAM makes an EMPTY key slot ACTIVE while the configuration is unlocked. -/
  | slotProgram (k : Nat)
  /-- SLOT_REVOKE (R378). REVOKE makes an ACTIVE slot that is not in use REVOKED. -/
  | slotRevoke (k : Nat)
  /-- SEC_RB_ADVANCE (R379). ADVANCE raises the rollback counter to the running image's ROLLBACK. -/
  | secRbAdvance
  /-- ATTEST_RUN (R381). RUN captures the attestation fields and starts signing a report. -/
  | attestRun
  /-- ATTEST_DONE (R381). The signed report is written and ATT_DONE is set. -/
  | attestDone
  /-- PTR (R387). The two-wire PTR command sets the access pointer. A transaction whose command code is none of Table
  TWI-2 comes under this row (R386). -/
  | ptr (w : TwWrite)
  /-- WR4 (R388). WR4 writes one 32-bit word at the pointer at the end of the transaction, all or nothing. -/
  | wr4 (bytes : List Byte)
  /-- RD4 (R386). RD4 reads one 32-bit word at the pointer. -/
  | rd4 (k : TwRead)
  /-- WR8 (R386). WR8 writes two 32-bit words at the pointer. -/
  | wr8 (bytes : List Byte)
  /-- RD8 (R386). RD8 reads two 32-bit words at the pointer. -/
  | rd8 (k : TwRead)
  /-- BWR (R386). BWR writes COUNT bytes from the pointer. -/
  | bwr (bytes : List Byte)
  /-- BRD (R386). BRD reads COUNT bytes from the pointer. -/
  | brd (count : Nat) (k : TwRead)
  /-- ATTN (R386). ATTN returns TWI_ATTN_SRC. `taken` is how many bytes the controller clocks out (R389), here and in EVT. -/
  | attn (taken : Nat)
  /-- EVT (R394). EVT takes the oldest event record from the FIFO over the two-wire port. -/
  | evt (taken : Nat)
  /-- TW_TIMEOUT (R393). A transaction with SCL low, or SDA held, for 30 ms is abandoned. -/
  | twTimeout (kind : Nat)
  /-- ATTENTION_PULSE (R395). With a newly pending source and an idle bus, the device pulls SDA low for 10 µs to signal attention. -/
  | attentionPulse
  /-- ATTENTION_REPEAT (R395). An unanswered attention is repeated after ATTN_REP ms of idle bus. -/
  | attentionRepeat
  /-- ALERT_RESPONSE (R396). A read of address 0x0C is answered with the target address, under arbitration. -/
  | alertResponse (won : Bool)
  /-- BOOT_CHUNK_READ (R400). The boot controller reads the lowest missing 256-byte chunk of the image from the EEPROM. -/
  | bootChunkRead (lost : Bool) (data : List Byte)
  /-- LISTENED_TRANSACTION (R401). The controller takes the bytes it lacks from a foreign chunk read: the bytes on the
  bus from its START to the repeated START, and from there to its STOP. -/
  | listenedTransaction (parts : List (List Byte))
  /-- BACKOFF_EXPIRY (R402). After an arbitration loss, the controller's back-off wait ends and it may start again. -/
  | backoffExpiry
  /-- BUS_STUCK (R398). SDA held low for 1 ms starts a bus recovery of up to nine clocks and a STOP. -/
  | busStuck (clocks : Nat) (freed : Bool)
  /-- EEPROM_PROBE_RETRY (R399). With no EEPROM acknowledging, the addressing probe is repeated every 10 ms. -/
  | eepromProbeRetry
  /-- PLL_APPLY (R410). APPLY takes the buffered REF_MODE and N of a PLL together and relocks it, or rejects them. -/
  | pllApply (x : Nat)
  /-- PLL_LOCK (R411). A PLL completes its lock, ungates its outputs and logs PLL_LOCK. -/
  | pllLock (x : Nat)
  /-- PLL_LOSS (R417). A loss of reference, a loss of lock or a frequency fault gates a PLL's outputs. -/
  | pllLoss (x : Nat) (cause : Nat)
  /-- REFERENCE_GOOD (R416). XREF is good again after two good windows, and PLL locks begin. -/
  | referenceGood
  /-- LF_LOST (R422). LFCLK is declared lost after 64 µs without an edge. -/
  | lfLost
  /-- LF_OK (R422). LFCLK is good again after 64 correctly spaced edges. -/
  | lfOk
  /-- HKCLK_PT_ADVANCE (R419). While TCLK is gated and before the next LFCLK edge, PT advances 375 ticks every fourth HKCLK edge. -/
  | hkclkPtAdvance
  /-- HK_ROUND (R425). A housekeeping round completes and publishes its 16 readings, which limits, thermal protection, calibration and the charger then use. -/
  | hkRound (readings : List (Nat × Bool))
  /-- THERM_CLR (R436). CLR with RESUME_OK = 1 ends the thermal hold, relocks the clocks and returns to the state left. -/
  | thermClr
  /-- LOG_ACK (R435). ACK acknowledges the log record at INDEX. -/
  | logAck
  /-- ACK_ALL (R435). ACK_ALL acknowledges every log record. -/
  | ackAll
  /-- SLEEP (R442). SLEEP, in STANDBY or SAFE with Thyme stopped and LFCLK good, runs the sleep entry sequence. -/
  | sleep
  /-- BROWN_OUT (R440). A main rail below its warning level forces the strobes low, writes a log record and holds the main domains in reset. -/
  | brownOut (rail : Nat) (mv : Nat)
  /-- WAKE (R453). An enabled wake source in SLEEP drives RAIL_REQ high and, once R439 holds, starts the boot. -/
  | wake (source : Nat)
  /-- VAUX_LOSS (R448). VAUX below 2,700 mV moves the Bay rail to the cell. -/
  | vauxLoss
  /-- VAUX_RETURN (R448). VAUX above 2,850 mV for 1.0 ms moves the Bay rail back to VAUX. -/
  | vauxReturn
  /-- CELL_CUTOFF (R449). CELL_P below 3,000 mV on the cell disconnects it, and the module is OFF. -/
  | cellCutoff
  /-- COLD_START (R449). The Bay rail starts from OFF, resetting the BAY block and setting COLD. -/
  | coldStart
  /-- CHARGER_TICK (R456). Every 1,024 rounds the charger makes its state, termination, current and timer decisions. -/
  | chargerTick
  /-- CHG_FAULT_CLR (R463). FAULT_CLR sends the charger from FAULT to QUALIFY. -/
  | chgFaultClr
  /-- CHG_RESTART (R463). RESTART sends the charger to QUALIFY from any state except FAULT. -/
  | chgRestart
  /-- BOUNDARY_SCAN_INSTRUCTION (R476). A JTAG instruction is loaded; EXTEST or INTEST hands the strobes to the boundary register unless Thyme runs. -/
  | boundaryScanInstruction (ir : Nat)
  /-- BAR0_READ (R4). A BAR0 read of an unsupported size or alignment returns 0xFFFF_FFFF and logs a class 0x09 event. -/
  | bar0Read (port : Nat) (off : Nat) (size : Nat)
  /-- COMPLETION_TIMEOUT (R339). A flush read, or a read of a host-to-device buffer, times out without a completion and is retried or fails with FLUSH_FAIL or READ_ERR. -/
  | completionTimeout (r : Nat)
  /-- PACKET_DROPPED (R304). A Chive packet or control block with a wrong HCRC or CRC, or an unknown type, DTYPE or LEN, is dropped and counted in CRC_ERRS. -/
  | packetDropped (port : Nat)
  /-- LINK_RETRAIN (R347). The PCIe link passes through Recovery without DL_Down, and PCX_LINK.RETRAINS counts it for the LINK_RETRAINS close event. -/
  | linkRetrain
  /-- FUNDAMENTAL_RESET (R374). The deassertion of PE_PERST_N starts link training within 20 ms and applies a buffered PLL-P pair. -/
  | fundamentalReset
  /-- BUS_STOP (R421). A STOP condition appears on the two-wire bus, which returns TWCLK to XREF ÷ 2 after a fallback and ends the wait that follows an abandoned transaction. -/
  | busStop
  deriving DecidableEq, Repr

end Sys2Proof
end

