-- ==== Sys2Proof/Decode.lean ====
section
/-! DEFINITION. The command that a word of spec/opcode_table.json spells. No row of the table gives bits ("fields" is
empty in every row), so no word spells a command. -/

namespace Sys2Proof

/-- The command spelled by the `nbits` bits of `w`: none, since no row of the table has bits (notes/assumptions/8.md).
-/
def decodeTableWord (_nbits _w : Nat) : Option Instr := none

end Sys2Proof
end

