-- ==== Sys2Proof/Config.lean ====
section
/-! DEFINITION. What one part fixes and the spec does not give, and the free values of the model. Each is a constant
without a body: no proof can see a value of it (notes/assumptions/4.md). -/

namespace Sys2Proof.Config

/-- The die stepping of the part (`GLB_ID.STEP`, 17_register_index.md Table REG-20: "per part"). -/
opaque dieStep : BitVec 8

/-- A fresh free value, by the number of its draw and its width. -/
opaque freeValue : Nat → Nat → Nat

/-- A byte that the spec gives no content for, by its BAR2 offset and the number of the read. -/
opaque freeByte : Nat → Nat → BitVec 8

/-- The code of the kind of a CNT_EVENT record, match (false) or lap (true): the spec gives the argument and not its
coding (02_press_time_and_counters.md Table PTC-3). -/
opaque cntEventKind : Bool → BitVec 8

/-- The code of the source of a SEG_SUPPRESSED record, by the CAUSE bit of the source: the spec gives the argument and
not its coding (03_thyme_line_launch.md Table THY-8). -/
opaque boundarySource : Nat → BitVec 8

/-- The level a CONV_FAIL record names for a converter that passes each level and whose means do not rise
(04_column_converters.md R146, Table CNV-8 gives no level for that case). -/
opaque notRisingLevel : BitVec 8

/-- The error of the logarithmic code of a value, 0 none, 1 one code up, 2 one code down: the spec gives the code to
within one (07_pixel_pipeline_and_seams.md Table PIP-1, "exact to ±1 code"). -/
opaque logError : Nat → BitVec 2

/-- The pack temperature in 1/16 °C is rounded up for an NTC reading in mV: the spec gives the divider and the sensor,
and not the rounding (15_bay_backup_domain.md R456). -/
opaque ntcRoundsUp : Nat → Bool

/-- The pack temperature that a reading of 0 mV, or of the whole reference of 1,250 mV or more, gives: no resistance of
the sensor stands for it (R456). -/
opaque ntcBeyond : Nat → BitVec 16

/-- The tick of every 16 in which MAINT delivers its current (15_bay_backup_domain.md Table BAY-3). -/
opaque maintPhase : BitVec 4

/-- Byte `i` of the signature of an attestation report, by the 256 bytes signed: it is made under a private key that no
port can read (11_configuration_boot_and_security.md R381). -/
opaque reportSignature : List Byte → Nat → Byte

end Sys2Proof.Config
end

