-- ==== Sys2Proof/Machine/Bits.lean ====
section
/-! DEFINITION. Bit-field, sign, rounding and sorted-list helpers that the register file, the memory and the
arithmetic of the later blocks share. -/

namespace Sys2Proof.Machine

/-- The `w` bits of `n` from bit `lo` up. -/
def bitsAt (n lo w : Nat) : Nat := n / 2 ^ lo % 2 ^ w

/-- Bit `i` of `n`. -/
def bitAt (n i : Nat) : Bool := n / 2 ^ i % 2 == 1

/-- A flag as the bit a register shows. -/
def boolBit (b : Bool) : Nat := if b then 1 else 0

/-- `n` with its bit `i` set to `b`. -/
def withBit (n i : Nat) (b : Bool) : Nat :=
  n - bitsAt n i 1 * 2 ^ i + boolBit b * 2 ^ i

/-- The value of the `w`-bit two's-complement number `n`. -/
def signedOf (w n : Nat) : Int :=
  if n % 2 ^ w < 2 ^ (w - 1) then Int.ofNat (n % 2 ^ w) else Int.ofNat (n % 2 ^ w) - Int.ofNat (2 ^ w)

/-- The `w`-bit two's-complement code of `x`. -/
def codeOf (w : Nat) (x : Int) : Nat := (x % Int.ofNat (2 ^ w)).toNat

/-- `x` limited to `lo … hi`. -/
def clampInt (lo hi x : Int) : Int := if x < lo then lo else if hi < x then hi else x

/-- `x` limited to `lo … hi`, as a natural number. -/
def clampNat (lo hi : Nat) (x : Int) : Nat := (clampInt (Int.ofNat lo) (Int.ofNat hi) x).toNat

/-- `n / d` rounded to nearest, halves up. -/
def divRoundUpHalf (n d : Nat) : Nat := (2 * n + d) / (2 * d)

/-- `n / d` rounded to nearest, halves away from zero. -/
def divRoundAway (n : Int) (d : Nat) : Int :=
  if 0 ≤ n then Int.ofNat ((2 * n.natAbs + d) / (2 * d)) else - Int.ofNat ((2 * n.natAbs + d) / (2 * d))

/-- `n / 2^k` rounded down (an arithmetic shift right). -/
def shiftDown (n : Int) (k : Nat) : Int := n.fdiv (Int.ofNat (2 ^ k))

/-- `n / 2^k` rounded to nearest, halves toward plus infinity. -/
def shiftRoundUp (n : Int) (k : Nat) : Int :=
  if k = 0 then n else (n + Int.ofNat (2 ^ (k - 1))).fdiv (Int.ofNat (2 ^ k))

/-- The signed distance from `b` to `a` on a wrapping counter of `w` bits. -/
def signedDiff {w : Nat} (a b : BitVec w) : Int := (a - b).toInt

/-- Little-endian bytes of `n`, `k` of them. -/
def leBytes : Nat → Nat → List Byte
  | 0, _ => []
  | k + 1, n => BitVec.ofNat 8 n :: leBytes k (n / 256)

/-- The number that little-endian bytes spell. -/
def ofLeBytes : List Byte → Nat
  | [] => 0
  | b :: r => b.toNat + 256 * ofLeBytes r

/-- The 32-bit little-endian word at byte `i` of a byte list, absent bytes reading 0. -/
def leWordAt (bs : List Byte) (i : Nat) : Nat := ofLeBytes ((bs.drop i).take 4)

/-- The little-endian number of `k` bytes at byte `i`. -/
def leAt (bs : List Byte) (i k : Nat) : Nat := ofLeBytes ((bs.drop i).take k)

/-- A sorted list of keys and values; an unlisted key holds its default. -/
abbrev Assoc (α : Type) := List (Nat × α)

/-- The value listed under `k`. -/
def Assoc.find {α : Type} : Assoc α → Nat → Option α
  | [], _ => none
  | (k', v) :: r, k => if k' = k then some v else Assoc.find r k

/-- The list without `k`. -/
def Assoc.erase {α : Type} : Assoc α → Nat → Assoc α
  | [], _ => []
  | (k', v) :: r, k => if k' = k then Assoc.erase r k else (k', v) :: Assoc.erase r k

/-- The list with `v` under `k`, keys rising. -/
def Assoc.insert {α : Type} : Assoc α → Nat → α → Assoc α
  | [], k, v => [(k, v)]
  | (k', v') :: r, k, v =>
    if k < k' then (k, v) :: (k', v') :: r
    else if k' = k then (k, v) :: r
    else (k', v') :: Assoc.insert r k v

/-- Every listed key is above `lo`, and the keys rise strictly. -/
def Assoc.risingFrom {α : Type} : Option Nat → Assoc α → Bool
  | _, [] => true
  | none, (k, _) :: r => Assoc.risingFrom (some k) r
  | some lo, (k, _) :: r => decide (lo < k) && Assoc.risingFrom (some k) r

/-- The keys rise strictly. -/
def Assoc.rising {α : Type} (m : Assoc α) : Bool := Assoc.risingFrom none m

/-- `l` with element `i` replaced. -/
def setAt {α : Type} (l : List α) (i : Nat) (v : α) : List α := l.set i v

/-- `l` with element `i` changed by `f`. -/
def modAt {α : Type} (l : List α) (i : Nat) (f : α → α) : List α :=
  match l[i]? with
  | some v => l.set i (f v)
  | none => l

/-- The last `n` elements of a list. -/
def lastN {α : Type} (n : Nat) (l : List α) : List α := l.drop (l.length - n)

/-- Sum of a list of integers. -/
def sumInt (l : List Int) : Int := l.foldl (· + ·) 0

/-- How many bits of `n`, counted over its low `w` bits, are 1. -/
def popCount : Nat → Nat → Nat
  | 0, _ => 0
  | w + 1, n => n % 2 + popCount w (n / 2)

end Sys2Proof.Machine
end

