-- ==== Sys2Proof/Machine/Regs.lean ====
section
/-! DEFINITION. The register file of 17_register_index.md: every FIELD of every register of BAR0, with its bit place,
width, reset value, access type (Table SCOPE-4) and class (Table SCOPE-5); a bank holds one cell per field, and an
unlisted cell holds the field's reset value. The field constants follow the register maps of the block chapters. -/

namespace Sys2Proof.Machine

/-- Access types (00_scope.md R5, Table SCOPE-4). -/
inductive Access where
  | rw | ro | w1c | w1s
  deriving DecidableEq, Repr

/-- Register classes (00_scope.md R7, Table SCOPE-5); `none` is the class written as a dash. -/
inductive Class where
  | none | s | l | x | b
  deriving DecidableEq, Repr

/-- One field of one register: BAR0 offset, lowest bit, width, reset value, access, class, and whether it is in the
shared class D (R13). A register wider than 32 bits is one field of up to 64 bits at its low offset (R59). -/
structure Field where
  off : Nat
  lo : Nat
  w : Nat
  reset : Nat
  acc : Access
  cls : Class
  shared : Bool
  deriving DecidableEq, Repr

/-- The cell of a field: its bit address. -/
def Field.key (f : Field) : Nat := f.off * 8 + f.lo

/-- The cells of the register file, keys rising. -/
abbrev Bank := Assoc Nat

/-- The value of field `f` in a bank: its cell, or its reset value. -/
def Bank.get (b : Bank) (f : Field) : Nat := (Assoc.find b f.key).getD f.reset

/-- The bank with field `f` at `v` cut to the field's width. -/
def Bank.set (b : Bank) (f : Field) (v : Nat) : Bank :=
  if v % 2 ^ f.w = f.reset then Assoc.erase b f.key else Assoc.insert b f.key (v % 2 ^ f.w)

/-- A row of the register index: a base offset, up to three repeat counts with their strides, and the fields of the
instance at index 0. -/
structure RegRow where
  base : Nat
  n1 : Nat
  s1 : Nat
  n2 : Nat
  s2 : Nat
  n3 : Nat
  s3 : Nat
  fields : List Field
  deriving DecidableEq, Repr

/-- Reset values that the register maps give per instance: the PLL multipliers (13_clocks_and_plls.md Table CLK-3),
the filters of the groups (01_pixel_array_and_exposure.md R23), the identity look-up tables
(07_pixel_pipeline_and_seams.md R229: `L[k] = 64 k`) and the diagonal of the Sorrel matrix
(08_sorrel_reference_compare.md Table SOR-10). -/
def fixReset (f : Field) : Field :=
  if (0x100100 ≤ f.off ∧ f.off < 0x1001A0) ∧ (f.off % 0x20 = 0 ∧ f.lo = 4 ∨ f.off % 0x20 = 4 ∧ f.lo = 20) then
    { f with reset := match (f.off - 0x100100) / 0x20 with | 0 => 60 | 1 => 72 | _ => 80 }
  else if (0x30100 ≤ f.off ∧ f.off < 0x30160) ∧ f.off % 0x10 = 0 ∧ f.lo = 8 then
    { f with reset := match (f.off - 0x30100) / 0x10 with | 0 => 0 | 1 => 1 | 2 => 2 | 3 => 3 | 4 => 3 | _ => 4 }
  else if (0x220000 ≤ f.off ∧ f.off < 0x2A0000) ∧ (f.off - 0x220000) % 0x20000 < 0x14000 then
    { f with reset := 64 * ((f.off - 0x220000) % 0x2000 / 4) }
  else if (0x2A0000 ≤ f.off ∧ f.off < 0x2E0000) ∧ (f.off - 0x2A0000) % 0x10000 < 0x8020 then
    let o := (f.off - 0x2A0000) % 0x10000
    if o < 0x8000 then { f with reset := 64 * (o % 0x2000 / 4) }
    else
      let i := (o - 0x8000) / 8
      let j := (o - 0x8000) % 8 / 2 + f.lo / 16
      { f with reset := if i = j then 0x1000 else 0 }
  else f

/-! ### GLB -/

/-- `GLB_ID.PART` [15:0]: R485, Table REG-20. -/
def F.GLB_ID_PART : Field := ⟨0x00000, 0, 16, 0x2416, .ro, .none, false⟩
/-- `GLB_ID.STEP` [23:16]: R485, Table REG-20. -/
def F.GLB_ID_STEP : Field := ⟨0x00000, 16, 8, 0, .ro, .none, false⟩
/-- `GLB_SUMMARY.SYNCED` [0]: R485, Table REG-21. -/
def F.GLB_SUMMARY_SYNCED : Field := ⟨0x00010, 0, 1, 0, .ro, .none, false⟩
/-- `GLB_SUMMARY.RUNNING` [1]: R485, Table REG-21. -/
def F.GLB_SUMMARY_RUNNING : Field := ⟨0x00010, 1, 1, 0, .ro, .none, false⟩
/-- `GLB_SUMMARY.SAFE` [2]: R485, Table REG-21. -/
def F.GLB_SUMMARY_SAFE : Field := ⟨0x00010, 2, 1, 0, .ro, .none, false⟩
/-- `GLB_SUMMARY.HOLD` [3]: R485, Table REG-21. -/
def F.GLB_SUMMARY_HOLD : Field := ⟨0x00010, 3, 1, 0, .ro, .none, false⟩
/-- `GLB_SUMMARY.LOCKED` [4]: R485, Table REG-21. -/
def F.GLB_SUMMARY_LOCKED : Field := ⟨0x00010, 4, 1, 0, .ro, .none, false⟩
/-- `GLB_SUMMARY.ALARM` [5]: R485, Table REG-21. -/
def F.GLB_SUMMARY_ALARM : Field := ⟨0x00010, 5, 1, 0, .ro, .none, false⟩
/-- `GLB_SUMMARY.EVT_PEND` [6]: R485, Table REG-21. -/
def F.GLB_SUMMARY_EVT_PEND : Field := ⟨0x00010, 6, 1, 0, .ro, .none, false⟩
/-- `GLB_SUMMARY.PLL_GATED` [7]: R485, Table REG-21. -/
def F.GLB_SUMMARY_PLL_GATED : Field := ⟨0x00010, 7, 1, 1, .ro, .none, false⟩
/-- `GLB_SCRATCH.V` [31:0]: R485, Table REG-3. -/
def F.GLB_SCRATCH_V : Field := ⟨0x00020, 0, 32, 0, .rw, .l, false⟩

/-! ### PTC -/

/-- `PTC_PT_CTL.LOAD` [0]: R85, Table PTC-4. -/
def F.PTC_PT_CTL_LOAD : Field := ⟨0x10010, 0, 1, 0, .w1s, .none, false⟩
/-- `PTC_PT_CTL.LF` [1]: R85, Table PTC-4. -/
def F.PTC_PT_CTL_LF : Field := ⟨0x10010, 1, 1, 0, .ro, .none, false⟩
/-- `PTC_PT_CTL.STEPPED` [2]: R85, Table PTC-4. -/
def F.PTC_PT_CTL_STEPPED : Field := ⟨0x10010, 2, 1, 0, .w1c, .none, false⟩
/-- `PTC_PT_CTL.SLEWING` [3]: R85, Table PTC-4. -/
def F.PTC_PT_CTL_SLEWING : Field := ⟨0x10010, 3, 1, 0, .ro, .none, false⟩
/-- `PTC_PT_CTL.HEAD` [4]: R85, Table PTC-4. -/
def F.PTC_PT_CTL_HEAD : Field := ⟨0x10010, 4, 1, 0, .ro, .none, false⟩
/-- `PTC_PT_CTL.LATCH_TMO` [5]: R85, Table PTC-4. -/
def F.PTC_PT_CTL_LATCH_TMO : Field := ⟨0x10010, 5, 1, 0, .w1c, .none, false⟩
/-- `PTC_PT_LOAD.V` [63:0]: R85. -/
def F.PTC_PT_LOAD_V : Field := ⟨0x10018, 0, 64, 0, .rw, .x, false⟩
/-- `PTC_CNT_CTL.EN` [0]: R85, Table PTC-5. -/
def F.PTC_CNT_CTL_EN (i : Nat) : Field := ⟨0x10100 + 0x40 * i, 0, 1, 0, .rw, .l, false⟩
/-- `PTC_CNT_CTL.ARM` [1]: R85, Table PTC-5. -/
def F.PTC_CNT_CTL_ARM (i : Nat) : Field := ⟨0x10100 + 0x40 * i, 1, 1, 0, .rw, .s, false⟩
/-- `PTC_CNT_CTL.ONESHOT` [2]: R85, Table PTC-5. -/
def F.PTC_CNT_CTL_ONESHOT (i : Nat) : Field := ⟨0x10100 + 0x40 * i, 2, 1, 0, .rw, .s, false⟩
/-- `PTC_CNT_CTL.LOG_MATCH` [3]: R85, Table PTC-5. -/
def F.PTC_CNT_CTL_LOG_MATCH (i : Nat) : Field := ⟨0x10100 + 0x40 * i, 3, 1, 0, .rw, .l, false⟩
/-- `PTC_CNT_CTL.LOG_LAP` [4]: R85, Table PTC-5. -/
def F.PTC_CNT_CTL_LOG_LAP (i : Nat) : Field := ⟨0x10100 + 0x40 * i, 4, 1, 0, .rw, .l, false⟩
/-- `PTC_CNT_CTL.SRC` [11:8]: R85, Table PTC-5. -/
def F.PTC_CNT_CTL_SRC (i : Nat) : Field := ⟨0x10100 + 0x40 * i, 8, 4, 0, .rw, .s, false⟩
/-- `PTC_CNT_CTL.SRC_SEL` [17:12]: R85, Table PTC-5. -/
def F.PTC_CNT_CTL_SRC_SEL (i : Nat) : Field := ⟨0x10100 + 0x40 * i, 12, 6, 0, .rw, .s, false⟩
/-- `PTC_CNT_CTL.START` [24]: R85, Table PTC-5. -/
def F.PTC_CNT_CTL_START (i : Nat) : Field := ⟨0x10100 + 0x40 * i, 24, 1, 0, .w1s, .none, false⟩
/-- `PTC_CNT_CTL.STOP` [25]: R85, Table PTC-5. -/
def F.PTC_CNT_CTL_STOP (i : Nat) : Field := ⟨0x10100 + 0x40 * i, 25, 1, 0, .w1s, .none, false⟩
/-- `PTC_CNT_CTL.RST` [26]: R85, Table PTC-5. -/
def F.PTC_CNT_CTL_RST (i : Nat) : Field := ⟨0x10100 + 0x40 * i, 26, 1, 0, .w1s, .none, false⟩
/-- `PTC_CNT_CTL.RUNNING` [27]: R85, Table PTC-5. -/
def F.PTC_CNT_CTL_RUNNING (i : Nat) : Field := ⟨0x10100 + 0x40 * i, 27, 1, 0, .ro, .none, false⟩
/-- `PTC_CNT_PRESC.P` [15:0]: R85, Table PTC-6. -/
def F.PTC_CNT_PRESC_P (i : Nat) : Field := ⟨0x10104 + 0x40 * i, 0, 16, 1, .rw, .s, false⟩
/-- `PTC_CNT_FRAC.F` [23:0]: R85, Table PTC-7. -/
def F.PTC_CNT_FRAC_F (i : Nat) : Field := ⟨0x10108 + 0x40 * i, 0, 24, 0, .rw, .s, false⟩
/-- `PTC_CNT_PERIOD.V` [31:0]: R85. -/
def F.PTC_CNT_PERIOD_V (i : Nat) : Field := ⟨0x1010C + 0x40 * i, 0, 32, 0, .rw, .l, false⟩
/-- `PTC_CNT_CMP.V` [31:0]: R85. -/
def F.PTC_CNT_CMP_V (i : Nat) : Field := ⟨0x10110 + 0x40 * i, 0, 32, 0, .rw, .l, false⟩
/-- `PTC_CNT_COUNT.V` [31:0]: R85. -/
def F.PTC_CNT_COUNT_V (i : Nat) : Field := ⟨0x10114 + 0x40 * i, 0, 32, 0, .ro, .none, false⟩
/-- `PTC_CNT_LINK.MATCH_RST` [7:0]: R85, Table PTC-8. -/
def F.PTC_CNT_LINK_MATCH_RST (i : Nat) : Field := ⟨0x10118 + 0x40 * i, 0, 8, 0, .rw, .s, false⟩
/-- `PTC_CNT_LINK.MATCH_START` [15:8]: R85, Table PTC-8. -/
def F.PTC_CNT_LINK_MATCH_START (i : Nat) : Field := ⟨0x10118 + 0x40 * i, 8, 8, 0, .rw, .s, false⟩
/-- `PTC_CNT_LINK.LAP_RST` [23:16]: R85, Table PTC-8. -/
def F.PTC_CNT_LINK_LAP_RST (i : Nat) : Field := ⟨0x10118 + 0x40 * i, 16, 8, 0, .rw, .s, false⟩
/-- `PTC_CNT_LINK.LAP_START` [31:24]: R85, Table PTC-8. -/
def F.PTC_CNT_LINK_LAP_START (i : Nat) : Field := ⟨0x10118 + 0x40 * i, 24, 8, 0, .rw, .s, false⟩
/-- `PTC_CNT_CAPTCTL.CAPT_SRC` [2:0]: R85, Table PTC-9. -/
def F.PTC_CNT_CAPTCTL_CAPT_SRC (i : Nat) : Field := ⟨0x1011C + 0x40 * i, 0, 3, 0, .rw, .s, false⟩
/-- `PTC_CNT_CAPTCTL.CAPT_SEL` [9:4]: R85, Table PTC-9. -/
def F.PTC_CNT_CAPTCTL_CAPT_SEL (i : Nat) : Field := ⟨0x1011C + 0x40 * i, 4, 6, 0, .rw, .s, false⟩
/-- `PTC_CNT_CAPTCTL.CAPT_NOW` [16]: R85, Table PTC-9. -/
def F.PTC_CNT_CAPTCTL_CAPT_NOW (i : Nat) : Field := ⟨0x1011C + 0x40 * i, 16, 1, 0, .w1s, .none, false⟩
/-- `PTC_CNT_STAT.SHORT_LAP` [0]: R85, Table PTC-10. -/
def F.PTC_CNT_STAT_SHORT_LAP (i : Nat) : Field := ⟨0x10120 + 0x40 * i, 0, 1, 0, .w1c, .none, false⟩
/-- `PTC_CNT_STAT.MULTI_LAP` [1]: R85, Table PTC-10. -/
def F.PTC_CNT_STAT_MULTI_LAP (i : Nat) : Field := ⟨0x10120 + 0x40 * i, 1, 1, 0, .w1c, .none, false⟩
/-- `PTC_CNT_STAT.BACKLAP` [2]: R85, Table PTC-10. -/
def F.PTC_CNT_STAT_BACKLAP (i : Nat) : Field := ⟨0x10120 + 0x40 * i, 2, 1, 0, .w1c, .none, false⟩
/-- `PTC_CNT_STAT.CAPT_OVR` [3]: R85, Table PTC-10. -/
def F.PTC_CNT_STAT_CAPT_OVR (i : Nat) : Field := ⟨0x10120 + 0x40 * i, 3, 1, 0, .w1c, .none, false⟩
/-- `PTC_CNT_STAT.CAPT_PEND` [4]: R85, Table PTC-10. -/
def F.PTC_CNT_STAT_CAPT_PEND (i : Nat) : Field := ⟨0x10120 + 0x40 * i, 4, 1, 0, .ro, .none, false⟩
/-- `PTC_CNT_STAT.CMP_UNREACH` [5]: R85, Table PTC-10. -/
def F.PTC_CNT_STAT_CMP_UNREACH (i : Nat) : Field := ⟨0x10120 + 0x40 * i, 5, 1, 0, .ro, .none, false⟩
/-- `PTC_CNT_STAT.MATCHED` [6]: R85, Table PTC-10. -/
def F.PTC_CNT_STAT_MATCHED (i : Nat) : Field := ⟨0x10120 + 0x40 * i, 6, 1, 0, .w1c, .none, false⟩
/-- `PTC_CNT_STAT.LAPPED` [7]: R85, Table PTC-10. -/
def F.PTC_CNT_STAT_LAPPED (i : Nat) : Field := ⟨0x10120 + 0x40 * i, 7, 1, 0, .w1c, .none, false⟩
/-- `PTC_CNT_STAT.LOG_MISSED` [23:16]: R85, Table PTC-10. -/
def F.PTC_CNT_STAT_LOG_MISSED (i : Nat) : Field := ⟨0x10120 + 0x40 * i, 16, 8, 0, .ro, .none, false⟩
/-- `PTC_CNT_CAPT_CNT.V` [31:0]: R85. -/
def F.PTC_CNT_CAPT_CNT_V (i : Nat) : Field := ⟨0x10124 + 0x40 * i, 0, 32, 0, .ro, .none, false⟩
/-- `PTC_CNT_CAPT_PT.V` [63:0]: R85. -/
def F.PTC_CNT_CAPT_PT_V (i : Nat) : Field := ⟨0x10128 + 0x40 * i, 0, 64, 0, .ro, .none, false⟩
/-- `PTC_ENC_CTL.MODE` [1:0]: R85, Table PTC-11. -/
def F.PTC_ENC_CTL_MODE : Field := ⟨0x10400, 0, 2, 0, .rw, .s, false⟩
/-- `PTC_ENC_CTL.INVERT` [2]: R85, Table PTC-11. -/
def F.PTC_ENC_CTL_INVERT : Field := ⟨0x10400, 2, 1, 0, .rw, .s, false⟩
/-- `PTC_ENC_CTL.Z_GATE` [3]: R85, Table PTC-11. -/
def F.PTC_ENC_CTL_Z_GATE : Field := ⟨0x10400, 3, 1, 0, .rw, .s, false⟩
/-- `PTC_ENC_CTL.Z_RST` [4]: R85, Table PTC-11. -/
def F.PTC_ENC_CTL_Z_RST : Field := ⟨0x10400, 4, 1, 0, .rw, .s, false⟩
/-- `PTC_ENC_CTL.Z_EDGE` [5]: R85, Table PTC-11. -/
def F.PTC_ENC_CTL_Z_EDGE : Field := ⟨0x10400, 5, 1, 0, .rw, .s, false⟩
/-- `PTC_ENC_CTL.GLITCH` [15:8]: R85, Table PTC-11. -/
def F.PTC_ENC_CTL_GLITCH : Field := ⟨0x10400, 8, 8, 8, .rw, .s, false⟩
/-- `PTC_ENC_CTL.POS_CLR` [16]: R85, Table PTC-11. -/
def F.PTC_ENC_CTL_POS_CLR : Field := ⟨0x10400, 16, 1, 0, .w1s, .none, false⟩
/-- `PTC_ENC_POS.V` [63:0]: R85. -/
def F.PTC_ENC_POS_V : Field := ⟨0x10410, 0, 64, 0, .ro, .none, false⟩
/-- `PTC_ENC_Z_POS.V` [63:0]: R85. -/
def F.PTC_ENC_Z_POS_V : Field := ⟨0x10420, 0, 64, 0, .ro, .none, false⟩
/-- `PTC_ENC_Z_PT.V` [63:0]: R85. -/
def F.PTC_ENC_Z_PT_V : Field := ⟨0x10428, 0, 64, 0, .ro, .none, false⟩
/-- `PTC_ENC_STAT.QUAD_ERR` [0]: R85, Table PTC-12. -/
def F.PTC_ENC_STAT_QUAD_ERR : Field := ⟨0x10440, 0, 1, 0, .w1c, .none, false⟩
/-- `PTC_ENC_STAT.POS_STALE` [1]: R85, Table PTC-12. -/
def F.PTC_ENC_STAT_POS_STALE : Field := ⟨0x10440, 1, 1, 0, .w1c, .none, false⟩
/-- `PTC_ENC_STAT.Z_SEEN` [2]: R85, Table PTC-12. -/
def F.PTC_ENC_STAT_Z_SEEN : Field := ⟨0x10440, 2, 1, 0, .w1c, .none, false⟩
/-- `PTC_ENC_STAT.DIR` [3]: R85, Table PTC-12. -/
def F.PTC_ENC_STAT_DIR : Field := ⟨0x10440, 3, 1, 0, .ro, .none, false⟩
/-- `PTC_ENC_STAT.LFRES` [4]: R85, Table PTC-12. -/
def F.PTC_ENC_STAT_LFRES : Field := ⟨0x10440, 4, 1, 0, .ro, .none, false⟩
/-- `PTC_ENC_STAT.QUAD_ERRS` [31:16]: R85, Table PTC-12. -/
def F.PTC_ENC_STAT_QUAD_ERRS : Field := ⟨0x10440, 16, 16, 0, .ro, .none, false⟩
/-- `PTC_EDGE_CTL.SNAP` [0]: R85, Table PTC-13. -/
def F.PTC_EDGE_CTL_SNAP : Field := ⟨0x10450, 0, 1, 0, .w1s, .none, false⟩
/-- `PTC_EDGE_CTL.SNAP_VALID` [1]: R85, Table PTC-13. -/
def F.PTC_EDGE_CTL_SNAP_VALID : Field := ⟨0x10450, 1, 1, 0, .ro, .none, false⟩

/-! ### THY -/

/-- `THY_CTL.EN` [0]: R124, Table THY-9. -/
def F.THY_CTL_EN : Field := ⟨0x20000, 0, 1, 0, .rw, .l, false⟩
/-- `THY_CTL.MODE` [2:1]: R124, Table THY-9. -/
def F.THY_CTL_MODE : Field := ⟨0x20000, 1, 2, 0, .rw, .s, false⟩
/-- `THY_CTL.INTERP` [3]: R124, Table THY-9. -/
def F.THY_CTL_INTERP : Field := ⟨0x20000, 3, 1, 1, .rw, .s, false⟩
/-- `THY_CTL.PAT_LEN` [14:8]: R124, Table THY-9. -/
def F.THY_CTL_PAT_LEN : Field := ⟨0x20000, 8, 7, 1, .rw, .s, true⟩
/-- `THY_CTL.START` [16]: R124, Table THY-9. -/
def F.THY_CTL_START : Field := ⟨0x20000, 16, 1, 0, .w1s, .none, false⟩
/-- `THY_CTL.STOP` [17]: R124, Table THY-9. -/
def F.THY_CTL_STOP : Field := ⟨0x20000, 17, 1, 0, .w1s, .none, false⟩
/-- `THY_CTL.RUNNING` [24]: R124, Table THY-9. -/
def F.THY_CTL_RUNNING : Field := ⟨0x20000, 24, 1, 0, .ro, .none, false⟩
/-- `THY_CTL.SYNCED` [25]: R124, Table THY-9. -/
def F.THY_CTL_SYNCED : Field := ⟨0x20000, 25, 1, 0, .ro, .none, false⟩
/-- `THY_LEAD.LEAD` [15:0]: R124, Table THY-10. -/
def F.THY_LEAD_LEAD : Field := ⟨0x20004, 0, 16, 0x1770, .rw, .s, false⟩
/-- `THY_LEAD.LEAD_EFF` [31:16]: R124, Table THY-10. -/
def F.THY_LEAD_LEAD_EFF : Field := ⟨0x20004, 16, 16, 0x1770, .ro, .none, false⟩
/-- `THY_MINPER.MINPER` [16:0]: R124, Table THY-11. -/
def F.THY_MINPER_MINPER : Field := ⟨0x20008, 0, 17, 0x9C4, .rw, .s, true⟩
/-- `THY_FLOOR.FLOOR` [16:0]: R124, Table THY-12. -/
def F.THY_FLOOR_FLOOR : Field := ⟨0x2000C, 0, 17, 0x9C4, .ro, .none, false⟩
/-- `THY_PITCH.PITCH` [31:0]: R124, Table THY-13. -/
def F.THY_PITCH_PITCH : Field := ⟨0x20010, 0, 32, 0x10000, .rw, .s, false⟩
/-- `THY_DIV_P.V` [15:0]: R124. -/
def F.THY_DIV_P_V : Field := ⟨0x20014, 0, 16, 1, .rw, .s, false⟩
/-- `THY_DIV_F.V` [23:0]: R124. -/
def F.THY_DIV_F_V : Field := ⟨0x20018, 0, 24, 0, .rw, .s, false⟩
/-- `THY_CNTPITCH.CPITCH` [31:0]: R124, Table THY-14. -/
def F.THY_CNTPITCH_CPITCH : Field := ⟨0x2001C, 0, 32, 0, .rw, .s, false⟩
/-- `THY_VEL.WIN` [5:0]: R124, Table THY-15. -/
def F.THY_VEL_WIN : Field := ⟨0x20020, 0, 6, 0x10, .rw, .s, false⟩
/-- `THY_VEL.SHIFT` [10:8]: R124, Table THY-15. -/
def F.THY_VEL_SHIFT : Field := ⟨0x20020, 8, 3, 2, .rw, .s, false⟩
/-- `THY_VEL.STALL` [23:16]: R124, Table THY-15. -/
def F.THY_VEL_STALL : Field := ⟨0x20020, 16, 8, 0x10, .rw, .s, false⟩
/-- `THY_VEL.VALID` [31]: R124, Table THY-15. -/
def F.THY_VEL_VALID : Field := ⟨0x20020, 31, 1, 0, .ro, .none, false⟩
/-- `THY_TC.V` [63:0]: R124. -/
def F.THY_TC_V : Field := ⟨0x20028, 0, 64, 0, .ro, .none, false⟩
/-- `THY_TPER.TPER` [31:0]: R124, Table THY-16. -/
def F.THY_TPER_TPER : Field := ⟨0x20030, 0, 32, 0x9C400, .rw, .s, false⟩
/-- `THY_TRIG.EDGE` [0]: R124, Table THY-17. -/
def F.THY_TRIG_EDGE : Field := ⟨0x20034, 0, 1, 0, .rw, .s, false⟩
/-- `THY_TRIG.TO_SRC` [9:8]: R124, Table THY-17. -/
def F.THY_TRIG_TO_SRC : Field := ⟨0x20034, 8, 2, 0, .rw, .s, false⟩
/-- `THY_TRIG.TO_WIDTH` [23:16]: R124, Table THY-17. -/
def F.THY_TRIG_TO_WIDTH : Field := ⟨0x20034, 16, 8, 0x10, .rw, .s, false⟩
/-- `THY_SEG.SEGLEN` [16:0]: R124, Table THY-18. -/
def F.THY_SEG_SEGLEN : Field := ⟨0x20040, 0, 17, 0x10000, .rw, .s, false⟩
/-- `THY_SEG.SRC_LEN` [20]: R124, Table THY-18. -/
def F.THY_SEG_SRC_LEN : Field := ⟨0x20040, 20, 1, 1, .rw, .s, false⟩
/-- `THY_SEG.SRC_Z` [21]: R124, Table THY-18. -/
def F.THY_SEG_SRC_Z : Field := ⟨0x20040, 21, 1, 0, .rw, .s, false⟩
/-- `THY_SEG.SRC_LVL` [22]: R124, Table THY-18. -/
def F.THY_SEG_SRC_LVL : Field := ⟨0x20040, 22, 1, 0, .rw, .s, false⟩
/-- `THY_SEG.SRC_HOST` [23]: R124, Table THY-18. -/
def F.THY_SEG_SRC_HOST : Field := ⟨0x20040, 23, 1, 0, .rw, .s, false⟩
/-- `THY_SEG.LVL_SEL` [29:24]: R124, Table THY-18. -/
def F.THY_SEG_LVL_SEL : Field := ⟨0x20040, 24, 6, 0, .rw, .s, false⟩
/-- `THY_SEG.NOW` [31]: R124, Table THY-18. -/
def F.THY_SEG_NOW : Field := ⟨0x20040, 31, 1, 0, .w1s, .none, false⟩
/-- `THY_LN_NEXT.V` [47:0]: R124. -/
def F.THY_LN_NEXT_V : Field := ⟨0x20050, 0, 48, 0, .rw, .x, false⟩
/-- `THY_SN_NEXT.V` [31:0]: R124. -/
def F.THY_SN_NEXT_V : Field := ⟨0x20058, 0, 32, 0, .rw, .x, false⟩
/-- `THY_LN.V` [47:0]: R124. -/
def F.THY_LN_V : Field := ⟨0x20060, 0, 48, 0, .ro, .none, false⟩
/-- `THY_SN.V` [31:0]: R124. -/
def F.THY_SN_V : Field := ⟨0x20068, 0, 32, 0, .ro, .none, false⟩
/-- `THY_RING_PI.PI` [9:0]: R124, Table THY-19. -/
def F.THY_RING_PI_PI : Field := ⟨0x20070, 0, 10, 0, .rw, .l, false⟩
/-- `THY_RING_CI.CI` [9:0]: R124, Table THY-20. -/
def F.THY_RING_CI_CI : Field := ⟨0x20074, 0, 10, 0, .ro, .none, false⟩
/-- `THY_STAT.STALLED` [0]: R124, Table THY-21. -/
def F.THY_STAT_STALLED : Field := ⟨0x20080, 0, 1, 0, .ro, .none, false⟩
/-- `THY_STAT.RING_EMPTY` [1]: R124, Table THY-21. -/
def F.THY_STAT_RING_EMPTY : Field := ⟨0x20080, 1, 1, 0, .ro, .none, false⟩
/-- `THY_STAT.LEAD_RAISED` [2]: R124, Table THY-21. -/
def F.THY_STAT_LEAD_RAISED : Field := ⟨0x20080, 2, 1, 0, .ro, .none, false⟩
/-- `THY_STAT.SKIPPED` [3]: R124, Table THY-21. -/
def F.THY_STAT_SKIPPED : Field := ⟨0x20080, 3, 1, 0, .w1c, .none, false⟩
/-- `THY_STAT.SEG_SUPP` [4]: R124, Table THY-21. -/
def F.THY_STAT_SEG_SUPP : Field := ⟨0x20080, 4, 1, 0, .w1c, .none, false⟩
/-- `THY_STAT.SEG_FORCED` [5]: R124, Table THY-21. -/
def F.THY_STAT_SEG_FORCED : Field := ⟨0x20080, 5, 1, 0, .w1c, .none, false⟩
/-- `THY_STAT.HELD` [6]: R124, Table THY-21. -/
def F.THY_STAT_HELD : Field := ⟨0x20080, 6, 1, 0, .w1c, .none, false⟩
/-- `THY_SKIP.V` [31:0]: R124. -/
def F.THY_SKIP_V (i : Nat) : Field := ⟨0x20090 + 0x4 * i, 0, 32, 0, .ro, .none, false⟩

/-! ### ARR -/

/-- `ARR_INFO.ACTIVE_COLS` [15:0]: R54, Table ARR-8. -/
def F.ARR_INFO_ACTIVE_COLS : Field := ⟨0x30000, 0, 16, 0x4000, .ro, .none, false⟩
/-- `ARR_INFO.DARK_PER_END` [23:16]: R54, Table ARR-8. -/
def F.ARR_INFO_DARK_PER_END : Field := ⟨0x30000, 16, 8, 0x40, .ro, .none, false⟩
/-- `ARR_INFO.ROWS` [28:24]: R54, Table ARR-8. -/
def F.ARR_INFO_ROWS : Field := ⟨0x30000, 24, 5, 0x18, .ro, .none, false⟩
/-- `ARR_GRP.EN` [0]: R54, Table ARR-9. -/
def F.ARR_GRP_EN (i : Nat) : Field := ⟨0x30100 + 0x10 * i, 0, 1, 1, .rw, .s, true⟩
/-- `ARR_GRP.HCG` [1]: R54, Table ARR-9. -/
def F.ARR_GRP_HCG (i : Nat) : Field := ⟨0x30100 + 0x10 * i, 1, 1, 0, .rw, .s, true⟩
/-- `ARR_GRP.ABIN` [5:4]: R54, Table ARR-9. -/
def F.ARR_GRP_ABIN (i : Nat) : Field := ⟨0x30100 + 0x10 * i, 4, 2, 0, .rw, .s, true⟩
/-- `ARR_GRP.TDI` [7:6]: R54, Table ARR-9. -/
def F.ARR_GRP_TDI (i : Nat) : Field := ⟨0x30100 + 0x10 * i, 6, 2, 0, .rw, .s, true⟩
/-- `ARR_GRP.FILTER` [10:8]: R54, Table ARR-9. -/
def F.ARR_GRP_FILTER (i : Nat) : Field := fixReset ⟨0x30100 + 0x10 * i, 8, 3, 0, .ro, .none, false⟩
/-- `ARR_CWIN.CONV_START` [15:0]: R54, Table ARR-10. -/
def F.ARR_CWIN_CONV_START (i : Nat) : Field := ⟨0x30104 + 0x10 * i, 0, 16, 0, .ro, .none, false⟩
/-- `ARR_CWIN.CONV_END` [31:16]: R54, Table ARR-10. -/
def F.ARR_CWIN_CONV_END (i : Nat) : Field := ⟨0x30104 + 0x10 * i, 16, 16, 0, .ro, .none, false⟩
/-- `ARR_WIN.FIRST_CG` [8:0]: R54, Table ARR-11. -/
def F.ARR_WIN_FIRST_CG : Field := ⟨0x30200, 0, 9, 1, .rw, .s, false⟩
/-- `ARR_WIN.LAST_CG` [24:16]: R54, Table ARR-11. -/
def F.ARR_WIN_LAST_CG : Field := ⟨0x30200, 16, 9, 0x100, .rw, .s, false⟩
/-- `ARR_DARK.GUARD` [5:0]: R54, Table ARR-12. -/
def F.ARR_DARK_GUARD : Field := ⟨0x30210, 0, 6, 8, .rw, .s, true⟩
/-- `ARR_STRB_EN.EN` [5:0]: R54, Table ARR-13. -/
def F.ARR_STRB_EN_EN : Field := ⟨0x30300, 0, 6, 0, .rw, .s, true⟩
/-- `ARR_STRB_MAXON.MAXON` [15:0]: R54, Table ARR-14. -/
def F.ARR_STRB_MAXON_MAXON (i : Nat) : Field := ⟨0x30310 + 0x4 * i, 0, 16, 0, .rw, .s, true⟩
/-- `ARR_STRB_STAT.MAXON_HIT` [5:0]: R54, Table ARR-15. -/
def F.ARR_STRB_STAT_MAXON_HIT : Field := ⟨0x30340, 0, 6, 0, .w1c, .none, false⟩
/-- `ARR_STRB_STAT.FORCED` [13:8]: R54, Table ARR-15. -/
def F.ARR_STRB_STAT_FORCED : Field := ⟨0x30340, 8, 6, 0x3F, .ro, .none, false⟩
/-- `ARR_STRB_STAT.KILL_CAUSE` [18:16]: R54, Table ARR-15. -/
def F.ARR_STRB_STAT_KILL_CAUSE : Field := ⟨0x30340, 16, 3, 3, .ro, .none, false⟩
/-- `ARR_STRB_STAT.KILL_CLR` [19]: R54, Table ARR-15. -/
def F.ARR_STRB_STAT_KILL_CLR : Field := ⟨0x30340, 19, 1, 0, .w1s, .none, false⟩
/-- `ARR_HDR.PAIR_EN` [0]: R54, Table ARR-16. -/
def F.ARR_HDR_PAIR_EN : Field := ⟨0x30400, 0, 1, 0, .rw, .s, true⟩
/-- `ARR_HDR_RATIO.V` [31:0]: R54. -/
def F.ARR_HDR_RATIO_V (i : Nat) : Field := ⟨0x30440 + 0x4 * i, 0, 32, 0, .ro, .none, false⟩
/-- `ARR_STAT.PWR_OK` [0]: R54, Table ARR-17. -/
def F.ARR_STAT_PWR_OK : Field := ⟨0x30500, 0, 1, 0, .ro, .none, false⟩
/-- `ARR_STAT.HELD` [1]: R54, Table ARR-17. -/
def F.ARR_STAT_HELD : Field := ⟨0x30500, 1, 1, 1, .ro, .none, false⟩
/-- `ARR_STAT.FLUSH` [2]: R54, Table ARR-17. -/
def F.ARR_STAT_FLUSH : Field := ⟨0x30500, 2, 1, 0, .ro, .none, false⟩
/-- `ARR_TDI_BREAKS.V` [31:0]: R54. -/
def F.ARR_TDI_BREAKS_V : Field := ⟨0x30510, 0, 32, 0, .ro, .none, false⟩

/-! ### CNV -/

/-- `CNV_INFO.CONVERTERS` [15:0]: R151, Table CNV-9. -/
def F.CNV_INFO_CONVERTERS : Field := ⟨0x40000, 0, 16, 0xC486, .ro, .none, false⟩
/-- `CNV_INFO.SPARES` [25:16]: R151, Table CNV-9. -/
def F.CNV_INFO_SPARES : Field := ⟨0x40000, 16, 10, 0x306, .ro, .none, false⟩
/-- `CNV_PRESET.PRESET` [2:0]: R151, Table CNV-10. -/
def F.CNV_PRESET_PRESET : Field := ⟨0x40010, 0, 3, 2, .rw, .s, true⟩
/-- `CNV_PRESET.SHIFT_OVR` [8]: R151, Table CNV-10. -/
def F.CNV_PRESET_SHIFT_OVR : Field := ⟨0x40010, 8, 1, 0, .rw, .s, true⟩
/-- `CNV_SHIFT.S1` [3:0]: R151, Table CNV-11. -/
def F.CNV_SHIFT_S1 : Field := ⟨0x40014, 0, 4, 0, .rw, .s, true⟩
/-- `CNV_SHIFT.S2` [11:8]: R151, Table CNV-11. -/
def F.CNV_SHIFT_S2 : Field := ⟨0x40014, 8, 4, 0, .rw, .s, true⟩
/-- `CNV_SHIFT.S3` [19:16]: R151, Table CNV-11. -/
def F.CNV_SHIFT_S3 : Field := ⟨0x40014, 16, 4, 8, .rw, .s, true⟩
/-- `CNV_SHIFT_EFF.S1` [3:0]: R151, Table CNV-12. -/
def F.CNV_SHIFT_EFF_S1 : Field := ⟨0x40018, 0, 4, 0, .ro, .none, false⟩
/-- `CNV_SHIFT_EFF.S2` [11:8]: R151, Table CNV-12. -/
def F.CNV_SHIFT_EFF_S2 : Field := ⟨0x40018, 8, 4, 0, .ro, .none, false⟩
/-- `CNV_SHIFT_EFF.S3` [19:16]: R151, Table CNV-12. -/
def F.CNV_SHIFT_EFF_S3 : Field := ⟨0x40018, 16, 4, 8, .ro, .none, false⟩
/-- `CNV_FS.FS` [27:0]: R151, Table CNV-13. -/
def F.CNV_FS_FS : Field := ⟨0x4001C, 0, 28, 0xB2C00, .ro, .none, false⟩
/-- `CNV_FS.CLAMPS` [31]: R151, Table CNV-13. -/
def F.CNV_FS_CLAMPS : Field := ⟨0x4001C, 31, 1, 0, .ro, .none, false⟩
/-- `CNV_TEST.RUN` [0]: R151, Table CNV-14. -/
def F.CNV_TEST_RUN : Field := ⟨0x40100, 0, 1, 0, .w1s, .none, false⟩
/-- `CNV_TEST.ABORT` [1]: R151, Table CNV-14. -/
def F.CNV_TEST_ABORT : Field := ⟨0x40100, 1, 1, 0, .w1s, .none, false⟩
/-- `CNV_TEST.FAIL_CLR` [2]: R151, Table CNV-14. -/
def F.CNV_TEST_FAIL_CLR : Field := ⟨0x40100, 2, 1, 0, .w1s, .none, false⟩
/-- `CNV_TEST.TOL` [15:8]: R151, Table CNV-14. -/
def F.CNV_TEST_TOL : Field := ⟨0x40100, 8, 8, 0x40, .rw, .l, false⟩
/-- `CNV_TEST_STAT.BUSY` [0]: R151, Table CNV-15. -/
def F.CNV_TEST_STAT_BUSY : Field := ⟨0x40104, 0, 1, 0, .ro, .none, false⟩
/-- `CNV_TEST_STAT.DONE` [1]: R151, Table CNV-15. -/
def F.CNV_TEST_STAT_DONE : Field := ⟨0x40104, 1, 1, 0, .w1c, .none, false⟩
/-- `CNV_TEST_STAT.ABORTED` [2]: R151, Table CNV-15. -/
def F.CNV_TEST_STAT_ABORTED : Field := ⟨0x40104, 2, 1, 0, .w1c, .none, false⟩
/-- `CNV_TEST_STAT.FAILS` [31:16]: R151, Table CNV-15. -/
def F.CNV_TEST_STAT_FAILS : Field := ⟨0x40104, 16, 16, 0, .ro, .none, false⟩
/-- `CNV_BG.EN` [0]: R151, Table CNV-16. -/
def F.CNV_BG_EN : Field := ⟨0x40110, 0, 1, 1, .rw, .l, false⟩
/-- `CNV_STAT.SPARES_IN_USE` [9:0]: R151, Table CNV-16. -/
def F.CNV_STAT_SPARES_IN_USE : Field := ⟨0x40200, 0, 10, 0, .ro, .none, false⟩
/-- `CNV_STAT.SPARES_FAILED` [25:16]: R151, Table CNV-16. -/
def F.CNV_STAT_SPARES_FAILED : Field := ⟨0x40200, 16, 10, 0, .ro, .none, false⟩
/-- `CNV_SAT_LINES.V` [31:0]: R151. -/
def F.CNV_SAT_LINES_V : Field := ⟨0x40210, 0, 32, 0, .ro, .none, false⟩
/-- `CNV_SPARE.MEMBER` [5:0]: R151, Table CNV-5. -/
def F.CNV_SPARE_MEMBER (i : Nat) : Field := ⟨0x41000 + 0x4 * i, 0, 6, 0, .rw, .s, false⟩
/-- `CNV_SPARE.EN` [6]: R151, Table CNV-5. -/
def F.CNV_SPARE_EN (i : Nat) : Field := ⟨0x41000 + 0x4 * i, 6, 1, 0, .rw, .s, false⟩
/-- `CNV_SPARE.IN_USE` [8]: R151, Table CNV-5. -/
def F.CNV_SPARE_IN_USE (i : Nat) : Field := ⟨0x41000 + 0x4 * i, 8, 1, 0, .ro, .none, false⟩
/-- `CNV_SPARE.SPARE_FAIL` [9]: R151, Table CNV-5. -/
def F.CNV_SPARE_SPARE_FAIL (i : Nat) : Field := ⟨0x41000 + 0x4 * i, 9, 1, 0, .ro, .none, false⟩
/-- `CNV_SPARE.MEMBER_FAIL` [10]: R151, Table CNV-5. -/
def F.CNV_SPARE_MEMBER_FAIL (i : Nat) : Field := ⟨0x41000 + 0x4 * i, 10, 1, 0, .ro, .none, false⟩

/-! ### LFL -/

/-- `LFL_INFO.DETECTORS` [6:0]: R177, Table LFL-6. -/
def F.LFL_INFO_DETECTORS : Field := ⟨0x50000, 0, 7, 0x40, .ro, .none, false⟩
/-- `LFL_INFO.ROM_ENTRIES` [12:8]: R177, Table LFL-6. -/
def F.LFL_INFO_ROM_ENTRIES : Field := ⟨0x50000, 8, 5, 0x10, .ro, .none, false⟩
/-- `LFL_CTL.DECIM` [1:0]: R177, Table LFL-7. -/
def F.LFL_CTL_DECIM : Field := ⟨0x50010, 0, 2, 0, .rw, .s, true⟩
/-- `LFL_CTL.DSHIFT` [5:4]: R177, Table LFL-7. -/
def F.LFL_CTL_DSHIFT : Field := ⟨0x50010, 4, 2, 0, .rw, .s, true⟩
/-- `LFL_GRP.RANK_MODE` [2:0]: R177, Table LFL-8. -/
def F.LFL_GRP_RANK_MODE (i : Nat) : Field := ⟨0x50100 + 0x10 * i, 0, 3, 0, .rw, .s, true⟩
/-- `LFL_GRP.RANK_TAPS` [3]: R177, Table LFL-8. -/
def F.LFL_GRP_RANK_TAPS (i : Nat) : Field := ⟨0x50100 + 0x10 * i, 3, 1, 0, .rw, .s, true⟩
/-- `LFL_GRP.RANK_K` [6:4]: R177, Table LFL-8. -/
def F.LFL_GRP_RANK_K (i : Nat) : Field := ⟨0x50100 + 0x10 * i, 4, 3, 0, .rw, .s, true⟩
/-- `LFL_GRP.RSHIFT` [9:8]: R177, Table LFL-8. -/
def F.LFL_GRP_RSHIFT (i : Nat) : Field := ⟨0x50100 + 0x10 * i, 8, 2, 0, .rw, .s, true⟩
/-- `LFL_GRP.FIR` [15:12]: R177, Table LFL-8. -/
def F.LFL_GRP_FIR (i : Nat) : Field := ⟨0x50100 + 0x10 * i, 12, 4, 0, .rw, .s, true⟩
/-- `LFL_GRP.FSHIFT` [19:16]: R177, Table LFL-8. -/
def F.LFL_GRP_FSHIFT (i : Nat) : Field := ⟨0x50100 + 0x10 * i, 16, 4, 0, .rw, .s, true⟩
/-- `LFL_GRP.FSHIFT_AUTO` [20]: R177, Table LFL-8. -/
def F.LFL_GRP_FSHIFT_AUTO (i : Nat) : Field := ⟨0x50100 + 0x10 * i, 20, 1, 1, .rw, .s, true⟩
/-- `LFL_GD.SPAN` [4:0]: R177, Table LFL-9. -/
def F.LFL_GD_SPAN (i : Nat) : Field := ⟨0x50104 + 0x10 * i, 0, 5, 1, .ro, .none, false⟩
/-- `LFL_GD.GD2` [12:8]: R177, Table LFL-9. -/
def F.LFL_GD_GD2 (i : Nat) : Field := ⟨0x50104 + 0x10 * i, 8, 5, 0, .ro, .none, false⟩
/-- `LFL_GD.TOTAL2` [20:16]: R177, Table LFL-9. -/
def F.LFL_GD_TOTAL2 (i : Nat) : Field := ⟨0x50104 + 0x10 * i, 16, 5, 0, .ro, .none, false⟩
/-- `LFL_CLAMP_LO.V` [31:0]: R177. -/
def F.LFL_CLAMP_LO_V : Field := ⟨0x50210, 0, 32, 0, .ro, .none, false⟩
/-- `LFL_EVT_CTL.MODE` [1:0]: R177, Table LFL-15. -/
def F.LFL_EVT_CTL_MODE (i : Nat) : Field := ⟨0x50300 + 0x4 * i, 0, 2, 0, .rw, .s, false⟩
/-- `LFL_EVT_CTL.POL` [2]: R177, Table LFL-15. -/
def F.LFL_EVT_CTL_POL (i : Nat) : Field := ⟨0x50300 + 0x4 * i, 2, 1, 0, .rw, .s, false⟩
/-- `LFL_EVT_CTL.WIDTH` [15:8]: R177, Table LFL-15. -/
def F.LFL_EVT_CTL_WIDTH (i : Nat) : Field := ⟨0x50300 + 0x4 * i, 8, 8, 0x10, .rw, .s, false⟩
/-- `LFL_EVT_SRC.V` [63:0]: R177. -/
def F.LFL_EVT_SRC_V (i : Nat) : Field := ⟨0x50320 + 0x8 * i, 0, 64, 0, .rw, .s, false⟩
/-- `LFL_DET_CTL.EN` [0]: R177, Table LFL-10. -/
def F.LFL_DET_CTL_EN (i : Nat) : Field := ⟨0x51000 + 0x40 * i, 0, 1, 0, .rw, .s, false⟩
/-- `LFL_DET_CTL.MODE` [2:1]: R177, Table LFL-10. -/
def F.LFL_DET_CTL_MODE (i : Nat) : Field := ⟨0x51000 + 0x40 * i, 1, 2, 0, .rw, .s, false⟩
/-- `LFL_DET_CTL.POL` [3]: R177, Table LFL-10. -/
def F.LFL_DET_CTL_POL (i : Nat) : Field := ⟨0x51000 + 0x40 * i, 3, 1, 0, .rw, .s, false⟩
/-- `LFL_DET_CTL.GROUP` [6:4]: R177, Table LFL-10. -/
def F.LFL_DET_CTL_GROUP (i : Nat) : Field := ⟨0x51000 + 0x40 * i, 4, 3, 0, .rw, .s, false⟩
/-- `LFL_DET_CTL.TAP` [7]: R177, Table LFL-10. -/
def F.LFL_DET_CTL_TAP (i : Nat) : Field := ⟨0x51000 + 0x40 * i, 7, 1, 0, .rw, .s, false⟩
/-- `LFL_DET_CTL.REDUCE` [9:8]: R177, Table LFL-10. -/
def F.LFL_DET_CTL_REDUCE (i : Nat) : Field := ⟨0x51000 + 0x40 * i, 8, 2, 0, .rw, .s, false⟩
/-- `LFL_DET_CTL.EDGES` [11:10]: R177, Table LFL-10. -/
def F.LFL_DET_CTL_EDGES (i : Nat) : Field := ⟨0x51000 + 0x40 * i, 10, 2, 3, .rw, .s, false⟩
/-- `LFL_DET_CTL.EVAL_UNSETTLED` [12]: R177, Table LFL-10. -/
def F.LFL_DET_CTL_EVAL_UNSETTLED (i : Nat) : Field := ⟨0x51000 + 0x40 * i, 12, 1, 0, .rw, .s, false⟩
/-- `LFL_DET_CTL.REC_EN` [13]: R177, Table LFL-10. -/
def F.LFL_DET_CTL_REC_EN (i : Nat) : Field := ⟨0x51000 + 0x40 * i, 13, 1, 1, .rw, .s, false⟩
/-- `LFL_DET_CTL.QUAL` [23:16]: R177, Table LFL-10. -/
def F.LFL_DET_CTL_QUAL (i : Nat) : Field := ⟨0x51000 + 0x40 * i, 16, 8, 1, .rw, .s, false⟩
/-- `LFL_DET_COLS.FIRST_COL` [13:0]: R177, Table LFL-11. -/
def F.LFL_DET_COLS_FIRST_COL (i : Nat) : Field := ⟨0x51004 + 0x40 * i, 0, 14, 0, .rw, .s, false⟩
/-- `LFL_DET_COLS.LAST_COL` [29:16]: R177, Table LFL-11. -/
def F.LFL_DET_COLS_LAST_COL (i : Nat) : Field := ⟨0x51004 + 0x40 * i, 16, 14, 0x3FFF, .rw, .s, false⟩
/-- `LFL_DET_TH_LO.TH` [21:0]: R177, Table LFL-12. -/
def F.LFL_DET_TH_LO_TH (i : Nat) : Field := ⟨0x51008 + 0x40 * i, 0, 22, 0, .rw, .s, false⟩
/-- `LFL_DET_TH_HI.TH` [21:0]: R177, Table LFL-12. -/
def F.LFL_DET_TH_HI_TH (i : Nat) : Field := ⟨0x5100C + 0x40 * i, 0, 22, 0x3FFFFF, .rw, .s, false⟩
/-- `LFL_DET_EDGE.TOL` [15:0]: R177, Table LFL-13. -/
def F.LFL_DET_EDGE_TOL (i : Nat) : Field := ⟨0x51010 + 0x40 * i, 0, 16, 0x100, .rw, .s, false⟩
/-- `LFL_DET_STAT.STATE` [1:0]: R177, Table LFL-14. -/
def F.LFL_DET_STAT_STATE (i : Nat) : Field := ⟨0x51014 + 0x40 * i, 0, 2, 0, .ro, .none, false⟩
/-- `LFL_DET_STAT.FIRED` [2]: R177, Table LFL-14. -/
def F.LFL_DET_STAT_FIRED (i : Nat) : Field := ⟨0x51014 + 0x40 * i, 2, 1, 0, .w1c, .none, false⟩
/-- `LFL_DET_STAT.QUEUED` [10:8]: R177, Table LFL-14. -/
def F.LFL_DET_STAT_QUEUED (i : Nat) : Field := ⟨0x51014 + 0x40 * i, 8, 3, 0, .ro, .none, false⟩
/-- `LFL_DET_STAT.LOST` [31:16]: R177, Table LFL-14. -/
def F.LFL_DET_STAT_LOST (i : Nat) : Field := ⟨0x51014 + 0x40 * i, 16, 16, 0, .ro, .none, false⟩
/-- `LFL_DET_VALUE.V` [23:0]: R177. -/
def F.LFL_DET_VALUE_V (i : Nat) : Field := ⟨0x51018 + 0x40 * i, 0, 24, 0, .ro, .none, false⟩

/-! ### CAL -/

/-- `CAL_CTL.REBUILD` [0]: R214, Table CAL-7. -/
def F.CAL_CTL_REBUILD : Field := ⟨0x60000, 0, 1, 0, .w1s, .none, false⟩
/-- `CAL_CTL.AUTO` [1]: R214, Table CAL-7. -/
def F.CAL_CTL_AUTO : Field := ⟨0x60000, 1, 1, 1, .rw, .l, false⟩
/-- `CAL_CTL.REPAIR_AUTO` [2]: R214, Table CAL-7. -/
def F.CAL_CTL_REPAIR_AUTO : Field := ⟨0x60000, 2, 1, 0, .rw, .l, false⟩
/-- `CAL_SETS.EN` [7:0]: R214, Table CAL-8. -/
def F.CAL_SETS_EN : Field := ⟨0x60010, 0, 8, 0, .rw, .l, false⟩
/-- `CAL_SETS.VALID` [15:8]: R214, Table CAL-8. -/
def F.CAL_SETS_VALID : Field := ⟨0x60010, 8, 8, 0, .ro, .none, false⟩
/-- `CAL_SETS.REJECTED` [23:16]: R214, Table CAL-8. -/
def F.CAL_SETS_REJECTED : Field := ⟨0x60010, 16, 8, 0, .w1c, .none, false⟩
/-- `CAL_TEMP.HYST` [7:0]: R214, Table CAL-9. -/
def F.CAL_TEMP_HYST : Field := ⟨0x60014, 0, 8, 4, .rw, .l, false⟩
/-- `CAL_TEMP.EXT_TOL` [15:8]: R214, Table CAL-9. -/
def F.CAL_TEMP_EXT_TOL : Field := ⟨0x60014, 8, 8, 0x10, .rw, .l, false⟩
/-- `CAL_GRP.MODE` [1:0]: R214, Table CAL-10. -/
def F.CAL_GRP_MODE (i : Nat) : Field := ⟨0x60100 + 0x10 * i, 0, 2, 1, .rw, .s, true⟩
/-- `CAL_GRP.DARK_TRACK` [2]: R214, Table CAL-10. -/
def F.CAL_GRP_DARK_TRACK (i : Nat) : Field := ⟨0x60100 + 0x10 * i, 2, 1, 1, .rw, .s, true⟩
/-- `CAL_GRP.FILL` [3]: R214, Table CAL-10. -/
def F.CAL_GRP_FILL (i : Nat) : Field := ⟨0x60100 + 0x10 * i, 3, 1, 1, .rw, .s, true⟩
/-- `CAL_GRP.FILL_REACH` [7:4]: R214, Table CAL-10. -/
def F.CAL_GRP_FILL_REACH (i : Nat) : Field := ⟨0x60100 + 0x10 * i, 4, 4, 4, .rw, .s, true⟩
/-- `CAL_SCALE.SCALE` [31:0]: R214, Table CAL-11. -/
def F.CAL_SCALE_SCALE (i : Nat) : Field := ⟨0x60104 + 0x10 * i, 0, 32, 0x4000, .rw, .s, true⟩
/-- `CAL_DARK.ALPHA` [3:0]: R214, Table CAL-12. -/
def F.CAL_DARK_ALPHA : Field := ⟨0x60200, 0, 4, 4, .rw, .s, true⟩
/-- `CAL_SC.EN` [0]: R214, Table CAL-13. -/
def F.CAL_SC_EN : Field := ⟨0x60300, 0, 1, 1, .rw, .l, false⟩
/-- `CAL_SC.PHASE` [15:4]: R214, Table CAL-13. -/
def F.CAL_SC_PHASE : Field := ⟨0x60300, 4, 12, 0, .rw, .s, true⟩
/-- `CAL_SC.SHIFT` [18:16]: R214, Table CAL-13. -/
def F.CAL_SC_SHIFT : Field := ⟨0x60300, 16, 3, 3, .rw, .l, false⟩
/-- `CAL_SC.FULL` [20]: R214, Table CAL-13. -/
def F.CAL_SC_FULL : Field := ⟨0x60300, 20, 1, 0, .w1s, .none, false⟩
/-- `CAL_STAT.SEED` [0]: R214, Table CAL-14. -/
def F.CAL_STAT_SEED : Field := ⟨0x60400, 0, 1, 1, .ro, .none, false⟩
/-- `CAL_STAT.EXTRAP` [1]: R214, Table CAL-14. -/
def F.CAL_STAT_EXTRAP : Field := ⟨0x60400, 1, 1, 1, .ro, .none, false⟩
/-- `CAL_STAT.BUILDING` [2]: R214, Table CAL-14. -/
def F.CAL_STAT_BUILDING : Field := ⟨0x60400, 2, 1, 0, .ro, .none, false⟩
/-- `CAL_STAT.PENDING` [3]: R214, Table CAL-14. -/
def F.CAL_STAT_PENDING : Field := ⟨0x60400, 3, 1, 0, .ro, .none, false⟩
/-- `CAL_STAT.PROPOSED` [4]: R214, Table CAL-14. -/
def F.CAL_STAT_PROPOSED : Field := ⟨0x60400, 4, 1, 0, .w1c, .none, false⟩
/-- `CAL_STAT.CAPT_BUSY` [5]: R214, Table CAL-14. -/
def F.CAL_STAT_CAPT_BUSY : Field := ⟨0x60400, 5, 1, 0, .ro, .none, false⟩
/-- `CAL_STAT.FULL_BUSY` [6]: R214, Table CAL-14. -/
def F.CAL_STAT_FULL_BUSY : Field := ⟨0x60400, 6, 1, 0, .ro, .none, false⟩
/-- `CAL_STAT.SETS_USED` [11:8]: R214, Table CAL-14. -/
def F.CAL_STAT_SETS_USED : Field := ⟨0x60400, 8, 4, 0, .ro, .none, false⟩
/-- `CAL_ZONE.TEMP` [15:0]: R214, Table CAL-15. -/
def F.CAL_ZONE_TEMP (i : Nat) : Field := ⟨0x60410 + 0x4 * i, 0, 16, 0, .ro, .none, false⟩
/-- `CAL_ZONE.LO_SET` [18:16]: R214, Table CAL-15. -/
def F.CAL_ZONE_LO_SET (i : Nat) : Field := ⟨0x60410 + 0x4 * i, 16, 3, 0, .ro, .none, false⟩
/-- `CAL_ZONE.HI_SET` [22:20]: R214, Table CAL-15. -/
def F.CAL_ZONE_HI_SET (i : Nat) : Field := ⟨0x60410 + 0x4 * i, 20, 3, 0, .ro, .none, false⟩
/-- `CAL_ZONE.CLAMPED` [23]: R214, Table CAL-15. -/
def F.CAL_ZONE_CLAMPED (i : Nat) : Field := ⟨0x60410 + 0x4 * i, 23, 1, 0, .ro, .none, false⟩
/-- `CAL_SWAPS.V` [31:0]: R214. -/
def F.CAL_SWAPS_V : Field := ⟨0x60440, 0, 32, 0, .ro, .none, false⟩
/-- `CAL_SWAP_SN.V` [31:0]: R214. -/
def F.CAL_SWAP_SN_V : Field := ⟨0x60444, 0, 32, 0, .ro, .none, false⟩
/-- `CAL_SWAP_PT.V` [63:0]: R214. -/
def F.CAL_SWAP_PT_V : Field := ⟨0x60448, 0, 64, 0, .ro, .none, false⟩
/-- `CAL_FILLED.V` [31:0]: R214. -/
def F.CAL_FILLED_V : Field := ⟨0x60450, 0, 32, 0, .ro, .none, false⟩
/-- `CAL_NEG.V` [31:0]: R214. -/
def F.CAL_NEG_V : Field := ⟨0x60454, 0, 32, 0, .ro, .none, false⟩
/-- `CAL_CAPT.KIND` [1:0]: R214, Table CAL-16. -/
def F.CAL_CAPT_KIND : Field := ⟨0x60500, 0, 2, 0, .rw, .l, false⟩
/-- `CAL_CAPT.GROUPS` [9:4]: R214, Table CAL-16. -/
def F.CAL_CAPT_GROUPS : Field := ⟨0x60500, 4, 6, 0x3F, .rw, .l, false⟩
/-- `CAL_CAPT.LOG2N` [13:10]: R214, Table CAL-16. -/
def F.CAL_CAPT_LOG2N : Field := ⟨0x60500, 10, 4, 8, .rw, .l, false⟩
/-- `CAL_CAPT.START` [16]: R214, Table CAL-16. -/
def F.CAL_CAPT_START : Field := ⟨0x60500, 16, 1, 0, .w1s, .none, false⟩
/-- `CAL_CAPT.DONE` [17]: R214, Table CAL-16. -/
def F.CAL_CAPT_DONE : Field := ⟨0x60500, 17, 1, 0, .w1c, .none, false⟩
/-- `CAL_CAPT.SLOT` [22:20]: R214, Table CAL-16. -/
def F.CAL_CAPT_SLOT : Field := ⟨0x60500, 20, 3, 0, .rw, .l, false⟩
/-- `CAL_CAPT_LINES.V` [31:0]: R214. -/
def F.CAL_CAPT_LINES_V : Field := ⟨0x60504, 0, 32, 0, .ro, .none, false⟩

/-! ### PIP -/

/-- `PIP_CTL.COLOUR_EN` [0]: R251, Table PIP-6. -/
def F.PIP_CTL_COLOUR_EN : Field := ⟨0x80000, 0, 1, 1, .rw, .s, true⟩
/-- `PIP_CTL.INSP_EN` [1]: R251, Table PIP-6. -/
def F.PIP_CTL_INSP_EN : Field := ⟨0x80000, 1, 1, 0, .rw, .s, true⟩
/-- `PIP_CTL.HALF` [2]: R251, Table PIP-6. -/
def F.PIP_CTL_HALF : Field := ⟨0x80000, 2, 1, 0, .rw, .s, true⟩
/-- `PIP_ALIGN.AMAX` [5:0]: R251, Table PIP-7. -/
def F.PIP_ALIGN_AMAX : Field := ⟨0x80004, 0, 6, 0x1E, .ro, .none, false⟩
/-- `PIP_ALIGN.HELD` [13:8]: R251, Table PIP-7. -/
def F.PIP_ALIGN_HELD : Field := ⟨0x80004, 8, 6, 0x1E, .ro, .none, false⟩
/-- `PIP_ALIGN.HALF_ACTIVE` [16]: R251, Table PIP-7. -/
def F.PIP_ALIGN_HALF_ACTIVE : Field := ⟨0x80004, 16, 1, 0, .ro, .none, false⟩
/-- `PIP_SEAM.OVL_W` [8:0]: R251, Table PIP-8. -/
def F.PIP_SEAM_OVL_W : Field := ⟨0x80100, 0, 9, 0, .rw, .s, false⟩
/-- `PIP_SEAM.OVL_E` [24:16]: R251, Table PIP-8. -/
def F.PIP_SEAM_OVL_E : Field := ⟨0x80100, 16, 9, 0, .rw, .s, false⟩
/-- `PIP_SEAM_STAG.STAGGER` [12:0]: R251, Table PIP-9. -/
def F.PIP_SEAM_STAG_STAGGER : Field := ⟨0x80104, 0, 13, 0, .rw, .s, false⟩
/-- `PIP_SEAM_STAG.WAIT` [23:16]: R251, Table PIP-9. -/
def F.PIP_SEAM_STAG_WAIT : Field := ⟨0x80104, 16, 8, 0x10, .rw, .s, false⟩
/-- `PIP_SEAMW.XFRAC` [7:0]: R251, Table PIP-10. -/
def F.PIP_SEAMW_XFRAC : Field := ⟨0x80108, 0, 8, 0, .rw, .s, false⟩
/-- `PIP_SEAMW.RAMP` [9:8]: R251, Table PIP-10. -/
def F.PIP_SEAMW_RAMP : Field := ⟨0x80108, 8, 2, 0, .rw, .s, false⟩
/-- `PIP_SEAMW_GM.GM` [15:0]: R251, Table PIP-11. -/
def F.PIP_SEAMW_GM_GM (i : Nat) : Field := ⟨0x80110 + 0x4 * i, 0, 16, 0x4000, .rw, .s, false⟩
/-- `PIP_SEAM_STAT.DROPPING` [0]: R251, Table PIP-12. -/
def F.PIP_SEAM_STAT_DROPPING : Field := ⟨0x80140, 0, 1, 0, .ro, .none, false⟩
/-- `PIP_SEAM_STAT.OVF` [1]: R251, Table PIP-12. -/
def F.PIP_SEAM_STAT_OVF : Field := ⟨0x80140, 1, 1, 0, .w1c, .none, false⟩
/-- `PIP_SEAM_STAT.LATE` [2]: R251, Table PIP-12. -/
def F.PIP_SEAM_STAT_LATE : Field := ⟨0x80140, 2, 1, 0, .w1c, .none, false⟩
/-- `PIP_SEAM_STAT.LATE_LINES` [31:16]: R251, Table PIP-12. -/
def F.PIP_SEAM_STAT_LATE_LINES : Field := ⟨0x80140, 16, 16, 0, .ro, .none, false⟩
/-- `PIP_INSP.GRID` [1:0]: R251, Table PIP-13. -/
def F.PIP_INSP_GRID : Field := ⟨0x80200, 0, 2, 1, .rw, .s, true⟩
/-- `PIP_INSP.XPHASE` [6:4]: R251, Table PIP-13. -/
def F.PIP_INSP_XPHASE : Field := ⟨0x80200, 4, 3, 0, .rw, .s, false⟩
/-- `PIP_INSP.SRC0` [10:8]: R251, Table PIP-13. -/
def F.PIP_INSP_SRC0 : Field := ⟨0x80200, 8, 3, 0, .rw, .s, true⟩
/-- `PIP_INSP.SRC1` [14:12]: R251, Table PIP-13. -/
def F.PIP_INSP_SRC1 : Field := ⟨0x80200, 12, 3, 1, .rw, .s, true⟩
/-- `PIP_INSP.SRC2` [18:16]: R251, Table PIP-13. -/
def F.PIP_INSP_SRC2 : Field := ⟨0x80200, 16, 3, 2, .rw, .s, true⟩
/-- `PIP_INSP.SRC3` [22:20]: R251, Table PIP-13. -/
def F.PIP_INSP_SRC3 : Field := ⟨0x80200, 20, 3, 4, .rw, .s, true⟩
/-- `PIP_INSP.HOST_RING` [27:24]: R251, Table PIP-13. -/
def F.PIP_INSP_HOST_RING : Field := ⟨0x80200, 24, 4, 0, .rw, .s, false⟩
/-- `PIP_INSP.HOST_EN` [28]: R251, Table PIP-13. -/
def F.PIP_INSP_HOST_EN : Field := ⟨0x80200, 28, 1, 0, .rw, .s, false⟩
/-- `PIP_INSP_STG.STG_KIB` [13:0]: R251, Table PIP-16. -/
def F.PIP_INSP_STG_STG_KIB : Field := ⟨0x80204, 0, 14, 0, .rw, .s, false⟩
/-- `PIP_INSP_STAT.DROPPING` [0]: R251, Table PIP-17. -/
def F.PIP_INSP_STAT_DROPPING : Field := ⟨0x80208, 0, 1, 0, .ro, .none, false⟩
/-- `PIP_INSP_STAT.TRUNC` [1]: R251, Table PIP-17. -/
def F.PIP_INSP_STAT_TRUNC : Field := ⟨0x80208, 1, 1, 0, .w1c, .none, false⟩
/-- `PIP_INSP_STAT.TRUNC_SEGS` [31:16]: R251, Table PIP-17. -/
def F.PIP_INSP_STAT_TRUNC_SEGS : Field := ⟨0x80208, 16, 16, 0, .ro, .none, false⟩
/-- `PIP_SUBST.V` [31:0]: R251. -/
def F.PIP_SUBST_V : Field := ⟨0x80310, 0, 32, 0, .ro, .none, false⟩
/-- `PIP_ROI_CTL.EN` [0]: R251, Table PIP-14. -/
def F.PIP_ROI_CTL_EN (i : Nat) : Field := ⟨0x81000 + 0x20 * i, 0, 1, 0, .rw, .s, false⟩
/-- `PIP_ROI_CTL.XBIN` [2:1]: R251, Table PIP-14. -/
def F.PIP_ROI_CTL_XBIN (i : Nat) : Field := ⟨0x81000 + 0x20 * i, 1, 2, 0, .rw, .s, false⟩
/-- `PIP_ROI_CTL.PACK` [6:4]: R251, Table PIP-14. -/
def F.PIP_ROI_CTL_PACK (i : Nat) : Field := ⟨0x81000 + 0x20 * i, 4, 3, 0, .rw, .s, false⟩
/-- `PIP_ROI_CTL.PLANES` [14:8]: R251, Table PIP-14. -/
def F.PIP_ROI_CTL_PLANES (i : Nat) : Field := ⟨0x81000 + 0x20 * i, 8, 7, 0x7F, .rw, .s, false⟩
/-- `PIP_ROI_CTL.RING` [19:16]: R251, Table PIP-14. -/
def F.PIP_ROI_CTL_RING (i : Nat) : Field := ⟨0x81000 + 0x20 * i, 16, 4, 0, .rw, .s, false⟩
/-- `PIP_ROI_COLS.FIRST_COL` [13:0]: R251, Table PIP-15. -/
def F.PIP_ROI_COLS_FIRST_COL (i : Nat) : Field := ⟨0x81004 + 0x20 * i, 0, 14, 0, .rw, .s, false⟩
/-- `PIP_ROI_COLS.LAST_COL` [29:16]: R251, Table PIP-15. -/
def F.PIP_ROI_COLS_LAST_COL (i : Nat) : Field := ⟨0x81004 + 0x20 * i, 16, 14, 0x3FFF, .rw, .s, false⟩
/-- `PIP_ROI_STG.STG_KIB` [13:0]: R251, Table PIP-16. -/
def F.PIP_ROI_STG_STG_KIB (i : Nat) : Field := ⟨0x81008 + 0x20 * i, 0, 14, 0, .rw, .s, false⟩
/-- `PIP_ROI_STAT.DROPPING` [0]: R251, Table PIP-17. -/
def F.PIP_ROI_STAT_DROPPING (i : Nat) : Field := ⟨0x8100C + 0x20 * i, 0, 1, 0, .ro, .none, false⟩
/-- `PIP_ROI_STAT.TRUNC` [1]: R251, Table PIP-17. -/
def F.PIP_ROI_STAT_TRUNC (i : Nat) : Field := ⟨0x8100C + 0x20 * i, 1, 1, 0, .w1c, .none, false⟩
/-- `PIP_ROI_STAT.TRUNC_SEGS` [31:16]: R251, Table PIP-17. -/
def F.PIP_ROI_STAT_TRUNC_SEGS (i : Nat) : Field := ⟨0x8100C + 0x20 * i, 16, 16, 0, .ro, .none, false⟩

/-! ### SOR -/

/-- `SOR_CTL.EN` [0]: R282, Table SOR-12. -/
def F.SOR_CTL_EN : Field := ⟨0xA0010, 0, 1, 0, .rw, .s, true⟩
/-- `SOR_CTL.EVAL_FLAGGED` [1]: R282, Table SOR-12. -/
def F.SOR_CTL_EVAL_FLAGGED : Field := ⟨0xA0010, 1, 1, 0, .rw, .s, true⟩
/-- `SOR_CTL.DEF_CLASS` [7:4]: R282, Table SOR-12. -/
def F.SOR_CTL_DEF_CLASS : Field := ⟨0xA0010, 4, 4, 0, .rw, .s, false⟩
/-- `SOR_GEOM.CX` [13:0]: R282, Table SOR-13. -/
def F.SOR_GEOM_CX : Field := ⟨0xA0014, 0, 14, 0x1000, .ro, .none, false⟩
/-- `SOR_GEOM.NT` [23:16]: R282, Table SOR-13. -/
def F.SOR_GEOM_NT : Field := ⟨0xA0014, 16, 8, 0x40, .ro, .none, false⟩
/-- `SOR_CLU.GAP` [1:0]: R282, Table SOR-14. -/
def F.SOR_CLU_GAP : Field := ⟨0xA0018, 0, 2, 0, .rw, .s, true⟩
/-- `SOR_CLU.MAX_ROWS` [15:8]: R282, Table SOR-14. -/
def F.SOR_CLU_MAX_ROWS : Field := ⟨0xA0018, 8, 8, 0xFF, .rw, .s, true⟩
/-- `SOR_OUT.RING` [3:0]: R282, Table SOR-15. -/
def F.SOR_OUT_RING : Field := ⟨0xA0020, 0, 4, 0, .rw, .s, false⟩
/-- `SOR_OUT.DEF_EN` [4]: R282, Table SOR-15. -/
def F.SOR_OUT_DEF_EN : Field := ⟨0xA0020, 4, 1, 1, .rw, .s, false⟩
/-- `SOR_OUT.REG_EN` [5]: R282, Table SOR-15. -/
def F.SOR_OUT_REG_EN : Field := ⟨0xA0020, 5, 1, 0, .rw, .s, false⟩
/-- `SOR_OUT.STG_KIB` [21:8]: R282, Table SOR-15. -/
def F.SOR_OUT_STG_KIB : Field := ⟨0xA0020, 8, 14, 0x40, .rw, .s, false⟩
/-- `SOR_REF.RING` [3:0]: R282, Table SOR-15. -/
def F.SOR_REF_RING : Field := ⟨0xA0024, 0, 4, 0, .rw, .s, false⟩
/-- `SOR_RT_CTL.ARM` [0]: R282, Table SOR-16. -/
def F.SOR_RT_CTL_ARM : Field := ⟨0xA0030, 0, 1, 0, .w1s, .none, false⟩
/-- `SOR_RT_CTL.DISARM` [1]: R282, Table SOR-16. -/
def F.SOR_RT_CTL_DISARM : Field := ⟨0xA0030, 1, 1, 0, .w1s, .none, false⟩
/-- `SOR_RT_CTL.SRC` [8:4]: R282, Table SOR-16. -/
def F.SOR_RT_CTL_SRC : Field := ⟨0xA0030, 4, 5, 0, .rw, .l, false⟩
/-- `SOR_RT_CTL.GEN` [23:16]: R282, Table SOR-16. -/
def F.SOR_RT_CTL_GEN : Field := ⟨0xA0030, 16, 8, 0, .rw, .l, false⟩
/-- `SOR_RT_COUNT.V` [16:0]: R282. -/
def F.SOR_RT_COUNT_V : Field := ⟨0xA0034, 0, 17, 0, .rw, .l, false⟩
/-- `SOR_RT_SWAP_SN.V` [31:0]: R282. -/
def F.SOR_RT_SWAP_SN_V : Field := ⟨0xA0038, 0, 32, 0, .rw, .l, false⟩
/-- `SOR_RT_STAT.IN_FORCE` [0]: R282, Table SOR-17. -/
def F.SOR_RT_STAT_IN_FORCE : Field := ⟨0xA003C, 0, 1, 0, .ro, .none, false⟩
/-- `SOR_RT_STAT.VALIDATING` [1]: R282, Table SOR-17. -/
def F.SOR_RT_STAT_VALIDATING : Field := ⟨0xA003C, 1, 1, 0, .ro, .none, false⟩
/-- `SOR_RT_STAT.READY` [2]: R282, Table SOR-17. -/
def F.SOR_RT_STAT_READY : Field := ⟨0xA003C, 2, 1, 0, .ro, .none, false⟩
/-- `SOR_RT_STAT.INVALID` [3]: R282, Table SOR-17. -/
def F.SOR_RT_STAT_INVALID : Field := ⟨0xA003C, 3, 1, 0, .w1c, .none, false⟩
/-- `SOR_RT_STAT.MISSED` [4]: R282, Table SOR-17. -/
def F.SOR_RT_STAT_MISSED : Field := ⟨0xA003C, 4, 1, 0, .w1c, .none, false⟩
/-- `SOR_RT_STAT.REASON` [7:5]: R282, Table SOR-17. -/
def F.SOR_RT_STAT_REASON : Field := ⟨0xA003C, 5, 3, 0, .ro, .none, false⟩
/-- `SOR_RT_STAT.GEN_IN_FORCE` [15:8]: R282, Table SOR-17. -/
def F.SOR_RT_STAT_GEN_IN_FORCE : Field := ⟨0xA003C, 8, 8, 0, .ro, .none, false⟩
/-- `SOR_RT_STAT.BAD_ENTRY` [31:16]: R282, Table SOR-17. -/
def F.SOR_RT_STAT_BAD_ENTRY : Field := ⟨0xA003C, 16, 16, 0, .ro, .none, false⟩
/-- `SOR_ALARM.MODE` [0]: R282, Table SOR-18. -/
def F.SOR_ALARM_MODE : Field := ⟨0xA0040, 0, 1, 0, .rw, .s, false⟩
/-- `SOR_ALARM.SRC_FLOOD` [1]: R282, Table SOR-18. -/
def F.SOR_ALARM_SRC_FLOOD : Field := ⟨0xA0040, 1, 1, 0, .rw, .s, false⟩
/-- `SOR_ALARM.SRC_NOREF` [2]: R282, Table SOR-18. -/
def F.SOR_ALARM_SRC_NOREF : Field := ⟨0xA0040, 2, 1, 0, .rw, .s, false⟩
/-- `SOR_ALARM.WIDTH` [15:8]: R282, Table SOR-18. -/
def F.SOR_ALARM_WIDTH : Field := ⟨0xA0040, 8, 8, 0x10, .rw, .s, false⟩
/-- `SOR_ALARM.CLR` [16]: R282, Table SOR-18. -/
def F.SOR_ALARM_CLR : Field := ⟨0xA0040, 16, 1, 0, .w1s, .none, false⟩
/-- `SOR_ALARM.ACTIVE` [17]: R282, Table SOR-18. -/
def F.SOR_ALARM_ACTIVE : Field := ⟨0xA0040, 17, 1, 0, .ro, .none, false⟩
/-- `SOR_ALARM.FIRED` [18]: R282, Table SOR-18. -/
def F.SOR_ALARM_FIRED : Field := ⟨0xA0040, 18, 1, 0, .w1c, .none, false⟩
/-- `SOR_STAT.FLOOD` [0]: R282, Table SOR-19. -/
def F.SOR_STAT_FLOOD : Field := ⟨0xA0050, 0, 1, 0, .ro, .none, false⟩
/-- `SOR_STAT.FLOODED` [1]: R282, Table SOR-19. -/
def F.SOR_STAT_FLOODED : Field := ⟨0xA0050, 1, 1, 0, .w1c, .none, false⟩
/-- `SOR_STAT.NOREF` [2]: R282, Table SOR-19. -/
def F.SOR_STAT_NOREF : Field := ⟨0xA0050, 2, 1, 0, .w1c, .none, false⟩
/-- `SOR_STAT.CLU_OVF` [3]: R282, Table SOR-19. -/
def F.SOR_STAT_CLU_OVF : Field := ⟨0xA0050, 3, 1, 0, .w1c, .none, false⟩
/-- `SOR_STAT.TRUNC` [4]: R282, Table SOR-19. -/
def F.SOR_STAT_TRUNC : Field := ⟨0xA0050, 4, 1, 0, .w1c, .none, false⟩
/-- `SOR_STAT.DROPPING` [5]: R282, Table SOR-19. -/
def F.SOR_STAT_DROPPING : Field := ⟨0xA0050, 5, 1, 0, .ro, .none, false⟩
/-- `SOR_STAT.REF_ERR` [6]: R282, Table SOR-19. -/
def F.SOR_STAT_REF_ERR : Field := ⟨0xA0050, 6, 1, 0, .w1c, .none, false⟩
/-- `SOR_STAT.OPEN` [26:16]: R282, Table SOR-19. -/
def F.SOR_STAT_OPEN : Field := ⟨0xA0050, 16, 11, 0, .ro, .none, false⟩
/-- `SOR_REG_CTL.SHIFT` [2:0]: R282, Table SOR-20. -/
def F.SOR_REG_CTL_SHIFT : Field := ⟨0xA0060, 0, 3, 2, .rw, .s, false⟩
/-- `SOR_REG_CTL.CH` [15:8]: R282, Table SOR-20. -/
def F.SOR_REG_CTL_CH : Field := ⟨0xA0060, 8, 8, 0xE4, .rw, .s, false⟩
/-- `SOR_REG_CTL.INV` [19:16]: R282, Table SOR-20. -/
def F.SOR_REG_CTL_INV : Field := ⟨0xA0060, 16, 4, 0, .rw, .s, false⟩
/-- `SOR_REG_CTL.MIN_CON` [31:20]: R282, Table SOR-20. -/
def F.SOR_REG_CTL_MIN_CON : Field := ⟨0xA0060, 20, 12, 0x40, .rw, .s, false⟩
/-- `SOR_DEFECTS.V` [31:0]: R282. -/
def F.SOR_DEFECTS_V : Field := ⟨0xA0080, 0, 32, 0, .ro, .none, false⟩
/-- `SOR_WRITTEN.V` [31:0]: R282. -/
def F.SOR_WRITTEN_V : Field := ⟨0xA0084, 0, 32, 0, .ro, .none, false⟩
/-- `SOR_NOREF_ROWS.V` [31:0]: R282. -/
def F.SOR_NOREF_ROWS_V : Field := ⟨0xA0088, 0, 32, 0, .ro, .none, false⟩
/-- `SOR_REF_DISCARD.V` [31:0]: R282. -/
def F.SOR_REF_DISCARD_V : Field := ⟨0xA008C, 0, 32, 0, .ro, .none, false⟩
/-- `SOR_CLASS_CTL.MODE` [1:0]: R282, Table SOR-21. -/
def F.SOR_CLASS_CTL_MODE (i : Nat) : Field := ⟨0xA0100 + 0x10 * i, 0, 2, 0, .rw, .s, true⟩
/-- `SOR_CLASS_CTL.POL` [3:2]: R282, Table SOR-21. -/
def F.SOR_CLASS_CTL_POL (i : Nat) : Field := ⟨0xA0100 + 0x10 * i, 2, 2, 0, .rw, .s, true⟩
/-- `SOR_CLASS_CTL.SEV` [5:4]: R282, Table SOR-21. -/
def F.SOR_CLASS_CTL_SEV (i : Nat) : Field := ⟨0xA0100 + 0x10 * i, 4, 2, 0, .rw, .s, true⟩
/-- `SOR_CLASS_CTL.MIN_CELLS` [15:8]: R282, Table SOR-21. -/
def F.SOR_CLASS_CTL_MIN_CELLS (i : Nat) : Field := ⟨0xA0100 + 0x10 * i, 8, 8, 1, .rw, .s, true⟩
/-- `SOR_CLASS_CTL.W` [31:16]: R282, Table SOR-21. -/
def F.SOR_CLASS_CTL_W (i : Nat) : Field := ⟨0xA0100 + 0x10 * i, 16, 16, 0x4444, .rw, .s, true⟩
/-- `SOR_CLASS_TH.TH` [15:0]: R282, Table SOR-21. -/
def F.SOR_CLASS_TH_TH (i : Nat) : Field := ⟨0xA0104 + 0x10 * i, 0, 16, 0x1000, .rw, .s, true⟩
/-- `SOR_REGW_CTL.EN` [0]: R282, Table SOR-22. -/
def F.SOR_REGW_CTL_EN (i : Nat) : Field := ⟨0xA0200 + 0x10 * i, 0, 1, 0, .rw, .s, false⟩
/-- `SOR_REGW_CTL.PLANES` [4:1]: R282, Table SOR-22. -/
def F.SOR_REGW_CTL_PLANES (i : Nat) : Field := ⟨0xA0200 + 0x10 * i, 1, 4, 0xF, .rw, .s, false⟩
/-- `SOR_REGW_CTL.REPEAT` [31:16]: R282, Table SOR-22. -/
def F.SOR_REGW_CTL_REPEAT (i : Nat) : Field := ⟨0xA0200 + 0x10 * i, 16, 16, 0, .rw, .s, false⟩
/-- `SOR_REGW_POS.X0` [13:0]: R282, Table SOR-22. -/
def F.SOR_REGW_POS_X0 (i : Nat) : Field := ⟨0xA0204 + 0x10 * i, 0, 14, 0, .rw, .s, false⟩
/-- `SOR_REGW_POS.Y0` [31:16]: R282, Table SOR-22. -/
def F.SOR_REGW_POS_Y0 (i : Nat) : Field := ⟨0xA0204 + 0x10 * i, 16, 16, 0, .rw, .s, false⟩
/-- `SOR_REG_SM.SX` [15:0]: R282. -/
def F.SOR_REG_SM_SX (i j : Nat) : Field := ⟨0xA0400 + 0x10 * i + 0x4 * j, 0, 16, 0x8000, .ro, .none, false⟩
/-- `SOR_REG_SM.SY` [31:16]: R282. -/
def F.SOR_REG_SM_SY (i j : Nat) : Field := ⟨0xA0400 + 0x10 * i + 0x4 * j, 16, 16, 0x8000, .ro, .none, false⟩

/-! ### CHV -/

/-- `CHV_INFO.PORTS` [1:0]: R322, Table CHV-13. -/
def F.CHV_INFO_PORTS : Field := ⟨0xC0000, 0, 2, 2, .ro, .none, false⟩
/-- `CHV_INFO.LANES` [3:2]: R322, Table CHV-13. -/
def F.CHV_INFO_LANES : Field := ⟨0xC0000, 2, 2, 2, .ro, .none, false⟩
/-- `CHV_INFO.MAX_CHAIN` [8:4]: R322, Table CHV-13. -/
def F.CHV_INFO_MAX_CHAIN : Field := ⟨0xC0000, 4, 5, 0x18, .ro, .none, false⟩
/-- `CHV_CTL.AUTO_RETRAIN` [0]: R322, Table CHV-14. -/
def F.CHV_CTL_AUTO_RETRAIN : Field := ⟨0xC0010, 0, 1, 1, .rw, .l, false⟩
/-- `CHV_CTL.RETRAIN_CW` [1]: R322, Table CHV-14. -/
def F.CHV_CTL_RETRAIN_CW : Field := ⟨0xC0010, 1, 1, 0, .w1s, .none, false⟩
/-- `CHV_CTL.RETRAIN_CE` [2]: R322, Table CHV-14. -/
def F.CHV_CTL_RETRAIN_CE : Field := ⟨0xC0010, 2, 1, 0, .w1s, .none, false⟩
/-- `CHV_CTL.SKEW_ACT` [4]: R322, Table CHV-14. -/
def F.CHV_CTL_SKEW_ACT : Field := ⟨0xC0010, 4, 1, 0, .rw, .l, false⟩
/-- `CHV_POS.POS` [4:0]: R322, Table CHV-15. -/
def F.CHV_POS_POS : Field := ⟨0xC0014, 0, 5, 0x1F, .ro, .none, false⟩
/-- `CHV_POS.N` [12:8]: R322, Table CHV-15. -/
def F.CHV_POS_N : Field := ⟨0xC0014, 8, 5, 0, .ro, .none, false⟩
/-- `CHV_POS.HEAD` [16]: R322, Table CHV-15. -/
def F.CHV_POS_HEAD : Field := ⟨0xC0014, 16, 1, 0, .ro, .none, false⟩
/-- `CHV_POS.END` [17]: R322, Table CHV-15. -/
def F.CHV_POS_END : Field := ⟨0xC0014, 17, 1, 0, .ro, .none, false⟩
/-- `CHV_POS.POS_CONFLICT` [18]: R322, Table CHV-15. -/
def F.CHV_POS_POS_CONFLICT : Field := ⟨0xC0014, 18, 1, 0, .w1c, .none, false⟩
/-- `CHV_POS.HEAD_CONFLICT` [19]: R322, Table CHV-15. -/
def F.CHV_POS_HEAD_CONFLICT : Field := ⟨0xC0014, 19, 1, 0, .w1c, .none, false⟩
/-- `CHV_SYNC.SYNCED` [0]: R322, Table CHV-16. -/
def F.CHV_SYNC_SYNCED : Field := ⟨0xC0020, 0, 1, 0, .ro, .none, false⟩
/-- `CHV_SYNC.HOLD_RX` [1]: R322, Table CHV-16. -/
def F.CHV_SYNC_HOLD_RX : Field := ⟨0xC0020, 1, 1, 0, .ro, .none, false⟩
/-- `CHV_SYNC.SLEWING` [2]: R322, Table CHV-16. -/
def F.CHV_SYNC_SLEWING : Field := ⟨0xC0020, 2, 1, 0, .ro, .none, false⟩
/-- `CHV_SYNC.LOST_CAUSE` [7:3]: R322, Table CHV-16. -/
def F.CHV_SYNC_LOST_CAUSE : Field := ⟨0xC0020, 3, 5, 0, .ro, .none, false⟩
/-- `CHV_SYNC.PHI` [15:8]: R322, Table CHV-16. -/
def F.CHV_SYNC_PHI : Field := ⟨0xC0020, 8, 8, 0, .ro, .none, false⟩
/-- `CHV_SYNC.DELTA` [31:16]: R322, Table CHV-16. -/
def F.CHV_SYNC_DELTA : Field := ⟨0xC0020, 16, 16, 0, .ro, .none, false⟩
/-- `CHV_SYNCMAP.V` [31:0]: R322. -/
def F.CHV_SYNCMAP_V : Field := ⟨0xC0024, 0, 32, 0, .ro, .none, false⟩
/-- `CHV_DIG_MISMATCH.V` [23:0]: R322. -/
def F.CHV_DIG_MISMATCH_V : Field := ⟨0xC0030, 0, 24, 0, .ro, .none, false⟩
/-- `CHV_DIG_MISSING.V` [23:0]: R322. -/
def F.CHV_DIG_MISSING_V : Field := ⟨0xC0034, 0, 24, 0, .ro, .none, false⟩
/-- `CHV_DIG_SN.V` [31:0]: R322. -/
def F.CHV_DIG_SN_V : Field := ⟨0xC0038, 0, 32, 0, .ro, .none, false⟩
/-- `CHV_ACT_LOST.V` [31:0]: R322. -/
def F.CHV_ACT_LOST_V : Field := ⟨0xC0040, 0, 32, 0, .ro, .none, false⟩
/-- `CHV_PORT_STAT.STATE` [2:0]: R322, Table CHV-17. -/
def F.CHV_PORT_STAT_STATE (i : Nat) : Field := ⟨0xC0100 + 0x40 * i, 0, 3, 0, .ro, .none, false⟩
/-- `CHV_PORT_STAT.LANE_SWAP` [3]: R322, Table CHV-17. -/
def F.CHV_PORT_STAT_LANE_SWAP (i : Nat) : Field := ⟨0xC0100 + 0x40 * i, 3, 1, 0, .ro, .none, false⟩
/-- `CHV_PORT_STAT.POL_INV` [5:4]: R322, Table CHV-17. -/
def F.CHV_PORT_STAT_POL_INV (i : Nat) : Field := ⟨0xC0100 + 0x40 * i, 4, 2, 0, .ro, .none, false⟩
/-- `CHV_PORT_STAT.LAST_FAIL` [9:6]: R322, Table CHV-17. -/
def F.CHV_PORT_STAT_LAST_FAIL (i : Nat) : Field := ⟨0xC0100 + 0x40 * i, 6, 4, 0, .ro, .none, false⟩
/-- `CHV_PORT_STAT.TRAIN_REASON` [11:10]: R322, Table CHV-17. -/
def F.CHV_PORT_STAT_TRAIN_REASON (i : Nat) : Field := ⟨0xC0100 + 0x40 * i, 10, 2, 0, .ro, .none, false⟩
/-- `CHV_PORT_STAT.FAILED` [12]: R322, Table CHV-17. -/
def F.CHV_PORT_STAT_FAILED (i : Nat) : Field := ⟨0xC0100 + 0x40 * i, 12, 1, 0, .w1c, .none, false⟩
/-- `CHV_PORT_ASYM.ASYM` [7:0]: R322, Table CHV-18. -/
def F.CHV_PORT_ASYM_ASYM (i : Nat) : Field := ⟨0xC0104 + 0x40 * i, 0, 8, 0, .rw, .l, false⟩
/-- `CHV_PORT_DELAY.V` [31:0]: R322. -/
def F.CHV_PORT_DELAY_V (i : Nat) : Field := ⟨0xC0108 + 0x40 * i, 0, 32, 0, .ro, .none, false⟩
/-- `CHV_PORT_RTT.V` [31:0]: R322. -/
def F.CHV_PORT_RTT_V (i : Nat) : Field := ⟨0xC010C + 0x40 * i, 0, 32, 0, .ro, .none, false⟩
/-- `CHV_PORT_CRC_ERRS.V` [31:0]: R322. -/
def F.CHV_PORT_CRC_ERRS_V (i : Nat) : Field := ⟨0xC0110 + 0x40 * i, 0, 32, 0, .ro, .none, false⟩
/-- `CHV_PORT_ECHO_MISS.V` [31:0]: R322. -/
def F.CHV_PORT_ECHO_MISS_V (i : Nat) : Field := ⟨0xC0114 + 0x40 * i, 0, 32, 0, .ro, .none, false⟩
/-- `CHV_PORT_FAILS.V` [31:0]: R322. -/
def F.CHV_PORT_FAILS_V (i : Nat) : Field := ⟨0xC0118 + 0x40 * i, 0, 32, 0, .ro, .none, false⟩

/-! ### DMA -/

/-- `DMA_CTL.EN` [0]: R357, Table DMA-13. -/
def F.DMA_CTL_EN : Field := ⟨0xD0000, 0, 1, 0, .rw, .l, false⟩
/-- `DMA_CTL.RO_EN` [1]: R357, Table DMA-13. -/
def F.DMA_CTL_RO_EN : Field := ⟨0xD0000, 1, 1, 1, .rw, .l, false⟩
/-- `DMA_CTL.ERR_VEC` [13:8]: R357, Table DMA-13. -/
def F.DMA_CTL_ERR_VEC : Field := ⟨0xD0000, 8, 6, 0, .rw, .l, false⟩
/-- `DMA_WIN_BASE.BASE` [63:12]: R357. -/
def F.DMA_WIN_BASE_BASE : Field := ⟨0xD0008, 12, 52, 0, .rw, .x, false⟩
/-- `DMA_BW.WR_LIMIT` [7:0]: R357, Table DMA-14. -/
def F.DMA_BW_WR_LIMIT : Field := ⟨0xD0010, 0, 8, 0, .rw, .s, false⟩
/-- `DMA_BW.RD_LIMIT` [15:8]: R357, Table DMA-14. -/
def F.DMA_BW_RD_LIMIT : Field := ⟨0xD0010, 8, 8, 0, .rw, .s, false⟩
/-- `DMA_CHARGE.WR` [15:0]: R357, Table DMA-14. -/
def F.DMA_CHARGE_WR : Field := ⟨0xD0014, 0, 16, 0, .ro, .none, false⟩
/-- `DMA_CHARGE.RD` [31:16]: R357, Table DMA-14. -/
def F.DMA_CHARGE_RD : Field := ⟨0xD0014, 16, 16, 0, .ro, .none, false⟩
/-- `DMA_CAP.LINK` [15:0]: R357, Table DMA-14. -/
def F.DMA_CAP_LINK : Field := ⟨0xD0018, 0, 16, 0x1450, .ro, .none, false⟩
/-- `DMA_EVT.RING` [3:0]: R357, Table DMA-15. -/
def F.DMA_EVT_RING : Field := ⟨0xD0020, 0, 4, 0, .rw, .s, false⟩
/-- `DMA_EVT.EN` [4]: R357, Table DMA-15. -/
def F.DMA_EVT_EN : Field := ⟨0xD0020, 4, 1, 0, .rw, .s, false⟩
/-- `DMA_STAT.LINKED` [0]: R357, Table DMA-15. -/
def F.DMA_STAT_LINKED : Field := ⟨0xD0030, 0, 1, 0, .ro, .none, false⟩
/-- `DMA_STAT.RECOVERING` [1]: R357, Table DMA-15. -/
def F.DMA_STAT_RECOVERING : Field := ⟨0xD0030, 1, 1, 0, .ro, .none, false⟩
/-- `DMA_STAT.LOST` [2]: R357, Table DMA-15. -/
def F.DMA_STAT_LOST : Field := ⟨0xD0030, 2, 1, 0, .w1c, .none, false⟩
/-- `DMA_STAT.EVT_LOST` [3]: R357, Table DMA-15. -/
def F.DMA_STAT_EVT_LOST : Field := ⟨0xD0030, 3, 1, 0, .w1c, .none, false⟩
/-- `DMA_STAT.EVT_LEVEL` [24:16]: R357, Table DMA-15. -/
def F.DMA_STAT_EVT_LEVEL : Field := ⟨0xD0030, 16, 9, 0, .ro, .none, false⟩
/-- `DMA_RING_CTL.EN` [0]: R357, Table DMA-16. -/
def F.DMA_RING_CTL_EN (i : Nat) : Field := ⟨0xD0100 + 0x40 * i, 0, 1, 0, .rw, .s, false⟩
/-- `DMA_RING_CTL.DIR` [1]: R357, Table DMA-16. -/
def F.DMA_RING_CTL_DIR (i : Nat) : Field := ⟨0xD0100 + 0x40 * i, 1, 1, 0, .rw, .s, false⟩
/-- `DMA_RING_CTL.WB_EN` [2]: R357, Table DMA-16. -/
def F.DMA_RING_CTL_WB_EN (i : Nat) : Field := ⟨0xD0100 + 0x40 * i, 2, 1, 0, .rw, .s, false⟩
/-- `DMA_RING_CTL.IRQ_EN` [3]: R357, Table DMA-16. -/
def F.DMA_RING_CTL_IRQ_EN (i : Nat) : Field := ⟨0xD0100 + 0x40 * i, 3, 1, 0, .rw, .l, false⟩
/-- `DMA_RING_CTL.LOG2SIZE` [8:4]: R357, Table DMA-16. -/
def F.DMA_RING_CTL_LOG2SIZE (i : Nat) : Field := ⟨0xD0100 + 0x40 * i, 4, 5, 3, .rw, .s, false⟩
/-- `DMA_RING_CTL.VEC` [14:9]: R357, Table DMA-16. -/
def F.DMA_RING_CTL_VEC (i : Nat) : Field := ⟨0xD0100 + 0x40 * i, 9, 6, 0, .rw, .l, false⟩
/-- `DMA_RING_CTL.BUF_4K` [29:16]: R357, Table DMA-16. -/
def F.DMA_RING_CTL_BUF_4K (i : Nat) : Field := ⟨0xD0100 + 0x40 * i, 16, 14, 1, .rw, .s, false⟩
/-- `DMA_RING_CTL.STOP` [30]: R357, Table DMA-16. -/
def F.DMA_RING_CTL_STOP (i : Nat) : Field := ⟨0xD0100 + 0x40 * i, 30, 1, 0, .w1s, .none, false⟩
/-- `DMA_RING_CTL.STOPPED` [31]: R357, Table DMA-16. -/
def F.DMA_RING_CTL_STOPPED (i : Nat) : Field := ⟨0xD0100 + 0x40 * i, 31, 1, 0, .ro, .none, false⟩
/-- `DMA_RING_BASE.BASE` [23:12]: R357, Table DMA-17. -/
def F.DMA_RING_BASE_BASE (i : Nat) : Field := ⟨0xD0104 + 0x40 * i, 12, 12, 0, .rw, .s, false⟩
/-- `DMA_RING_PI.PI` [16:0]: R357, Table DMA-17. -/
def F.DMA_RING_PI_PI (i : Nat) : Field := ⟨0xD0108 + 0x40 * i, 0, 17, 0, .rw, .l, false⟩
/-- `DMA_RING_CI.CI` [16:0]: R357, Table DMA-17. -/
def F.DMA_RING_CI_CI (i : Nat) : Field := ⟨0xD010C + 0x40 * i, 0, 17, 0, .ro, .none, false⟩
/-- `DMA_RING_WB.WB` [41:3]: R357, Table DMA-18. -/
def F.DMA_RING_WB_WB (i : Nat) : Field := ⟨0xD0110 + 0x40 * i, 3, 39, 0, .rw, .s, false⟩
/-- `DMA_RING_MOD.COUNT` [7:0]: R357, Table DMA-19. -/
def F.DMA_RING_MOD_COUNT (i : Nat) : Field := ⟨0xD0118 + 0x40 * i, 0, 8, 1, .rw, .l, false⟩
/-- `DMA_RING_MOD.TIMER` [23:8]: R357, Table DMA-19. -/
def F.DMA_RING_MOD_TIMER (i : Nat) : Field := ⟨0xD0118 + 0x40 * i, 8, 16, 0, .rw, .l, false⟩
/-- `DMA_RING_AGE.AGE` [15:0]: R357, Table DMA-19. -/
def F.DMA_RING_AGE_AGE (i : Nat) : Field := ⟨0xD011C + 0x40 * i, 0, 16, 0x3E8, .rw, .l, false⟩
/-- `DMA_RING_STAT.STARVED` [0]: R357, Table DMA-20. -/
def F.DMA_RING_STAT_STARVED (i : Nat) : Field := ⟨0xD0120 + 0x40 * i, 0, 1, 0, .ro, .none, false⟩
/-- `DMA_RING_STAT.DROPPING` [1]: R357, Table DMA-20. -/
def F.DMA_RING_STAT_DROPPING (i : Nat) : Field := ⟨0xD0120 + 0x40 * i, 1, 1, 0, .ro, .none, false⟩
/-- `DMA_RING_STAT.ERR` [2]: R357, Table DMA-20. -/
def F.DMA_RING_STAT_ERR (i : Nat) : Field := ⟨0xD0120 + 0x40 * i, 2, 1, 0, .w1c, .none, false⟩
/-- `DMA_RING_STAT.NOT_OWNED` [3]: R357, Table DMA-20. -/
def F.DMA_RING_STAT_NOT_OWNED (i : Nat) : Field := ⟨0xD0120 + 0x40 * i, 3, 1, 0, .w1c, .none, false⟩
/-- `DMA_RING_STAT.LAST_STATUS` [15:8]: R357, Table DMA-20. -/
def F.DMA_RING_STAT_LAST_STATUS (i : Nat) : Field := ⟨0xD0120 + 0x40 * i, 8, 8, 0, .ro, .none, false⟩
/-- `DMA_RING_STAT.ERR_DESCS` [31:16]: R357, Table DMA-20. -/
def F.DMA_RING_STAT_ERR_DESCS (i : Nat) : Field := ⟨0xD0120 + 0x40 * i, 16, 16, 0, .ro, .none, false⟩
/-- `DMA_RING_STREAM.STREAM` [4:0]: R357, Table DMA-20. -/
def F.DMA_RING_STREAM_STREAM (i : Nat) : Field := ⟨0xD0124 + 0x40 * i, 0, 5, 0x1F, .ro, .none, false⟩
/-- `DMA_RING_BYTES.V` [63:0]: R357. -/
def F.DMA_RING_BYTES_V (i : Nat) : Field := ⟨0xD0128 + 0x40 * i, 0, 64, 0, .ro, .none, false⟩

/-! ### CFG -/

/-- `CFG_COMMIT.ID` [15:0]: R383, Table CFG-12. -/
def F.CFG_COMMIT_ID : Field := ⟨0xE0000, 0, 16, 0, .rw, .l, false⟩
/-- `CFG_COMMIT.NOW` [16]: R383, Table CFG-12. -/
def F.CFG_COMMIT_NOW : Field := ⟨0xE0000, 16, 1, 0, .rw, .l, false⟩
/-- `CFG_COMMIT.GO` [24]: R383, Table CFG-12. -/
def F.CFG_COMMIT_GO : Field := ⟨0xE0000, 24, 1, 0, .w1s, .none, false⟩
/-- `CFG_COMMIT.DISCARD` [25]: R383, Table CFG-12. -/
def F.CFG_COMMIT_DISCARD : Field := ⟨0xE0000, 25, 1, 0, .w1s, .none, false⟩
/-- `CFG_COMMIT_SN.V` [31:0]: R383. -/
def F.CFG_COMMIT_SN_V : Field := ⟨0xE0004, 0, 32, 0, .rw, .l, false⟩
/-- `CFG_STAT.STATE` [2:0]: R383, Table CFG-13. -/
def F.CFG_STAT_STATE : Field := ⟨0xE0008, 0, 3, 0, .ro, .none, false⟩
/-- `CFG_STAT.REJECTED` [3]: R383, Table CFG-13. -/
def F.CFG_STAT_REJECTED : Field := ⟨0xE0008, 3, 1, 0, .w1c, .none, false⟩
/-- `CFG_STAT.APPLIED` [4]: R383, Table CFG-13. -/
def F.CFG_STAT_APPLIED : Field := ⟨0xE0008, 4, 1, 0, .w1c, .none, false⟩
/-- `CFG_STAT.ABORTED` [5]: R383, Table CFG-13. -/
def F.CFG_STAT_ABORTED : Field := ⟨0xE0008, 5, 1, 0, .w1c, .none, false⟩
/-- `CFG_STAT.ORPHAN` [6]: R383, Table CFG-13. -/
def F.CFG_STAT_ORPHAN : Field := ⟨0xE0008, 6, 1, 0, .w1c, .none, false⟩
/-- `CFG_STAT.REASON` [15:8]: R383, Table CFG-13. -/
def F.CFG_STAT_REASON : Field := ⟨0xE0008, 8, 8, 0, .ro, .none, false⟩
/-- `CFG_STAT.LAST_ID` [31:16]: R383, Table CFG-13. -/
def F.CFG_STAT_LAST_ID : Field := ⟨0xE0008, 16, 16, 0, .ro, .none, false⟩
/-- `CFG_REJ_OFS.V` [31:0]: R383. -/
def F.CFG_REJ_OFS_V : Field := ⟨0xE000C, 0, 32, 0, .ro, .none, false⟩
/-- `CFG_REJ_POS.V` [23:0]: R383. -/
def F.CFG_REJ_POS_V : Field := ⟨0xE0010, 0, 24, 0, .ro, .none, false⟩
/-- `CFG_APPLIED_SN.V` [31:0]: R383. -/
def F.CFG_APPLIED_SN_V : Field := ⟨0xE0014, 0, 32, 0, .ro, .none, false⟩
/-- `CFG_VIEW.SHADOW` [0]: R383, Table CFG-14. -/
def F.CFG_VIEW_SHADOW : Field := ⟨0xE0018, 0, 1, 0, .rw, .l, false⟩
/-- `CFG_LOCK.LOCK` [0]: R383, Table CFG-14. -/
def F.CFG_LOCK_LOCK : Field := ⟨0xE0020, 0, 1, 0, .w1s, .none, false⟩
/-- `CFG_LOCK.LOCKED` [1]: R383, Table CFG-14. -/
def F.CFG_LOCK_LOCKED : Field := ⟨0xE0020, 1, 1, 0, .ro, .none, false⟩
/-- `CFG_LOCK.SOURCE` [3:2]: R383, Table CFG-14. -/
def F.CFG_LOCK_SOURCE : Field := ⟨0xE0020, 2, 2, 0, .ro, .none, false⟩
/-- `CFG_BOOT_STAT.PHASE` [2:0]: R383, Table CFG-15. -/
def F.CFG_BOOT_STAT_PHASE : Field := ⟨0xE0030, 0, 3, 0, .ro, .none, false⟩
/-- `CFG_BOOT_STAT.SAFE` [3]: R383, Table CFG-15. -/
def F.CFG_BOOT_STAT_SAFE : Field := ⟨0xE0030, 3, 1, 0, .ro, .none, false⟩
/-- `CFG_BOOT_STAT.FAIL` [10:8]: R383, Table CFG-15. -/
def F.CFG_BOOT_STAT_FAIL : Field := ⟨0xE0030, 8, 3, 0, .ro, .none, false⟩
/-- `CFG_BOOT_STAT.FROM_HOST` [11]: R383, Table CFG-15. -/
def F.CFG_BOOT_STAT_FROM_HOST : Field := ⟨0xE0030, 11, 1, 0, .ro, .none, false⟩
/-- `CFG_BOOT_STAT.REREAD` [12]: R383, Table CFG-15. -/
def F.CFG_BOOT_STAT_REREAD : Field := ⟨0xE0030, 12, 1, 0, .ro, .none, false⟩
/-- `CFG_BOOT.HOST_REBOOT` [0]: R383, Table CFG-15. -/
def F.CFG_BOOT_HOST_REBOOT : Field := ⟨0xE0034, 0, 1, 0, .w1s, .none, false⟩
/-- `CFG_IMAGE_ID.V` [31:0]: R383. -/
def F.CFG_IMAGE_ID_V : Field := ⟨0xE0038, 0, 32, 0, .ro, .none, false⟩
/-- `CFG_IMAGE_RB.V` [31:0]: R383. -/
def F.CFG_IMAGE_RB_V : Field := ⟨0xE003C, 0, 32, 0, .ro, .none, false⟩
/-- `CFG_BOOT_COUNT.V` [31:0]: R383. -/
def F.CFG_BOOT_COUNT_V : Field := ⟨0xE0040, 0, 32, 0, .ro, .none, false⟩
/-- `CFG_DIGEST.V` [31:0]: R383. -/
def F.CFG_DIGEST_V (i : Nat) : Field := ⟨0xE0100 + 0x4 * i, 0, 32, 0, .ro, .none, false⟩
/-- `CFG_DIGEST_PEND.V` [31:0]: R383. -/
def F.CFG_DIGEST_PEND_V (i : Nat) : Field := ⟨0xE0120 + 0x4 * i, 0, 32, 0, .ro, .none, false⟩

/-! ### SEC -/

/-- `SEC_STAT.OWNED` [0]: R383, Table CFG-16. -/
def F.SEC_STAT_OWNED : Field := ⟨0xF0000, 0, 1, 0, .ro, .none, false⟩
/-- `SEC_STAT.KEY_USED` [2:1]: R383, Table CFG-16. -/
def F.SEC_STAT_KEY_USED : Field := ⟨0xF0000, 1, 2, 0, .ro, .none, false⟩
/-- `SEC_STAT.KEY_VALID` [3]: R383, Table CFG-16. -/
def F.SEC_STAT_KEY_VALID : Field := ⟨0xF0000, 3, 1, 0, .ro, .none, false⟩
/-- `SEC_STAT.ATT_BUSY` [8]: R383, Table CFG-16. -/
def F.SEC_STAT_ATT_BUSY : Field := ⟨0xF0000, 8, 1, 0, .ro, .none, false⟩
/-- `SEC_STAT.ATT_DONE` [9]: R383, Table CFG-16. -/
def F.SEC_STAT_ATT_DONE : Field := ⟨0xF0000, 9, 1, 0, .w1c, .none, false⟩
/-- `SEC_RB.V` [31:0]: R383. -/
def F.SEC_RB_V : Field := ⟨0xF0010, 0, 32, 0, .ro, .none, false⟩
/-- `SEC_RB_CTL.ADVANCE` [0]: R383, Table CFG-16. -/
def F.SEC_RB_CTL_ADVANCE : Field := ⟨0xF0014, 0, 1, 0, .w1s, .none, false⟩
/-- `SEC_ATTEST.RUN` [0]: R383, Table CFG-16. -/
def F.SEC_ATTEST_RUN : Field := ⟨0xF0020, 0, 1, 0, .w1s, .none, false⟩
/-- `SEC_SLOT_CTL.STATE` [1:0]: R383, Table CFG-17. -/
def F.SEC_SLOT_CTL_STATE (i : Nat) : Field := ⟨0xF0100 + 0x40 * i, 0, 2, 0, .ro, .none, false⟩
/-- `SEC_SLOT_CTL.PROGRAM` [8]: R383, Table CFG-17. -/
def F.SEC_SLOT_CTL_PROGRAM (i : Nat) : Field := ⟨0xF0100 + 0x40 * i, 8, 1, 0, .w1s, .none, false⟩
/-- `SEC_SLOT_CTL.REVOKE` [9]: R383, Table CFG-17. -/
def F.SEC_SLOT_CTL_REVOKE (i : Nat) : Field := ⟨0xF0100 + 0x40 * i, 9, 1, 0, .w1s, .none, false⟩
/-- `SEC_SLOT_HASH.V` [31:0]: R383. -/
def F.SEC_SLOT_HASH_V (i j : Nat) : Field := ⟨0xF0120 + 0x40 * i + 0x4 * j, 0, 32, 0, .rw, .b, false⟩
/-- `SEC_NONCE.V` [31:0]: R383. -/
def F.SEC_NONCE_V (i : Nat) : Field := ⟨0xF0200 + 0x4 * i, 0, 32, 0, .rw, .l, false⟩
/-- `SEC_DEVICE_ID.V` [31:0]: R383. -/
def F.SEC_DEVICE_ID_V (i : Nat) : Field := ⟨0xF0300 + 0x4 * i, 0, 32, 0, .ro, .none, false⟩
/-- `SEC_ID_PK.V` [31:0]: R383. -/
def F.SEC_ID_PK_V (i : Nat) : Field := ⟨0xF0310 + 0x4 * i, 0, 32, 0, .ro, .none, false⟩

/-! ### CLK -/

/-- `CLK_INFO.PLLS` [3:0]: R424, Table CLK-7. -/
def F.CLK_INFO_PLLS : Field := ⟨0x100000, 0, 4, 5, .ro, .none, false⟩
/-- `CLK_INFO.DOMAINS` [8:4]: R424, Table CLK-7. -/
def F.CLK_INFO_DOMAINS : Field := ⟨0x100000, 4, 5, 0x12, .ro, .none, false⟩
/-- `CLK_PLL_CTL.REF_MODE` [1:0]: R424, Table CLK-8. -/
def F.CLK_PLL_CTL_REF_MODE (i : Nat) : Field := ⟨0x100100 + 0x20 * i, 0, 2, 0, .rw, .l, false⟩
/-- `CLK_PLL_CTL.N` [11:4]: R424, Table CLK-8. -/
def F.CLK_PLL_CTL_N (i : Nat) : Field := fixReset ⟨0x100100 + 0x20 * i, 4, 8, 0, .rw, .l, false⟩
/-- `CLK_PLL_CTL.APPLY` [16]: R424, Table CLK-8. -/
def F.CLK_PLL_CTL_APPLY (i : Nat) : Field := ⟨0x100100 + 0x20 * i, 16, 1, 0, .w1s, .none, false⟩
/-- `CLK_PLL_STAT.LOCKED` [0]: R424, Table CLK-9. -/
def F.CLK_PLL_STAT_LOCKED (i : Nat) : Field := ⟨0x100104 + 0x20 * i, 0, 1, 0, .ro, .none, false⟩
/-- `CLK_PLL_STAT.GATED` [1]: R424, Table CLK-9. -/
def F.CLK_PLL_STAT_GATED (i : Nat) : Field := ⟨0x100104 + 0x20 * i, 1, 1, 1, .ro, .none, false⟩
/-- `CLK_PLL_STAT.SEARCHING` [2]: R424, Table CLK-9. -/
def F.CLK_PLL_STAT_SEARCHING (i : Nat) : Field := ⟨0x100104 + 0x20 * i, 2, 1, 0, .ro, .none, false⟩
/-- `CLK_PLL_STAT.LOSS` [3]: R424, Table CLK-9. -/
def F.CLK_PLL_STAT_LOSS (i : Nat) : Field := ⟨0x100104 + 0x20 * i, 3, 1, 0, .w1c, .none, false⟩
/-- `CLK_PLL_STAT.LAST_CAUSE` [5:4]: R424, Table CLK-9. -/
def F.CLK_PLL_STAT_LAST_CAUSE (i : Nat) : Field := ⟨0x100104 + 0x20 * i, 4, 2, 0, .ro, .none, false⟩
/-- `CLK_PLL_STAT.BAND` [13:8]: R424, Table CLK-9. -/
def F.CLK_PLL_STAT_BAND (i : Nat) : Field := ⟨0x100104 + 0x20 * i, 8, 6, 0, .ro, .none, false⟩
/-- `CLK_PLL_STAT.REF_MODE_EFF` [17:16]: R424, Table CLK-9. -/
def F.CLK_PLL_STAT_REF_MODE_EFF (i : Nat) : Field := ⟨0x100104 + 0x20 * i, 16, 2, 0, .ro, .none, false⟩
/-- `CLK_PLL_STAT.N_EFF` [27:20]: R424, Table CLK-9. -/
def F.CLK_PLL_STAT_N_EFF (i : Nat) : Field := fixReset ⟨0x100104 + 0x20 * i, 20, 8, 0, .ro, .none, false⟩
/-- `CLK_PLL_LOSSES.V` [31:0]: R424. -/
def F.CLK_PLL_LOSSES_V (i : Nat) : Field := ⟨0x100108 + 0x20 * i, 0, 32, 0, .ro, .none, false⟩
/-- `CLK_TPHASE.PHASE` [5:0]: R424, Table CLK-10. -/
def F.CLK_TPHASE_PHASE : Field := ⟨0x100200, 0, 6, 0, .ro, .none, false⟩
/-- `CLK_TPHASE.QUEUED` [15:8]: R424, Table CLK-10. -/
def F.CLK_TPHASE_QUEUED : Field := ⟨0x100200, 8, 8, 0, .ro, .none, false⟩
/-- `CLK_TPHASE.QUEUED_DN` [16]: R424, Table CLK-10. -/
def F.CLK_TPHASE_QUEUED_DN : Field := ⟨0x100200, 16, 1, 0, .ro, .none, false⟩
/-- `CLK_TSTEPS_UP.V` [31:0]: R424. -/
def F.CLK_TSTEPS_UP_V : Field := ⟨0x100204, 0, 32, 0, .ro, .none, false⟩
/-- `CLK_TSTEPS_DN.V` [31:0]: R424. -/
def F.CLK_TSTEPS_DN_V : Field := ⟨0x100208, 0, 32, 0, .ro, .none, false⟩
/-- `CLK_TSTEPS_DROP.V` [31:0]: R424. -/
def F.CLK_TSTEPS_DROP_V : Field := ⟨0x10020C, 0, 32, 0, .ro, .none, false⟩
/-- `CLK_MON.XREF_OK` [0]: R424, Table CLK-11. -/
def F.CLK_MON_XREF_OK : Field := ⟨0x100300, 0, 1, 0, .ro, .none, false⟩
/-- `CLK_MON.XREF_LOST` [1]: R424, Table CLK-11. -/
def F.CLK_MON_XREF_LOST : Field := ⟨0x100300, 1, 1, 0, .w1c, .none, false⟩
/-- `CLK_MON.LF_OK` [2]: R424, Table CLK-11. -/
def F.CLK_MON_LF_OK : Field := ⟨0x100300, 2, 1, 0, .ro, .none, false⟩
/-- `CLK_MON.LF_LOST` [3]: R424, Table CLK-11. -/
def F.CLK_MON_LF_LOST : Field := ⟨0x100300, 3, 1, 0, .w1c, .none, false⟩
/-- `CLK_MON.HK_TRIMMED` [4]: R424, Table CLK-11. -/
def F.CLK_MON_HK_TRIMMED : Field := ⟨0x100300, 4, 1, 0, .ro, .none, false⟩
/-- `CLK_MON.TW_FALLBACK` [5]: R424, Table CLK-11. -/
def F.CLK_MON_TW_FALLBACK : Field := ⟨0x100300, 5, 1, 0, .ro, .none, false⟩
/-- `CLK_HKFREQ.FREQ` [15:0]: R424, Table CLK-12. -/
def F.CLK_HKFREQ_FREQ : Field := ⟨0x100304, 0, 16, 0, .ro, .none, false⟩
/-- `CLK_HKFREQ.TRIM` [23:16]: R424, Table CLK-12. -/
def F.CLK_HKFREQ_TRIM : Field := ⟨0x100304, 16, 8, 0x80, .ro, .none, false⟩

/-! ### HKP -/

/-- `HKP_INFO.CHANNELS` [4:0]: R446, Table HKP-11. -/
def F.HKP_INFO_CHANNELS : Field := ⟨0x110000, 0, 5, 0x10, .ro, .none, false⟩
/-- `HKP_INFO.LOG_RECORDS` [14:8]: R446, Table HKP-11. -/
def F.HKP_INFO_LOG_RECORDS : Field := ⟨0x110000, 8, 7, 0x40, .ro, .none, false⟩
/-- `HKP_ROUND.V` [31:0]: R446. -/
def F.HKP_ROUND_V : Field := ⟨0x110004, 0, 32, 0, .ro, .none, false⟩
/-- `HKP_CH.VALUE` [15:0]: R446, Table HKP-10. -/
def F.HKP_CH_VALUE (i : Nat) : Field := ⟨0x110100 + 0x4 * i, 0, 16, 0, .ro, .none, false⟩
/-- `HKP_CH.VALID` [16]: R446, Table HKP-10. -/
def F.HKP_CH_VALID (i : Nat) : Field := ⟨0x110100 + 0x4 * i, 16, 1, 0, .ro, .none, false⟩
/-- `HKP_CH.ROT` [18:17]: R446, Table HKP-10. -/
def F.HKP_CH_ROT (i : Nat) : Field := ⟨0x110100 + 0x4 * i, 17, 2, 0, .ro, .none, false⟩
/-- `HKP_RAIL.VALUE` [15:0]: R446. -/
def F.HKP_RAIL_VALUE (i : Nat) : Field := ⟨0x110140 + 0x4 * i, 0, 16, 0, .ro, .none, false⟩
/-- `HKP_RAIL.VALID` [16]: R446. -/
def F.HKP_RAIL_VALID (i : Nat) : Field := ⟨0x110140 + 0x4 * i, 16, 1, 0, .ro, .none, false⟩
/-- `HKP_LIMEN.EN` [15:0]: R446, Table HKP-11. -/
def F.HKP_LIMEN_EN : Field := ⟨0x110200, 0, 16, 0, .rw, .l, false⟩
/-- `HKP_LIM.HI` [15:0]: R446, Table HKP-11. -/
def F.HKP_LIM_HI (i : Nat) : Field := ⟨0x110210 + 0x4 * i, 0, 16, 0, .rw, .l, false⟩
/-- `HKP_LIM.LO` [31:16]: R446, Table HKP-11. -/
def F.HKP_LIM_LO (i : Nat) : Field := ⟨0x110210 + 0x4 * i, 16, 16, 0, .rw, .l, false⟩
/-- `HKP_LIMSTAT.HIT` [15:0]: R446, Table HKP-11. -/
def F.HKP_LIMSTAT_HIT : Field := ⟨0x110250, 0, 16, 0, .w1c, .none, false⟩
/-- `HKP_THERM.WARN` [0]: R446, Table HKP-12. -/
def F.HKP_THERM_WARN : Field := ⟨0x110300, 0, 1, 0, .ro, .none, false⟩
/-- `HKP_THERM.HOLD` [1]: R446, Table HKP-12. -/
def F.HKP_THERM_HOLD : Field := ⟨0x110300, 1, 1, 0, .ro, .none, false⟩
/-- `HKP_THERM.RESUME_OK` [2]: R446, Table HKP-12. -/
def F.HKP_THERM_RESUME_OK : Field := ⟨0x110300, 2, 1, 0, .ro, .none, false⟩
/-- `HKP_THERM.DIES` [6:4]: R446, Table HKP-12. -/
def F.HKP_THERM_DIES : Field := ⟨0x110300, 4, 3, 0, .ro, .none, false⟩
/-- `HKP_THERM.CLR` [8]: R446, Table HKP-12. -/
def F.HKP_THERM_CLR : Field := ⟨0x110300, 8, 1, 0, .w1s, .none, false⟩
/-- `HKP_THERM.WARNED` [9]: R446, Table HKP-12. -/
def F.HKP_THERM_WARNED : Field := ⟨0x110300, 9, 1, 0, .w1c, .none, false⟩
/-- `HKP_THERM.TRIPPED` [10]: R446, Table HKP-12. -/
def F.HKP_THERM_TRIPPED : Field := ⟨0x110300, 10, 1, 0, .w1c, .none, false⟩
/-- `HKP_THERM.OK_ROUNDS` [23:16]: R446, Table HKP-12. -/
def F.HKP_THERM_OK_ROUNDS : Field := ⟨0x110300, 16, 8, 0, .ro, .none, false⟩
/-- `HKP_THERM_CNT.V` [31:0]: R446. -/
def F.HKP_THERM_CNT_V : Field := ⟨0x110304, 0, 32, 0, .ro, .none, false⟩
/-- `HKP_PWR.STATE` [3:0]: R446, Table HKP-13. -/
def F.HKP_PWR_STATE : Field := ⟨0x110400, 0, 4, 0, .ro, .none, false⟩
/-- `HKP_PWR.SLEEP` [8]: R446, Table HKP-13. -/
def F.HKP_PWR_SLEEP : Field := ⟨0x110400, 8, 1, 0, .w1s, .none, false⟩
/-- `HKP_PWR.BROWNOUT` [9]: R446, Table HKP-13. -/
def F.HKP_PWR_BROWNOUT : Field := ⟨0x110400, 9, 1, 0, .w1c, .none, false⟩
/-- `HKP_PWR.WOKE` [10]: R446, Table HKP-13. -/
def F.HKP_PWR_WOKE : Field := ⟨0x110400, 10, 1, 0, .ro, .none, false⟩
/-- `HKP_LOG_STAT.NEXT` [5:0]: R446, Table HKP-14. -/
def F.HKP_LOG_STAT_NEXT : Field := ⟨0x110500, 0, 6, 0, .ro, .none, false⟩
/-- `HKP_LOG_STAT.UNACK` [14:8]: R446, Table HKP-14. -/
def F.HKP_LOG_STAT_UNACK : Field := ⟨0x110500, 8, 7, 0, .ro, .none, false⟩
/-- `HKP_LOG_STAT.OVF` [31:16]: R446, Table HKP-14. -/
def F.HKP_LOG_STAT_OVF : Field := ⟨0x110500, 16, 16, 0, .ro, .none, false⟩
/-- `HKP_LOG_ACK.INDEX` [5:0]: R446, Table HKP-14. -/
def F.HKP_LOG_ACK_INDEX : Field := ⟨0x110504, 0, 6, 0, .rw, .l, false⟩
/-- `HKP_LOG_ACK.ACK` [8]: R446, Table HKP-14. -/
def F.HKP_LOG_ACK_ACK : Field := ⟨0x110504, 8, 1, 0, .w1s, .none, false⟩
/-- `HKP_LOG_ACK.ACK_ALL` [9]: R446, Table HKP-14. -/
def F.HKP_LOG_ACK_ACK_ALL : Field := ⟨0x110504, 9, 1, 0, .w1s, .none, false⟩

/-! ### BAY -/

/-- `BAY_STAT.RAIL_SRC` [0]: R468, Table BAY-6. -/
def F.BAY_STAT_RAIL_SRC : Field := ⟨0x120000, 0, 1, 0, .ro, .none, false⟩
/-- `BAY_STAT.COLD` [1]: R468, Table BAY-6. -/
def F.BAY_STAT_COLD : Field := ⟨0x120000, 1, 1, 1, .w1c, .none, false⟩
/-- `BAY_STAT.WAS_BAY` [2]: R468, Table BAY-6. -/
def F.BAY_STAT_WAS_BAY : Field := ⟨0x120000, 2, 1, 0, .w1c, .none, false⟩
/-- `BAY_STAT.LF_LOST_SLEEP` [3]: R468, Table BAY-6. -/
def F.BAY_STAT_LF_LOST_SLEEP : Field := ⟨0x120000, 3, 1, 0, .w1c, .none, false⟩
/-- `BAY_STAT.WAKE_SRC` [6:4]: R468, Table BAY-6. -/
def F.BAY_STAT_WAKE_SRC : Field := ⟨0x120000, 4, 3, 0, .ro, .none, false⟩
/-- `BAY_WAKE_CTL.EN_TIMER` [0]: R468, Table BAY-7. -/
def F.BAY_WAKE_CTL_EN_TIMER : Field := ⟨0x120010, 0, 1, 0, .rw, .l, false⟩
/-- `BAY_WAKE_CTL.EN_PIN` [1]: R468, Table BAY-7. -/
def F.BAY_WAKE_CTL_EN_PIN : Field := ⟨0x120010, 1, 1, 1, .rw, .l, false⟩
/-- `BAY_WAKE_CTL.EN_RAILS` [2]: R468, Table BAY-7. -/
def F.BAY_WAKE_CTL_EN_RAILS : Field := ⟨0x120010, 2, 1, 1, .rw, .l, false⟩
/-- `BAY_WAKE_CTL.KEEP_RAILS` [3]: R468, Table BAY-7. -/
def F.BAY_WAKE_CTL_KEEP_RAILS : Field := ⟨0x120010, 3, 1, 0, .rw, .l, false⟩
/-- `BAY_WAKE_PT.V` [63:0]: R468. -/
def F.BAY_WAKE_PT_V : Field := ⟨0x120018, 0, 64, 0, .rw, .l, false⟩
/-- `BAY_CELL_TIME.V` [31:0]: R468. -/
def F.BAY_CELL_TIME_V : Field := ⟨0x120020, 0, 32, 0, .ro, .none, false⟩
/-- `BAY_RC_EDGES.V` [31:0]: R468. -/
def F.BAY_RC_EDGES_V : Field := ⟨0x120024, 0, 32, 0, .ro, .none, false⟩
/-- `BAY_CHG_CTL.EN` [0]: R468, Table BAY-8. -/
def F.BAY_CHG_CTL_EN : Field := ⟨0x120100, 0, 1, 1, .rw, .l, false⟩
/-- `BAY_CHG_CTL.LAMP_OFF` [1]: R468, Table BAY-8. -/
def F.BAY_CHG_CTL_LAMP_OFF : Field := ⟨0x120100, 1, 1, 0, .rw, .l, false⟩
/-- `BAY_CHG_CTL.FAST_MA` [14:8]: R468, Table BAY-8. -/
def F.BAY_CHG_CTL_FAST_MA : Field := ⟨0x120100, 8, 7, 0x1E, .rw, .l, false⟩
/-- `BAY_CHG_CTL.CAP` [23:16]: R468, Table BAY-8. -/
def F.BAY_CHG_CTL_CAP : Field := ⟨0x120100, 16, 8, 0x1E, .rw, .l, false⟩
/-- `BAY_CHG_CTL.FAULT_CLR` [24]: R468, Table BAY-8. -/
def F.BAY_CHG_CTL_FAULT_CLR : Field := ⟨0x120100, 24, 1, 0, .w1s, .none, false⟩
/-- `BAY_CHG_CTL.RESTART` [25]: R468, Table BAY-8. -/
def F.BAY_CHG_CTL_RESTART : Field := ⟨0x120100, 25, 1, 0, .w1s, .none, false⟩
/-- `BAY_CHG_TIMER.MINUTES` [11:0]: R468, Table BAY-9. -/
def F.BAY_CHG_TIMER_MINUTES : Field := ⟨0x120104, 0, 12, 0x3C0, .rw, .l, false⟩
/-- `BAY_CHG_STAT.STATE` [2:0]: R468, Table BAY-10. -/
def F.BAY_CHG_STAT_STATE : Field := ⟨0x120110, 0, 3, 0, .ro, .none, false⟩
/-- `BAY_CHG_STAT.FAULT` [5:3]: R468, Table BAY-10. -/
def F.BAY_CHG_STAT_FAULT : Field := ⟨0x120110, 3, 3, 0, .ro, .none, false⟩
/-- `BAY_CHG_STAT.NO_CELL` [6]: R468, Table BAY-10. -/
def F.BAY_CHG_STAT_NO_CELL : Field := ⟨0x120110, 6, 1, 0, .ro, .none, false⟩
/-- `BAY_CHG_STAT.LIMIT_VIN` [7]: R468, Table BAY-10. -/
def F.BAY_CHG_STAT_LIMIT_VIN : Field := ⟨0x120110, 7, 1, 0, .ro, .none, false⟩
/-- `BAY_CHG_STAT.LIMIT_HEAT` [8]: R468, Table BAY-10. -/
def F.BAY_CHG_STAT_LIMIT_HEAT : Field := ⟨0x120110, 8, 1, 0, .ro, .none, false⟩
/-- `BAY_CHG_STAT.FAULTED` [9]: R468, Table BAY-10. -/
def F.BAY_CHG_STAT_FAULTED : Field := ⟨0x120110, 9, 1, 0, .w1c, .none, false⟩
/-- `BAY_CHG_STAT.CURRENT` [22:16]: R468, Table BAY-10. -/
def F.BAY_CHG_STAT_CURRENT : Field := ⟨0x120110, 16, 7, 0, .ro, .none, false⟩
/-- `BAY_CHG_STAT.LAMP` [26:24]: R468, Table BAY-10. -/
def F.BAY_CHG_STAT_LAMP : Field := ⟨0x120110, 24, 3, 0, .ro, .none, false⟩
/-- `BAY_CHG_ELAPSED.V` [31:0]: R468. -/
def F.BAY_CHG_ELAPSED_V : Field := ⟨0x120114, 0, 32, 0, .ro, .none, false⟩
/-- `BAY_CELL.VOLT` [15:0]: R468, Table BAY-11. -/
def F.BAY_CELL_VOLT : Field := ⟨0x120120, 0, 16, 0, .ro, .none, false⟩
/-- `BAY_CELL.TEMP` [31:16]: R468, Table BAY-11. -/
def F.BAY_CELL_TEMP : Field := ⟨0x120120, 16, 16, 0, .ro, .none, false⟩
/-- `BAY_CELL_PEAK.V` [15:0]: R468. -/
def F.BAY_CELL_PEAK_V : Field := ⟨0x120124, 0, 16, 0, .ro, .none, false⟩

/-! ### TWI -/

/-- `TWI_CTL.PEC_REQ` [0]: R406, Table TWI-5. -/
def F.TWI_CTL_PEC_REQ : Field := ⟨0x130000, 0, 1, 0, .rw, .l, false⟩
/-- `TWI_CTL.ATTN_REP` [15:8]: R406, Table TWI-5. -/
def F.TWI_CTL_ATTN_REP : Field := ⟨0x130000, 8, 8, 0x64, .rw, .l, false⟩
/-- `TWI_STAT.ADDR` [6:0]: R406, Table TWI-6. -/
def F.TWI_STAT_ADDR : Field := ⟨0x130004, 0, 7, 0, .ro, .none, false⟩
/-- `TWI_STAT.PEC_ERR` [8]: R406, Table TWI-6. -/
def F.TWI_STAT_PEC_ERR : Field := ⟨0x130004, 8, 1, 0, .w1c, .none, false⟩
/-- `TWI_STAT.TIMEOUT` [9]: R406, Table TWI-6. -/
def F.TWI_STAT_TIMEOUT : Field := ⟨0x130004, 9, 1, 0, .w1c, .none, false⟩
/-- `TWI_STAT.RD_LATE` [10]: R406, Table TWI-6. -/
def F.TWI_STAT_RD_LATE : Field := ⟨0x130004, 10, 1, 0, .w1c, .none, false⟩
/-- `TWI_STAT.ATTN_PEND` [11]: R406, Table TWI-6. -/
def F.TWI_STAT_ATTN_PEND : Field := ⟨0x130004, 11, 1, 0, .ro, .none, false⟩
/-- `TWI_PTR.V` [31:0]: R406. -/
def F.TWI_PTR_V : Field := ⟨0x130008, 0, 32, 0, .ro, .none, false⟩
/-- `TWI_ATTN_SRC.ALARM` [0]: R406, Table TWI-7. -/
def F.TWI_ATTN_SRC_ALARM : Field := ⟨0x130010, 0, 1, 0, .w1c, .none, false⟩
/-- `TWI_ATTN_SRC.CLASS` [14:1]: R406, Table TWI-7. -/
def F.TWI_ATTN_SRC_CLASS : Field := ⟨0x130010, 1, 14, 0, .w1c, .none, false⟩
/-- `TWI_ATTN_EN.EN` [14:0]: R406, Table TWI-8. -/
def F.TWI_ATTN_EN_EN : Field := ⟨0x130014, 0, 15, 0, .rw, .l, false⟩
/-- `TWI_BOOT_STAT.MODE` [1:0]: R406, Table TWI-9. -/
def F.TWI_BOOT_STAT_MODE : Field := ⟨0x130020, 0, 2, 0, .ro, .none, false⟩
/-- `TWI_BOOT_STAT.DONE` [2]: R406, Table TWI-9. -/
def F.TWI_BOOT_STAT_DONE : Field := ⟨0x130020, 2, 1, 0, .ro, .none, false⟩
/-- `TWI_BOOT_STAT.RECOVERIES` [5:4]: R406, Table TWI-9. -/
def F.TWI_BOOT_STAT_RECOVERIES : Field := ⟨0x130020, 4, 2, 0, .ro, .none, false⟩
/-- `TWI_BOOT_STAT.ARB_LOST` [31:16]: R406, Table TWI-9. -/
def F.TWI_BOOT_STAT_ARB_LOST : Field := ⟨0x130020, 16, 16, 0, .ro, .none, false⟩
/-- `TWI_BOOT_LISTENED.V` [31:0]: R406. -/
def F.TWI_BOOT_LISTENED_V : Field := ⟨0x130024, 0, 32, 0, .ro, .none, false⟩

/-! ### PCX -/

/-- `PCX_LINK.SPEED` [2:0]: R357, Table DMA-21. -/
def F.PCX_LINK_SPEED : Field := ⟨0x140000, 0, 3, 0, .ro, .none, false⟩
/-- `PCX_LINK.WIDTH` [7:4]: R357, Table DMA-21. -/
def F.PCX_LINK_WIDTH : Field := ⟨0x140000, 4, 4, 0, .ro, .none, false⟩
/-- `PCX_LINK.FLIT` [8]: R357, Table DMA-21. -/
def F.PCX_LINK_FLIT : Field := ⟨0x140000, 8, 1, 0, .ro, .none, false⟩
/-- `PCX_LINK.DL_UP` [9]: R357, Table DMA-21. -/
def F.PCX_LINK_DL_UP : Field := ⟨0x140000, 9, 1, 0, .ro, .none, false⟩
/-- `PCX_LINK.L1` [10]: R357, Table DMA-21. -/
def F.PCX_LINK_L1 : Field := ⟨0x140000, 10, 1, 0, .ro, .none, false⟩
/-- `PCX_LINK.RETRAINS` [31:16]: R357, Table DMA-21. -/
def F.PCX_LINK_RETRAINS : Field := ⟨0x140000, 16, 16, 0, .ro, .none, false⟩
/-- `PCX_PTM_CTL.AUTO` [0]: R357, Table DMA-22. -/
def F.PCX_PTM_CTL_AUTO : Field := ⟨0x140100, 0, 1, 0, .rw, .l, false⟩
/-- `PCX_PTM_CTL.NOW` [1]: R357, Table DMA-22. -/
def F.PCX_PTM_CTL_NOW : Field := ⟨0x140100, 1, 1, 0, .w1s, .none, false⟩
/-- `PCX_PTM_CTL.VALID` [2]: R357, Table DMA-22. -/
def F.PCX_PTM_CTL_VALID : Field := ⟨0x140100, 2, 1, 0, .ro, .none, false⟩
/-- `PCX_PTM_CTL.FAIL` [3]: R357, Table DMA-22. -/
def F.PCX_PTM_CTL_FAIL : Field := ⟨0x140100, 3, 1, 0, .w1c, .none, false⟩
/-- `PCX_PTM_CTL.PERIOD` [15:8]: R357, Table DMA-22. -/
def F.PCX_PTM_CTL_PERIOD : Field := ⟨0x140100, 8, 8, 0x10, .rw, .l, false⟩
/-- `PCX_PTM_PT.V` [63:0]: R357. -/
def F.PCX_PTM_PT_V : Field := ⟨0x140108, 0, 64, 0, .ro, .none, false⟩
/-- `PCX_PTM_HOST.V` [63:0]: R357. -/
def F.PCX_PTM_HOST_V : Field := ⟨0x140110, 0, 64, 0, .ro, .none, false⟩

/-! ### Table windows -/

/-- `THY_PROG0.LEN` [6:0]: R86, Table THY-1. -/
def F.THY_PROG0_LEN (i : Nat) : Field := ⟨0x200000 + 0x200 * i, 0, 7, 0, .rw, .s, true⟩
/-- `THY_PROG0.CTX` [9:8]: R86, Table THY-1. -/
def F.THY_PROG0_CTX (i : Nat) : Field := ⟨0x200000 + 0x200 * i, 8, 2, 0, .rw, .s, true⟩
/-- `THY_PROG1.LIGHT0` [5:0]: R86, Table THY-1. -/
def F.THY_PROG1_LIGHT0 (i : Nat) : Field := ⟨0x200004 + 0x200 * i, 0, 6, 0, .rw, .s, true⟩
/-- `THY_PROG1.LIGHT1` [13:8]: R86, Table THY-1. -/
def F.THY_PROG1_LIGHT1 (i : Nat) : Field := ⟨0x200004 + 0x200 * i, 8, 6, 0, .rw, .s, true⟩
/-- `THY_PROG1.LIGHT2` [21:16]: R86, Table THY-1. -/
def F.THY_PROG1_LIGHT2 (i : Nat) : Field := ⟨0x200004 + 0x200 * i, 16, 6, 0, .rw, .s, true⟩
/-- `THY_PROG1.LIGHT3` [29:24]: R86, Table THY-1. -/
def F.THY_PROG1_LIGHT3 (i : Nat) : Field := ⟨0x200004 + 0x200 * i, 24, 6, 0, .rw, .s, true⟩
/-- `THY_PROG2.LIGHT4` [5:0]: R86, Table THY-1. -/
def F.THY_PROG2_LIGHT4 (i : Nat) : Field := ⟨0x200008 + 0x200 * i, 0, 6, 0, .rw, .s, true⟩
/-- `THY_PROG2.LIGHT5` [13:8]: R86, Table THY-1. -/
def F.THY_PROG2_LIGHT5 (i : Nat) : Field := ⟨0x200008 + 0x200 * i, 8, 6, 0, .rw, .s, true⟩
/-- `THY_STEP.TICK` [15:0]: R86, Table THY-2. -/
def F.THY_STEP_TICK (i j : Nat) : Field := ⟨0x200010 + 0x200 * i + 0x4 * j, 0, 16, 0, .rw, .s, true⟩
/-- `THY_STEP.KIND` [18:16]: R86, Table THY-2. -/
def F.THY_STEP_KIND (i j : Nat) : Field := ⟨0x200010 + 0x200 * i + 0x4 * j, 16, 3, 0, .rw, .s, true⟩
/-- `THY_STEP.MASK` [27:22]: R86, Table THY-2. -/
def F.THY_STEP_MASK (i j : Nat) : Field := ⟨0x200010 + 0x200 * i + 0x4 * j, 22, 6, 0, .rw, .s, true⟩
/-- `THY_PAT.PROG` [3:0]: R90. -/
def F.THY_PAT_PROG (i : Nat) : Field := ⟨0x202000 + 0x4 * i, 0, 4, 0, .rw, .s, true⟩
/-- `THY_LRING.V` [31:0]: R107, R108. -/
def F.THY_LRING_V (i : Nat) : Field := ⟨0x204000 + 0x4 * i, 0, 32, 0, .rw, .none, false⟩
/-- `PIP_LUT.L` [16:0]: R251. -/
def F.PIP_LUT_L (i j k : Nat) : Field := fixReset ⟨0x220000 + 0x20000 * i + 0x2000 * j + 0x4 * k, 0, 17, 0, .rw, .s, true⟩
/-- `PIP_CTX_K.K_LO` [15:0]: R251, Table PIP-5. -/
def F.PIP_CTX_K_K_LO (i : Nat) : Field := ⟨0x234000 + 0x20000 * i, 0, 16, 0xC000, .rw, .s, true⟩
/-- `PIP_CTX_K.K_HI` [31:16]: R251, Table PIP-5. -/
def F.PIP_CTX_K_K_HI (i : Nat) : Field := ⟨0x234000 + 0x20000 * i, 16, 16, 0xE000, .rw, .s, true⟩
/-- `PIP_CTX_ENC.ENC` [1:0]: R251, Table PIP-5. -/
def F.PIP_CTX_ENC_ENC (i : Nat) : Field := ⟨0x234004 + 0x20000 * i, 0, 2, 1, .rw, .s, true⟩
/-- `PIP_CTX_ENC.LSHIFT` [7:4]: R251, Table PIP-5. -/
def F.PIP_CTX_ENC_LSHIFT (i : Nat) : Field := ⟨0x234004 + 0x20000 * i, 4, 4, 8, .rw, .s, true⟩
/-- `PIP_CTX_ENC.MATRIX_EN` [8]: R251, Table PIP-5. -/
def F.PIP_CTX_ENC_MATRIX_EN (i : Nat) : Field := ⟨0x234004 + 0x20000 * i, 8, 1, 0, .rw, .s, true⟩
/-- `PIP_CTX_M0.M00` [15:0]: R251, Table PIP-5. -/
def F.PIP_CTX_M0_M00 (i : Nat) : Field := ⟨0x234008 + 0x20000 * i, 0, 16, 0x1000, .rw, .s, true⟩
/-- `PIP_CTX_M0.M01` [31:16]: R251, Table PIP-5. -/
def F.PIP_CTX_M0_M01 (i : Nat) : Field := ⟨0x234008 + 0x20000 * i, 16, 16, 0, .rw, .s, true⟩
/-- `PIP_CTX_M1.M02` [15:0]: R251, Table PIP-5. -/
def F.PIP_CTX_M1_M02 (i : Nat) : Field := ⟨0x23400C + 0x20000 * i, 0, 16, 0, .rw, .s, true⟩
/-- `PIP_CTX_M1.M10` [31:16]: R251, Table PIP-5. -/
def F.PIP_CTX_M1_M10 (i : Nat) : Field := ⟨0x23400C + 0x20000 * i, 16, 16, 0, .rw, .s, true⟩
/-- `PIP_CTX_M2.M11` [15:0]: R251, Table PIP-5. -/
def F.PIP_CTX_M2_M11 (i : Nat) : Field := ⟨0x234010 + 0x20000 * i, 0, 16, 0x1000, .rw, .s, true⟩
/-- `PIP_CTX_M2.M12` [31:16]: R251, Table PIP-5. -/
def F.PIP_CTX_M2_M12 (i : Nat) : Field := ⟨0x234010 + 0x20000 * i, 16, 16, 0, .rw, .s, true⟩
/-- `PIP_CTX_M3.M20` [15:0]: R251, Table PIP-5. -/
def F.PIP_CTX_M3_M20 (i : Nat) : Field := ⟨0x234014 + 0x20000 * i, 0, 16, 0, .rw, .s, true⟩
/-- `PIP_CTX_M3.M21` [31:16]: R251, Table PIP-5. -/
def F.PIP_CTX_M3_M21 (i : Nat) : Field := ⟨0x234014 + 0x20000 * i, 16, 16, 0, .rw, .s, true⟩
/-- `PIP_CTX_M4.M22` [15:0]: R251, Table PIP-5. -/
def F.PIP_CTX_M4_M22 (i : Nat) : Field := ⟨0x234018 + 0x20000 * i, 0, 16, 0x1000, .rw, .s, true⟩
/-- `PIP_CTX_M4.O0` [31:16]: R251, Table PIP-5. -/
def F.PIP_CTX_M4_O0 (i : Nat) : Field := ⟨0x234018 + 0x20000 * i, 16, 16, 0, .rw, .s, true⟩
/-- `PIP_CTX_M5.O1` [15:0]: R251, Table PIP-5. -/
def F.PIP_CTX_M5_O1 (i : Nat) : Field := ⟨0x23401C + 0x20000 * i, 0, 16, 0, .rw, .s, true⟩
/-- `PIP_CTX_M5.O2` [31:16]: R251, Table PIP-5. -/
def F.PIP_CTX_M5_O2 (i : Nat) : Field := ⟨0x23401C + 0x20000 * i, 16, 16, 0, .rw, .s, true⟩
/-- `PIP_CTX_SNR.SNR` [1:0]: R251, Table PIP-5. -/
def F.PIP_CTX_SNR_SNR (i : Nat) : Field := ⟨0x234020 + 0x20000 * i, 0, 2, 0, .rw, .s, true⟩
/-- `PIP_CTX_SNR.SIG` [31:16]: R251, Table PIP-5. -/
def F.PIP_CTX_SNR_SIG (i : Nat) : Field := ⟨0x234020 + 0x20000 * i, 16, 16, 0x400, .rw, .s, true⟩
/-- `PIP_CTX_TNR.TNR_EN` [0]: R251, Table PIP-5. -/
def F.PIP_CTX_TNR_TNR_EN (i : Nat) : Field := ⟨0x234024 + 0x20000 * i, 0, 1, 0, .rw, .s, true⟩
/-- `PIP_CTX_TNR.TSHIFT` [6:4]: R251, Table PIP-5. -/
def F.PIP_CTX_TNR_TSHIFT (i : Nat) : Field := ⟨0x234024 + 0x20000 * i, 4, 3, 2, .rw, .s, true⟩
/-- `PIP_CTX_TNR.TTH` [31:16]: R251, Table PIP-5. -/
def F.PIP_CTX_TNR_TTH (i : Nat) : Field := ⟨0x234024 + 0x20000 * i, 16, 16, 0x400, .rw, .s, true⟩
/-- `SOR_LUT.L` [16:0]: R282. -/
def F.SOR_LUT_L (i j k : Nat) : Field := fixReset ⟨0x2A0000 + 0x10000 * i + 0x2000 * j + 0x4 * k, 0, 17, 0, .rw, .s, true⟩
/-- `SOR_CTX_M.LO` [15:0]: R282, Table SOR-10. -/
def F.SOR_CTX_M_LO (i j k : Nat) : Field := fixReset ⟨0x2A8000 + 0x10000 * i + 0x8 * j + 0x4 * k, 0, 16, 0, .rw, .s, true⟩
/-- `SOR_CTX_M.HI` [31:16]: R282, Table SOR-10. -/
def F.SOR_CTX_M_HI (i j k : Nat) : Field := fixReset ⟨0x2A8000 + 0x10000 * i + 0x8 * j + 0x4 * k, 16, 16, 0, .rw, .s, true⟩
/-- `SOR_CTX_O.LO` [15:0]: R282, Table SOR-10. -/
def F.SOR_CTX_O_LO (i j : Nat) : Field := ⟨0x2A8020 + 0x10000 * i + 0x4 * j, 0, 16, 0, .rw, .s, true⟩
/-- `SOR_CTX_O.HI` [31:16]: R282, Table SOR-10. -/
def F.SOR_CTX_O_HI (i j : Nat) : Field := ⟨0x2A8020 + 0x10000 * i + 0x4 * j, 16, 16, 0, .rw, .s, true⟩
/-- The register rows of the GLB block (17_register_index.md R485). -/
def rowsGLB : List RegRow := [
  ⟨0x00000, 1, 0, 1, 0, 1, 0, [F.GLB_ID_PART, F.GLB_ID_STEP]⟩,
  ⟨0x00010, 1, 0, 1, 0, 1, 0, [F.GLB_SUMMARY_SYNCED, F.GLB_SUMMARY_RUNNING, F.GLB_SUMMARY_SAFE, F.GLB_SUMMARY_HOLD, F.GLB_SUMMARY_LOCKED, F.GLB_SUMMARY_ALARM, F.GLB_SUMMARY_EVT_PEND, F.GLB_SUMMARY_PLL_GATED]⟩,
  ⟨0x00020, 1, 0, 1, 0, 1, 0, [F.GLB_SCRATCH_V]⟩]

/-- The register rows of the PTC block (17_register_index.md R485). -/
def rowsPTC : List RegRow := [
  ⟨0x10010, 1, 0, 1, 0, 1, 0, [F.PTC_PT_CTL_LOAD, F.PTC_PT_CTL_LF, F.PTC_PT_CTL_STEPPED, F.PTC_PT_CTL_SLEWING, F.PTC_PT_CTL_HEAD, F.PTC_PT_CTL_LATCH_TMO]⟩,
  ⟨0x10018, 1, 0, 1, 0, 1, 0, [F.PTC_PT_LOAD_V]⟩,
  ⟨0x10100, 8, 0x40, 1, 0, 1, 0, [F.PTC_CNT_CTL_EN 0, F.PTC_CNT_CTL_ARM 0, F.PTC_CNT_CTL_ONESHOT 0, F.PTC_CNT_CTL_LOG_MATCH 0, F.PTC_CNT_CTL_LOG_LAP 0, F.PTC_CNT_CTL_SRC 0, F.PTC_CNT_CTL_SRC_SEL 0, F.PTC_CNT_CTL_START 0, F.PTC_CNT_CTL_STOP 0, F.PTC_CNT_CTL_RST 0, F.PTC_CNT_CTL_RUNNING 0]⟩,
  ⟨0x10104, 8, 0x40, 1, 0, 1, 0, [F.PTC_CNT_PRESC_P 0]⟩,
  ⟨0x10108, 8, 0x40, 1, 0, 1, 0, [F.PTC_CNT_FRAC_F 0]⟩,
  ⟨0x1010C, 8, 0x40, 1, 0, 1, 0, [F.PTC_CNT_PERIOD_V 0]⟩,
  ⟨0x10110, 8, 0x40, 1, 0, 1, 0, [F.PTC_CNT_CMP_V 0]⟩,
  ⟨0x10114, 8, 0x40, 1, 0, 1, 0, [F.PTC_CNT_COUNT_V 0]⟩,
  ⟨0x10118, 8, 0x40, 1, 0, 1, 0, [F.PTC_CNT_LINK_MATCH_RST 0, F.PTC_CNT_LINK_MATCH_START 0, F.PTC_CNT_LINK_LAP_RST 0, F.PTC_CNT_LINK_LAP_START 0]⟩,
  ⟨0x1011C, 8, 0x40, 1, 0, 1, 0, [F.PTC_CNT_CAPTCTL_CAPT_SRC 0, F.PTC_CNT_CAPTCTL_CAPT_SEL 0, F.PTC_CNT_CAPTCTL_CAPT_NOW 0]⟩,
  ⟨0x10120, 8, 0x40, 1, 0, 1, 0, [F.PTC_CNT_STAT_SHORT_LAP 0, F.PTC_CNT_STAT_MULTI_LAP 0, F.PTC_CNT_STAT_BACKLAP 0, F.PTC_CNT_STAT_CAPT_OVR 0, F.PTC_CNT_STAT_CAPT_PEND 0, F.PTC_CNT_STAT_CMP_UNREACH 0, F.PTC_CNT_STAT_MATCHED 0, F.PTC_CNT_STAT_LAPPED 0, F.PTC_CNT_STAT_LOG_MISSED 0]⟩,
  ⟨0x10124, 8, 0x40, 1, 0, 1, 0, [F.PTC_CNT_CAPT_CNT_V 0]⟩,
  ⟨0x10128, 8, 0x40, 1, 0, 1, 0, [F.PTC_CNT_CAPT_PT_V 0]⟩,
  ⟨0x10400, 1, 0, 1, 0, 1, 0, [F.PTC_ENC_CTL_MODE, F.PTC_ENC_CTL_INVERT, F.PTC_ENC_CTL_Z_GATE, F.PTC_ENC_CTL_Z_RST, F.PTC_ENC_CTL_Z_EDGE, F.PTC_ENC_CTL_GLITCH, F.PTC_ENC_CTL_POS_CLR]⟩,
  ⟨0x10410, 1, 0, 1, 0, 1, 0, [F.PTC_ENC_POS_V]⟩,
  ⟨0x10420, 1, 0, 1, 0, 1, 0, [F.PTC_ENC_Z_POS_V]⟩,
  ⟨0x10428, 1, 0, 1, 0, 1, 0, [F.PTC_ENC_Z_PT_V]⟩,
  ⟨0x10440, 1, 0, 1, 0, 1, 0, [F.PTC_ENC_STAT_QUAD_ERR, F.PTC_ENC_STAT_POS_STALE, F.PTC_ENC_STAT_Z_SEEN, F.PTC_ENC_STAT_DIR, F.PTC_ENC_STAT_LFRES, F.PTC_ENC_STAT_QUAD_ERRS]⟩,
  ⟨0x10450, 1, 0, 1, 0, 1, 0, [F.PTC_EDGE_CTL_SNAP, F.PTC_EDGE_CTL_SNAP_VALID]⟩]

/-- The register rows of the THY block (17_register_index.md R485). -/
def rowsTHY : List RegRow := [
  ⟨0x20000, 1, 0, 1, 0, 1, 0, [F.THY_CTL_EN, F.THY_CTL_MODE, F.THY_CTL_INTERP, F.THY_CTL_PAT_LEN, F.THY_CTL_START, F.THY_CTL_STOP, F.THY_CTL_RUNNING, F.THY_CTL_SYNCED]⟩,
  ⟨0x20004, 1, 0, 1, 0, 1, 0, [F.THY_LEAD_LEAD, F.THY_LEAD_LEAD_EFF]⟩,
  ⟨0x20008, 1, 0, 1, 0, 1, 0, [F.THY_MINPER_MINPER]⟩,
  ⟨0x2000C, 1, 0, 1, 0, 1, 0, [F.THY_FLOOR_FLOOR]⟩,
  ⟨0x20010, 1, 0, 1, 0, 1, 0, [F.THY_PITCH_PITCH]⟩,
  ⟨0x20014, 1, 0, 1, 0, 1, 0, [F.THY_DIV_P_V]⟩,
  ⟨0x20018, 1, 0, 1, 0, 1, 0, [F.THY_DIV_F_V]⟩,
  ⟨0x2001C, 1, 0, 1, 0, 1, 0, [F.THY_CNTPITCH_CPITCH]⟩,
  ⟨0x20020, 1, 0, 1, 0, 1, 0, [F.THY_VEL_WIN, F.THY_VEL_SHIFT, F.THY_VEL_STALL, F.THY_VEL_VALID]⟩,
  ⟨0x20028, 1, 0, 1, 0, 1, 0, [F.THY_TC_V]⟩,
  ⟨0x20030, 1, 0, 1, 0, 1, 0, [F.THY_TPER_TPER]⟩,
  ⟨0x20034, 1, 0, 1, 0, 1, 0, [F.THY_TRIG_EDGE, F.THY_TRIG_TO_SRC, F.THY_TRIG_TO_WIDTH]⟩,
  ⟨0x20040, 1, 0, 1, 0, 1, 0, [F.THY_SEG_SEGLEN, F.THY_SEG_SRC_LEN, F.THY_SEG_SRC_Z, F.THY_SEG_SRC_LVL, F.THY_SEG_SRC_HOST, F.THY_SEG_LVL_SEL, F.THY_SEG_NOW]⟩,
  ⟨0x20050, 1, 0, 1, 0, 1, 0, [F.THY_LN_NEXT_V]⟩,
  ⟨0x20058, 1, 0, 1, 0, 1, 0, [F.THY_SN_NEXT_V]⟩,
  ⟨0x20060, 1, 0, 1, 0, 1, 0, [F.THY_LN_V]⟩,
  ⟨0x20068, 1, 0, 1, 0, 1, 0, [F.THY_SN_V]⟩,
  ⟨0x20070, 1, 0, 1, 0, 1, 0, [F.THY_RING_PI_PI]⟩,
  ⟨0x20074, 1, 0, 1, 0, 1, 0, [F.THY_RING_CI_CI]⟩,
  ⟨0x20080, 1, 0, 1, 0, 1, 0, [F.THY_STAT_STALLED, F.THY_STAT_RING_EMPTY, F.THY_STAT_LEAD_RAISED, F.THY_STAT_SKIPPED, F.THY_STAT_SEG_SUPP, F.THY_STAT_SEG_FORCED, F.THY_STAT_HELD]⟩,
  ⟨0x20090, 5, 0x4, 1, 0, 1, 0, [F.THY_SKIP_V 0]⟩]

/-- The register rows of the ARR block (17_register_index.md R485). -/
def rowsARR : List RegRow := [
  ⟨0x30000, 1, 0, 1, 0, 1, 0, [F.ARR_INFO_ACTIVE_COLS, F.ARR_INFO_DARK_PER_END, F.ARR_INFO_ROWS]⟩,
  ⟨0x30100, 6, 0x10, 1, 0, 1, 0, [F.ARR_GRP_EN 0, F.ARR_GRP_HCG 0, F.ARR_GRP_ABIN 0, F.ARR_GRP_TDI 0, F.ARR_GRP_FILTER 0]⟩,
  ⟨0x30104, 6, 0x10, 1, 0, 1, 0, [F.ARR_CWIN_CONV_START 0, F.ARR_CWIN_CONV_END 0]⟩,
  ⟨0x30200, 1, 0, 1, 0, 1, 0, [F.ARR_WIN_FIRST_CG, F.ARR_WIN_LAST_CG]⟩,
  ⟨0x30210, 1, 0, 1, 0, 1, 0, [F.ARR_DARK_GUARD]⟩,
  ⟨0x30300, 1, 0, 1, 0, 1, 0, [F.ARR_STRB_EN_EN]⟩,
  ⟨0x30310, 6, 0x4, 1, 0, 1, 0, [F.ARR_STRB_MAXON_MAXON 0]⟩,
  ⟨0x30340, 1, 0, 1, 0, 1, 0, [F.ARR_STRB_STAT_MAXON_HIT, F.ARR_STRB_STAT_FORCED, F.ARR_STRB_STAT_KILL_CAUSE, F.ARR_STRB_STAT_KILL_CLR]⟩,
  ⟨0x30400, 1, 0, 1, 0, 1, 0, [F.ARR_HDR_PAIR_EN]⟩,
  ⟨0x30440, 16, 0x4, 1, 0, 1, 0, [F.ARR_HDR_RATIO_V 0]⟩,
  ⟨0x30500, 1, 0, 1, 0, 1, 0, [F.ARR_STAT_PWR_OK, F.ARR_STAT_HELD, F.ARR_STAT_FLUSH]⟩,
  ⟨0x30510, 1, 0, 1, 0, 1, 0, [F.ARR_TDI_BREAKS_V]⟩]

/-- The register rows of the CNV block (17_register_index.md R485). -/
def rowsCNV : List RegRow := [
  ⟨0x40000, 1, 0, 1, 0, 1, 0, [F.CNV_INFO_CONVERTERS, F.CNV_INFO_SPARES]⟩,
  ⟨0x40010, 1, 0, 1, 0, 1, 0, [F.CNV_PRESET_PRESET, F.CNV_PRESET_SHIFT_OVR]⟩,
  ⟨0x40014, 1, 0, 1, 0, 1, 0, [F.CNV_SHIFT_S1, F.CNV_SHIFT_S2, F.CNV_SHIFT_S3]⟩,
  ⟨0x40018, 1, 0, 1, 0, 1, 0, [F.CNV_SHIFT_EFF_S1, F.CNV_SHIFT_EFF_S2, F.CNV_SHIFT_EFF_S3]⟩,
  ⟨0x4001C, 1, 0, 1, 0, 1, 0, [F.CNV_FS_FS, F.CNV_FS_CLAMPS]⟩,
  ⟨0x40100, 1, 0, 1, 0, 1, 0, [F.CNV_TEST_RUN, F.CNV_TEST_ABORT, F.CNV_TEST_FAIL_CLR, F.CNV_TEST_TOL]⟩,
  ⟨0x40104, 1, 0, 1, 0, 1, 0, [F.CNV_TEST_STAT_BUSY, F.CNV_TEST_STAT_DONE, F.CNV_TEST_STAT_ABORTED, F.CNV_TEST_STAT_FAILS]⟩,
  ⟨0x40110, 1, 0, 1, 0, 1, 0, [F.CNV_BG_EN]⟩,
  ⟨0x40200, 1, 0, 1, 0, 1, 0, [F.CNV_STAT_SPARES_IN_USE, F.CNV_STAT_SPARES_FAILED]⟩,
  ⟨0x40210, 1, 0, 1, 0, 1, 0, [F.CNV_SAT_LINES_V]⟩,
  ⟨0x41000, 774, 0x4, 1, 0, 1, 0, [F.CNV_SPARE_MEMBER 0, F.CNV_SPARE_EN 0, F.CNV_SPARE_IN_USE 0, F.CNV_SPARE_SPARE_FAIL 0, F.CNV_SPARE_MEMBER_FAIL 0]⟩]

/-- The register rows of the LFL block (17_register_index.md R485). -/
def rowsLFL : List RegRow := [
  ⟨0x50000, 1, 0, 1, 0, 1, 0, [F.LFL_INFO_DETECTORS, F.LFL_INFO_ROM_ENTRIES]⟩,
  ⟨0x50010, 1, 0, 1, 0, 1, 0, [F.LFL_CTL_DECIM, F.LFL_CTL_DSHIFT]⟩,
  ⟨0x50100, 6, 0x10, 1, 0, 1, 0, [F.LFL_GRP_RANK_MODE 0, F.LFL_GRP_RANK_TAPS 0, F.LFL_GRP_RANK_K 0, F.LFL_GRP_RSHIFT 0, F.LFL_GRP_FIR 0, F.LFL_GRP_FSHIFT 0, F.LFL_GRP_FSHIFT_AUTO 0]⟩,
  ⟨0x50104, 6, 0x10, 1, 0, 1, 0, [F.LFL_GD_SPAN 0, F.LFL_GD_GD2 0, F.LFL_GD_TOTAL2 0]⟩,
  ⟨0x50210, 1, 0, 1, 0, 1, 0, [F.LFL_CLAMP_LO_V]⟩,
  ⟨0x50300, 4, 0x4, 1, 0, 1, 0, [F.LFL_EVT_CTL_MODE 0, F.LFL_EVT_CTL_POL 0, F.LFL_EVT_CTL_WIDTH 0]⟩,
  ⟨0x50320, 4, 0x8, 1, 0, 1, 0, [F.LFL_EVT_SRC_V 0]⟩,
  ⟨0x51000, 64, 0x40, 1, 0, 1, 0, [F.LFL_DET_CTL_EN 0, F.LFL_DET_CTL_MODE 0, F.LFL_DET_CTL_POL 0, F.LFL_DET_CTL_GROUP 0, F.LFL_DET_CTL_TAP 0, F.LFL_DET_CTL_REDUCE 0, F.LFL_DET_CTL_EDGES 0, F.LFL_DET_CTL_EVAL_UNSETTLED 0, F.LFL_DET_CTL_REC_EN 0, F.LFL_DET_CTL_QUAL 0]⟩,
  ⟨0x51004, 64, 0x40, 1, 0, 1, 0, [F.LFL_DET_COLS_FIRST_COL 0, F.LFL_DET_COLS_LAST_COL 0]⟩,
  ⟨0x51008, 64, 0x40, 1, 0, 1, 0, [F.LFL_DET_TH_LO_TH 0]⟩,
  ⟨0x5100C, 64, 0x40, 1, 0, 1, 0, [F.LFL_DET_TH_HI_TH 0]⟩,
  ⟨0x51010, 64, 0x40, 1, 0, 1, 0, [F.LFL_DET_EDGE_TOL 0]⟩,
  ⟨0x51014, 64, 0x40, 1, 0, 1, 0, [F.LFL_DET_STAT_STATE 0, F.LFL_DET_STAT_FIRED 0, F.LFL_DET_STAT_QUEUED 0, F.LFL_DET_STAT_LOST 0]⟩,
  ⟨0x51018, 64, 0x40, 1, 0, 1, 0, [F.LFL_DET_VALUE_V 0]⟩]

/-- The register rows of the CAL block (17_register_index.md R485). -/
def rowsCAL : List RegRow := [
  ⟨0x60000, 1, 0, 1, 0, 1, 0, [F.CAL_CTL_REBUILD, F.CAL_CTL_AUTO, F.CAL_CTL_REPAIR_AUTO]⟩,
  ⟨0x60010, 1, 0, 1, 0, 1, 0, [F.CAL_SETS_EN, F.CAL_SETS_VALID, F.CAL_SETS_REJECTED]⟩,
  ⟨0x60014, 1, 0, 1, 0, 1, 0, [F.CAL_TEMP_HYST, F.CAL_TEMP_EXT_TOL]⟩,
  ⟨0x60100, 6, 0x10, 1, 0, 1, 0, [F.CAL_GRP_MODE 0, F.CAL_GRP_DARK_TRACK 0, F.CAL_GRP_FILL 0, F.CAL_GRP_FILL_REACH 0]⟩,
  ⟨0x60104, 6, 0x10, 1, 0, 1, 0, [F.CAL_SCALE_SCALE 0]⟩,
  ⟨0x60200, 1, 0, 1, 0, 1, 0, [F.CAL_DARK_ALPHA]⟩,
  ⟨0x60300, 1, 0, 1, 0, 1, 0, [F.CAL_SC_EN, F.CAL_SC_PHASE, F.CAL_SC_SHIFT, F.CAL_SC_FULL]⟩,
  ⟨0x60400, 1, 0, 1, 0, 1, 0, [F.CAL_STAT_SEED, F.CAL_STAT_EXTRAP, F.CAL_STAT_BUILDING, F.CAL_STAT_PENDING, F.CAL_STAT_PROPOSED, F.CAL_STAT_CAPT_BUSY, F.CAL_STAT_FULL_BUSY, F.CAL_STAT_SETS_USED]⟩,
  ⟨0x60410, 8, 0x4, 1, 0, 1, 0, [F.CAL_ZONE_TEMP 0, F.CAL_ZONE_LO_SET 0, F.CAL_ZONE_HI_SET 0, F.CAL_ZONE_CLAMPED 0]⟩,
  ⟨0x60440, 1, 0, 1, 0, 1, 0, [F.CAL_SWAPS_V]⟩,
  ⟨0x60444, 1, 0, 1, 0, 1, 0, [F.CAL_SWAP_SN_V]⟩,
  ⟨0x60448, 1, 0, 1, 0, 1, 0, [F.CAL_SWAP_PT_V]⟩,
  ⟨0x60450, 1, 0, 1, 0, 1, 0, [F.CAL_FILLED_V]⟩,
  ⟨0x60454, 1, 0, 1, 0, 1, 0, [F.CAL_NEG_V]⟩,
  ⟨0x60500, 1, 0, 1, 0, 1, 0, [F.CAL_CAPT_KIND, F.CAL_CAPT_GROUPS, F.CAL_CAPT_LOG2N, F.CAL_CAPT_START, F.CAL_CAPT_DONE, F.CAL_CAPT_SLOT]⟩,
  ⟨0x60504, 1, 0, 1, 0, 1, 0, [F.CAL_CAPT_LINES_V]⟩]

/-- The register rows of the PIP block (17_register_index.md R485). -/
def rowsPIP : List RegRow := [
  ⟨0x80000, 1, 0, 1, 0, 1, 0, [F.PIP_CTL_COLOUR_EN, F.PIP_CTL_INSP_EN, F.PIP_CTL_HALF]⟩,
  ⟨0x80004, 1, 0, 1, 0, 1, 0, [F.PIP_ALIGN_AMAX, F.PIP_ALIGN_HELD, F.PIP_ALIGN_HALF_ACTIVE]⟩,
  ⟨0x80100, 1, 0, 1, 0, 1, 0, [F.PIP_SEAM_OVL_W, F.PIP_SEAM_OVL_E]⟩,
  ⟨0x80104, 1, 0, 1, 0, 1, 0, [F.PIP_SEAM_STAG_STAGGER, F.PIP_SEAM_STAG_WAIT]⟩,
  ⟨0x80108, 1, 0, 1, 0, 1, 0, [F.PIP_SEAMW_XFRAC, F.PIP_SEAMW_RAMP]⟩,
  ⟨0x80110, 6, 0x4, 1, 0, 1, 0, [F.PIP_SEAMW_GM_GM 0]⟩,
  ⟨0x80140, 1, 0, 1, 0, 1, 0, [F.PIP_SEAM_STAT_DROPPING, F.PIP_SEAM_STAT_OVF, F.PIP_SEAM_STAT_LATE, F.PIP_SEAM_STAT_LATE_LINES]⟩,
  ⟨0x80200, 1, 0, 1, 0, 1, 0, [F.PIP_INSP_GRID, F.PIP_INSP_XPHASE, F.PIP_INSP_SRC0, F.PIP_INSP_SRC1, F.PIP_INSP_SRC2, F.PIP_INSP_SRC3, F.PIP_INSP_HOST_RING, F.PIP_INSP_HOST_EN]⟩,
  ⟨0x80204, 1, 0, 1, 0, 1, 0, [F.PIP_INSP_STG_STG_KIB]⟩,
  ⟨0x80208, 1, 0, 1, 0, 1, 0, [F.PIP_INSP_STAT_DROPPING, F.PIP_INSP_STAT_TRUNC, F.PIP_INSP_STAT_TRUNC_SEGS]⟩,
  ⟨0x80310, 1, 0, 1, 0, 1, 0, [F.PIP_SUBST_V]⟩,
  ⟨0x81000, 16, 0x20, 1, 0, 1, 0, [F.PIP_ROI_CTL_EN 0, F.PIP_ROI_CTL_XBIN 0, F.PIP_ROI_CTL_PACK 0, F.PIP_ROI_CTL_PLANES 0, F.PIP_ROI_CTL_RING 0]⟩,
  ⟨0x81004, 16, 0x20, 1, 0, 1, 0, [F.PIP_ROI_COLS_FIRST_COL 0, F.PIP_ROI_COLS_LAST_COL 0]⟩,
  ⟨0x81008, 16, 0x20, 1, 0, 1, 0, [F.PIP_ROI_STG_STG_KIB 0]⟩,
  ⟨0x8100C, 16, 0x20, 1, 0, 1, 0, [F.PIP_ROI_STAT_DROPPING 0, F.PIP_ROI_STAT_TRUNC 0, F.PIP_ROI_STAT_TRUNC_SEGS 0]⟩]

/-- The register rows of the SOR block (17_register_index.md R485). -/
def rowsSOR : List RegRow := [
  ⟨0xA0010, 1, 0, 1, 0, 1, 0, [F.SOR_CTL_EN, F.SOR_CTL_EVAL_FLAGGED, F.SOR_CTL_DEF_CLASS]⟩,
  ⟨0xA0014, 1, 0, 1, 0, 1, 0, [F.SOR_GEOM_CX, F.SOR_GEOM_NT]⟩,
  ⟨0xA0018, 1, 0, 1, 0, 1, 0, [F.SOR_CLU_GAP, F.SOR_CLU_MAX_ROWS]⟩,
  ⟨0xA0020, 1, 0, 1, 0, 1, 0, [F.SOR_OUT_RING, F.SOR_OUT_DEF_EN, F.SOR_OUT_REG_EN, F.SOR_OUT_STG_KIB]⟩,
  ⟨0xA0024, 1, 0, 1, 0, 1, 0, [F.SOR_REF_RING]⟩,
  ⟨0xA0030, 1, 0, 1, 0, 1, 0, [F.SOR_RT_CTL_ARM, F.SOR_RT_CTL_DISARM, F.SOR_RT_CTL_SRC, F.SOR_RT_CTL_GEN]⟩,
  ⟨0xA0034, 1, 0, 1, 0, 1, 0, [F.SOR_RT_COUNT_V]⟩,
  ⟨0xA0038, 1, 0, 1, 0, 1, 0, [F.SOR_RT_SWAP_SN_V]⟩,
  ⟨0xA003C, 1, 0, 1, 0, 1, 0, [F.SOR_RT_STAT_IN_FORCE, F.SOR_RT_STAT_VALIDATING, F.SOR_RT_STAT_READY, F.SOR_RT_STAT_INVALID, F.SOR_RT_STAT_MISSED, F.SOR_RT_STAT_REASON, F.SOR_RT_STAT_GEN_IN_FORCE, F.SOR_RT_STAT_BAD_ENTRY]⟩,
  ⟨0xA0040, 1, 0, 1, 0, 1, 0, [F.SOR_ALARM_MODE, F.SOR_ALARM_SRC_FLOOD, F.SOR_ALARM_SRC_NOREF, F.SOR_ALARM_WIDTH, F.SOR_ALARM_CLR, F.SOR_ALARM_ACTIVE, F.SOR_ALARM_FIRED]⟩,
  ⟨0xA0050, 1, 0, 1, 0, 1, 0, [F.SOR_STAT_FLOOD, F.SOR_STAT_FLOODED, F.SOR_STAT_NOREF, F.SOR_STAT_CLU_OVF, F.SOR_STAT_TRUNC, F.SOR_STAT_DROPPING, F.SOR_STAT_REF_ERR, F.SOR_STAT_OPEN]⟩,
  ⟨0xA0060, 1, 0, 1, 0, 1, 0, [F.SOR_REG_CTL_SHIFT, F.SOR_REG_CTL_CH, F.SOR_REG_CTL_INV, F.SOR_REG_CTL_MIN_CON]⟩,
  ⟨0xA0080, 1, 0, 1, 0, 1, 0, [F.SOR_DEFECTS_V]⟩,
  ⟨0xA0084, 1, 0, 1, 0, 1, 0, [F.SOR_WRITTEN_V]⟩,
  ⟨0xA0088, 1, 0, 1, 0, 1, 0, [F.SOR_NOREF_ROWS_V]⟩,
  ⟨0xA008C, 1, 0, 1, 0, 1, 0, [F.SOR_REF_DISCARD_V]⟩,
  ⟨0xA0100, 16, 0x10, 1, 0, 1, 0, [F.SOR_CLASS_CTL_MODE 0, F.SOR_CLASS_CTL_POL 0, F.SOR_CLASS_CTL_SEV 0, F.SOR_CLASS_CTL_MIN_CELLS 0, F.SOR_CLASS_CTL_W 0]⟩,
  ⟨0xA0104, 16, 0x10, 1, 0, 1, 0, [F.SOR_CLASS_TH_TH 0]⟩,
  ⟨0xA0200, 16, 0x10, 1, 0, 1, 0, [F.SOR_REGW_CTL_EN 0, F.SOR_REGW_CTL_PLANES 0, F.SOR_REGW_CTL_REPEAT 0]⟩,
  ⟨0xA0204, 16, 0x10, 1, 0, 1, 0, [F.SOR_REGW_POS_X0 0, F.SOR_REGW_POS_Y0 0]⟩,
  ⟨0xA0400, 16, 0x10, 4, 0x4, 1, 0, [F.SOR_REG_SM_SX 0 0, F.SOR_REG_SM_SY 0 0]⟩]

/-- The register rows of the CHV block (17_register_index.md R485). -/
def rowsCHV : List RegRow := [
  ⟨0xC0000, 1, 0, 1, 0, 1, 0, [F.CHV_INFO_PORTS, F.CHV_INFO_LANES, F.CHV_INFO_MAX_CHAIN]⟩,
  ⟨0xC0010, 1, 0, 1, 0, 1, 0, [F.CHV_CTL_AUTO_RETRAIN, F.CHV_CTL_RETRAIN_CW, F.CHV_CTL_RETRAIN_CE, F.CHV_CTL_SKEW_ACT]⟩,
  ⟨0xC0014, 1, 0, 1, 0, 1, 0, [F.CHV_POS_POS, F.CHV_POS_N, F.CHV_POS_HEAD, F.CHV_POS_END, F.CHV_POS_POS_CONFLICT, F.CHV_POS_HEAD_CONFLICT]⟩,
  ⟨0xC0020, 1, 0, 1, 0, 1, 0, [F.CHV_SYNC_SYNCED, F.CHV_SYNC_HOLD_RX, F.CHV_SYNC_SLEWING, F.CHV_SYNC_LOST_CAUSE, F.CHV_SYNC_PHI, F.CHV_SYNC_DELTA]⟩,
  ⟨0xC0024, 1, 0, 1, 0, 1, 0, [F.CHV_SYNCMAP_V]⟩,
  ⟨0xC0030, 1, 0, 1, 0, 1, 0, [F.CHV_DIG_MISMATCH_V]⟩,
  ⟨0xC0034, 1, 0, 1, 0, 1, 0, [F.CHV_DIG_MISSING_V]⟩,
  ⟨0xC0038, 1, 0, 1, 0, 1, 0, [F.CHV_DIG_SN_V]⟩,
  ⟨0xC0040, 1, 0, 1, 0, 1, 0, [F.CHV_ACT_LOST_V]⟩,
  ⟨0xC0100, 2, 0x40, 1, 0, 1, 0, [F.CHV_PORT_STAT_STATE 0, F.CHV_PORT_STAT_LANE_SWAP 0, F.CHV_PORT_STAT_POL_INV 0, F.CHV_PORT_STAT_LAST_FAIL 0, F.CHV_PORT_STAT_TRAIN_REASON 0, F.CHV_PORT_STAT_FAILED 0]⟩,
  ⟨0xC0104, 2, 0x40, 1, 0, 1, 0, [F.CHV_PORT_ASYM_ASYM 0]⟩,
  ⟨0xC0108, 2, 0x40, 1, 0, 1, 0, [F.CHV_PORT_DELAY_V 0]⟩,
  ⟨0xC010C, 2, 0x40, 1, 0, 1, 0, [F.CHV_PORT_RTT_V 0]⟩,
  ⟨0xC0110, 2, 0x40, 1, 0, 1, 0, [F.CHV_PORT_CRC_ERRS_V 0]⟩,
  ⟨0xC0114, 2, 0x40, 1, 0, 1, 0, [F.CHV_PORT_ECHO_MISS_V 0]⟩,
  ⟨0xC0118, 2, 0x40, 1, 0, 1, 0, [F.CHV_PORT_FAILS_V 0]⟩]

/-- The register rows of the DMA block (17_register_index.md R485). -/
def rowsDMA : List RegRow := [
  ⟨0xD0000, 1, 0, 1, 0, 1, 0, [F.DMA_CTL_EN, F.DMA_CTL_RO_EN, F.DMA_CTL_ERR_VEC]⟩,
  ⟨0xD0008, 1, 0, 1, 0, 1, 0, [F.DMA_WIN_BASE_BASE]⟩,
  ⟨0xD0010, 1, 0, 1, 0, 1, 0, [F.DMA_BW_WR_LIMIT, F.DMA_BW_RD_LIMIT]⟩,
  ⟨0xD0014, 1, 0, 1, 0, 1, 0, [F.DMA_CHARGE_WR, F.DMA_CHARGE_RD]⟩,
  ⟨0xD0018, 1, 0, 1, 0, 1, 0, [F.DMA_CAP_LINK]⟩,
  ⟨0xD0020, 1, 0, 1, 0, 1, 0, [F.DMA_EVT_RING, F.DMA_EVT_EN]⟩,
  ⟨0xD0030, 1, 0, 1, 0, 1, 0, [F.DMA_STAT_LINKED, F.DMA_STAT_RECOVERING, F.DMA_STAT_LOST, F.DMA_STAT_EVT_LOST, F.DMA_STAT_EVT_LEVEL]⟩,
  ⟨0xD0100, 16, 0x40, 1, 0, 1, 0, [F.DMA_RING_CTL_EN 0, F.DMA_RING_CTL_DIR 0, F.DMA_RING_CTL_WB_EN 0, F.DMA_RING_CTL_IRQ_EN 0, F.DMA_RING_CTL_LOG2SIZE 0, F.DMA_RING_CTL_VEC 0, F.DMA_RING_CTL_BUF_4K 0, F.DMA_RING_CTL_STOP 0, F.DMA_RING_CTL_STOPPED 0]⟩,
  ⟨0xD0104, 16, 0x40, 1, 0, 1, 0, [F.DMA_RING_BASE_BASE 0]⟩,
  ⟨0xD0108, 16, 0x40, 1, 0, 1, 0, [F.DMA_RING_PI_PI 0]⟩,
  ⟨0xD010C, 16, 0x40, 1, 0, 1, 0, [F.DMA_RING_CI_CI 0]⟩,
  ⟨0xD0110, 16, 0x40, 1, 0, 1, 0, [F.DMA_RING_WB_WB 0]⟩,
  ⟨0xD0118, 16, 0x40, 1, 0, 1, 0, [F.DMA_RING_MOD_COUNT 0, F.DMA_RING_MOD_TIMER 0]⟩,
  ⟨0xD011C, 16, 0x40, 1, 0, 1, 0, [F.DMA_RING_AGE_AGE 0]⟩,
  ⟨0xD0120, 16, 0x40, 1, 0, 1, 0, [F.DMA_RING_STAT_STARVED 0, F.DMA_RING_STAT_DROPPING 0, F.DMA_RING_STAT_ERR 0, F.DMA_RING_STAT_NOT_OWNED 0, F.DMA_RING_STAT_LAST_STATUS 0, F.DMA_RING_STAT_ERR_DESCS 0]⟩,
  ⟨0xD0124, 16, 0x40, 1, 0, 1, 0, [F.DMA_RING_STREAM_STREAM 0]⟩,
  ⟨0xD0128, 16, 0x40, 1, 0, 1, 0, [F.DMA_RING_BYTES_V 0]⟩]

/-- The register rows of the CFG block (17_register_index.md R485). -/
def rowsCFG : List RegRow := [
  ⟨0xE0000, 1, 0, 1, 0, 1, 0, [F.CFG_COMMIT_ID, F.CFG_COMMIT_NOW, F.CFG_COMMIT_GO, F.CFG_COMMIT_DISCARD]⟩,
  ⟨0xE0004, 1, 0, 1, 0, 1, 0, [F.CFG_COMMIT_SN_V]⟩,
  ⟨0xE0008, 1, 0, 1, 0, 1, 0, [F.CFG_STAT_STATE, F.CFG_STAT_REJECTED, F.CFG_STAT_APPLIED, F.CFG_STAT_ABORTED, F.CFG_STAT_ORPHAN, F.CFG_STAT_REASON, F.CFG_STAT_LAST_ID]⟩,
  ⟨0xE000C, 1, 0, 1, 0, 1, 0, [F.CFG_REJ_OFS_V]⟩,
  ⟨0xE0010, 1, 0, 1, 0, 1, 0, [F.CFG_REJ_POS_V]⟩,
  ⟨0xE0014, 1, 0, 1, 0, 1, 0, [F.CFG_APPLIED_SN_V]⟩,
  ⟨0xE0018, 1, 0, 1, 0, 1, 0, [F.CFG_VIEW_SHADOW]⟩,
  ⟨0xE0020, 1, 0, 1, 0, 1, 0, [F.CFG_LOCK_LOCK, F.CFG_LOCK_LOCKED, F.CFG_LOCK_SOURCE]⟩,
  ⟨0xE0030, 1, 0, 1, 0, 1, 0, [F.CFG_BOOT_STAT_PHASE, F.CFG_BOOT_STAT_SAFE, F.CFG_BOOT_STAT_FAIL, F.CFG_BOOT_STAT_FROM_HOST, F.CFG_BOOT_STAT_REREAD]⟩,
  ⟨0xE0034, 1, 0, 1, 0, 1, 0, [F.CFG_BOOT_HOST_REBOOT]⟩,
  ⟨0xE0038, 1, 0, 1, 0, 1, 0, [F.CFG_IMAGE_ID_V]⟩,
  ⟨0xE003C, 1, 0, 1, 0, 1, 0, [F.CFG_IMAGE_RB_V]⟩,
  ⟨0xE0040, 1, 0, 1, 0, 1, 0, [F.CFG_BOOT_COUNT_V]⟩,
  ⟨0xE0100, 8, 0x4, 1, 0, 1, 0, [F.CFG_DIGEST_V 0]⟩,
  ⟨0xE0120, 8, 0x4, 1, 0, 1, 0, [F.CFG_DIGEST_PEND_V 0]⟩]

/-- The register rows of the SEC block (17_register_index.md R485). -/
def rowsSEC : List RegRow := [
  ⟨0xF0000, 1, 0, 1, 0, 1, 0, [F.SEC_STAT_OWNED, F.SEC_STAT_KEY_USED, F.SEC_STAT_KEY_VALID, F.SEC_STAT_ATT_BUSY, F.SEC_STAT_ATT_DONE]⟩,
  ⟨0xF0010, 1, 0, 1, 0, 1, 0, [F.SEC_RB_V]⟩,
  ⟨0xF0014, 1, 0, 1, 0, 1, 0, [F.SEC_RB_CTL_ADVANCE]⟩,
  ⟨0xF0020, 1, 0, 1, 0, 1, 0, [F.SEC_ATTEST_RUN]⟩,
  ⟨0xF0100, 4, 0x40, 1, 0, 1, 0, [F.SEC_SLOT_CTL_STATE 0, F.SEC_SLOT_CTL_PROGRAM 0, F.SEC_SLOT_CTL_REVOKE 0]⟩,
  ⟨0xF0120, 4, 0x40, 8, 0x4, 1, 0, [F.SEC_SLOT_HASH_V 0 0]⟩,
  ⟨0xF0200, 8, 0x4, 1, 0, 1, 0, [F.SEC_NONCE_V 0]⟩,
  ⟨0xF0300, 4, 0x4, 1, 0, 1, 0, [F.SEC_DEVICE_ID_V 0]⟩,
  ⟨0xF0310, 8, 0x4, 1, 0, 1, 0, [F.SEC_ID_PK_V 0]⟩]

/-- The register rows of the CLK block (17_register_index.md R485). -/
def rowsCLK : List RegRow := [
  ⟨0x100000, 1, 0, 1, 0, 1, 0, [F.CLK_INFO_PLLS, F.CLK_INFO_DOMAINS]⟩,
  ⟨0x100100, 5, 0x20, 1, 0, 1, 0, [F.CLK_PLL_CTL_REF_MODE 0, F.CLK_PLL_CTL_N 0, F.CLK_PLL_CTL_APPLY 0]⟩,
  ⟨0x100104, 5, 0x20, 1, 0, 1, 0, [F.CLK_PLL_STAT_LOCKED 0, F.CLK_PLL_STAT_GATED 0, F.CLK_PLL_STAT_SEARCHING 0, F.CLK_PLL_STAT_LOSS 0, F.CLK_PLL_STAT_LAST_CAUSE 0, F.CLK_PLL_STAT_BAND 0, F.CLK_PLL_STAT_REF_MODE_EFF 0, F.CLK_PLL_STAT_N_EFF 0]⟩,
  ⟨0x100108, 5, 0x20, 1, 0, 1, 0, [F.CLK_PLL_LOSSES_V 0]⟩,
  ⟨0x100200, 1, 0, 1, 0, 1, 0, [F.CLK_TPHASE_PHASE, F.CLK_TPHASE_QUEUED, F.CLK_TPHASE_QUEUED_DN]⟩,
  ⟨0x100204, 1, 0, 1, 0, 1, 0, [F.CLK_TSTEPS_UP_V]⟩,
  ⟨0x100208, 1, 0, 1, 0, 1, 0, [F.CLK_TSTEPS_DN_V]⟩,
  ⟨0x10020C, 1, 0, 1, 0, 1, 0, [F.CLK_TSTEPS_DROP_V]⟩,
  ⟨0x100300, 1, 0, 1, 0, 1, 0, [F.CLK_MON_XREF_OK, F.CLK_MON_XREF_LOST, F.CLK_MON_LF_OK, F.CLK_MON_LF_LOST, F.CLK_MON_HK_TRIMMED, F.CLK_MON_TW_FALLBACK]⟩,
  ⟨0x100304, 1, 0, 1, 0, 1, 0, [F.CLK_HKFREQ_FREQ, F.CLK_HKFREQ_TRIM]⟩]

/-- The register rows of the HKP block (17_register_index.md R485). -/
def rowsHKP : List RegRow := [
  ⟨0x110000, 1, 0, 1, 0, 1, 0, [F.HKP_INFO_CHANNELS, F.HKP_INFO_LOG_RECORDS]⟩,
  ⟨0x110004, 1, 0, 1, 0, 1, 0, [F.HKP_ROUND_V]⟩,
  ⟨0x110100, 16, 0x4, 1, 0, 1, 0, [F.HKP_CH_VALUE 0, F.HKP_CH_VALID 0, F.HKP_CH_ROT 0]⟩,
  ⟨0x110140, 8, 0x4, 1, 0, 1, 0, [F.HKP_RAIL_VALUE 0, F.HKP_RAIL_VALID 0]⟩,
  ⟨0x110200, 1, 0, 1, 0, 1, 0, [F.HKP_LIMEN_EN]⟩,
  ⟨0x110210, 16, 0x4, 1, 0, 1, 0, [F.HKP_LIM_HI 0, F.HKP_LIM_LO 0]⟩,
  ⟨0x110250, 1, 0, 1, 0, 1, 0, [F.HKP_LIMSTAT_HIT]⟩,
  ⟨0x110300, 1, 0, 1, 0, 1, 0, [F.HKP_THERM_WARN, F.HKP_THERM_HOLD, F.HKP_THERM_RESUME_OK, F.HKP_THERM_DIES, F.HKP_THERM_CLR, F.HKP_THERM_WARNED, F.HKP_THERM_TRIPPED, F.HKP_THERM_OK_ROUNDS]⟩,
  ⟨0x110304, 1, 0, 1, 0, 1, 0, [F.HKP_THERM_CNT_V]⟩,
  ⟨0x110400, 1, 0, 1, 0, 1, 0, [F.HKP_PWR_STATE, F.HKP_PWR_SLEEP, F.HKP_PWR_BROWNOUT, F.HKP_PWR_WOKE]⟩,
  ⟨0x110500, 1, 0, 1, 0, 1, 0, [F.HKP_LOG_STAT_NEXT, F.HKP_LOG_STAT_UNACK, F.HKP_LOG_STAT_OVF]⟩,
  ⟨0x110504, 1, 0, 1, 0, 1, 0, [F.HKP_LOG_ACK_INDEX, F.HKP_LOG_ACK_ACK, F.HKP_LOG_ACK_ACK_ALL]⟩]

/-- The register rows of the BAY block (17_register_index.md R485). -/
def rowsBAY : List RegRow := [
  ⟨0x120000, 1, 0, 1, 0, 1, 0, [F.BAY_STAT_RAIL_SRC, F.BAY_STAT_COLD, F.BAY_STAT_WAS_BAY, F.BAY_STAT_LF_LOST_SLEEP, F.BAY_STAT_WAKE_SRC]⟩,
  ⟨0x120010, 1, 0, 1, 0, 1, 0, [F.BAY_WAKE_CTL_EN_TIMER, F.BAY_WAKE_CTL_EN_PIN, F.BAY_WAKE_CTL_EN_RAILS, F.BAY_WAKE_CTL_KEEP_RAILS]⟩,
  ⟨0x120018, 1, 0, 1, 0, 1, 0, [F.BAY_WAKE_PT_V]⟩,
  ⟨0x120020, 1, 0, 1, 0, 1, 0, [F.BAY_CELL_TIME_V]⟩,
  ⟨0x120024, 1, 0, 1, 0, 1, 0, [F.BAY_RC_EDGES_V]⟩,
  ⟨0x120100, 1, 0, 1, 0, 1, 0, [F.BAY_CHG_CTL_EN, F.BAY_CHG_CTL_LAMP_OFF, F.BAY_CHG_CTL_FAST_MA, F.BAY_CHG_CTL_CAP, F.BAY_CHG_CTL_FAULT_CLR, F.BAY_CHG_CTL_RESTART]⟩,
  ⟨0x120104, 1, 0, 1, 0, 1, 0, [F.BAY_CHG_TIMER_MINUTES]⟩,
  ⟨0x120110, 1, 0, 1, 0, 1, 0, [F.BAY_CHG_STAT_STATE, F.BAY_CHG_STAT_FAULT, F.BAY_CHG_STAT_NO_CELL, F.BAY_CHG_STAT_LIMIT_VIN, F.BAY_CHG_STAT_LIMIT_HEAT, F.BAY_CHG_STAT_FAULTED, F.BAY_CHG_STAT_CURRENT, F.BAY_CHG_STAT_LAMP]⟩,
  ⟨0x120114, 1, 0, 1, 0, 1, 0, [F.BAY_CHG_ELAPSED_V]⟩,
  ⟨0x120120, 1, 0, 1, 0, 1, 0, [F.BAY_CELL_VOLT, F.BAY_CELL_TEMP]⟩,
  ⟨0x120124, 1, 0, 1, 0, 1, 0, [F.BAY_CELL_PEAK_V]⟩]

/-- The register rows of the TWI block (17_register_index.md R485). -/
def rowsTWI : List RegRow := [
  ⟨0x130000, 1, 0, 1, 0, 1, 0, [F.TWI_CTL_PEC_REQ, F.TWI_CTL_ATTN_REP]⟩,
  ⟨0x130004, 1, 0, 1, 0, 1, 0, [F.TWI_STAT_ADDR, F.TWI_STAT_PEC_ERR, F.TWI_STAT_TIMEOUT, F.TWI_STAT_RD_LATE, F.TWI_STAT_ATTN_PEND]⟩,
  ⟨0x130008, 1, 0, 1, 0, 1, 0, [F.TWI_PTR_V]⟩,
  ⟨0x130010, 1, 0, 1, 0, 1, 0, [F.TWI_ATTN_SRC_ALARM, F.TWI_ATTN_SRC_CLASS]⟩,
  ⟨0x130014, 1, 0, 1, 0, 1, 0, [F.TWI_ATTN_EN_EN]⟩,
  ⟨0x130020, 1, 0, 1, 0, 1, 0, [F.TWI_BOOT_STAT_MODE, F.TWI_BOOT_STAT_DONE, F.TWI_BOOT_STAT_RECOVERIES, F.TWI_BOOT_STAT_ARB_LOST]⟩,
  ⟨0x130024, 1, 0, 1, 0, 1, 0, [F.TWI_BOOT_LISTENED_V]⟩]

/-- The register rows of the PCX block (17_register_index.md R485). -/
def rowsPCX : List RegRow := [
  ⟨0x140000, 1, 0, 1, 0, 1, 0, [F.PCX_LINK_SPEED, F.PCX_LINK_WIDTH, F.PCX_LINK_FLIT, F.PCX_LINK_DL_UP, F.PCX_LINK_L1, F.PCX_LINK_RETRAINS]⟩,
  ⟨0x140100, 1, 0, 1, 0, 1, 0, [F.PCX_PTM_CTL_AUTO, F.PCX_PTM_CTL_NOW, F.PCX_PTM_CTL_VALID, F.PCX_PTM_CTL_FAIL, F.PCX_PTM_CTL_PERIOD]⟩,
  ⟨0x140108, 1, 0, 1, 0, 1, 0, [F.PCX_PTM_PT_V]⟩,
  ⟨0x140110, 1, 0, 1, 0, 1, 0, [F.PCX_PTM_HOST_V]⟩]

/-- The register rows of the WIN block (17_register_index.md R485). -/
def rowsWIN : List RegRow := [
  ⟨0x200000, 16, 0x200, 1, 0, 1, 0, [F.THY_PROG0_LEN 0, F.THY_PROG0_CTX 0]⟩,
  ⟨0x200004, 16, 0x200, 1, 0, 1, 0, [F.THY_PROG1_LIGHT0 0, F.THY_PROG1_LIGHT1 0, F.THY_PROG1_LIGHT2 0, F.THY_PROG1_LIGHT3 0]⟩,
  ⟨0x200008, 16, 0x200, 1, 0, 1, 0, [F.THY_PROG2_LIGHT4 0, F.THY_PROG2_LIGHT5 0]⟩,
  ⟨0x200010, 16, 0x200, 64, 0x4, 1, 0, [F.THY_STEP_TICK 0 0, F.THY_STEP_KIND 0 0, F.THY_STEP_MASK 0 0]⟩,
  ⟨0x202000, 64, 0x4, 1, 0, 1, 0, [F.THY_PAT_PROG 0]⟩,
  ⟨0x204000, 2048, 0x4, 1, 0, 1, 0, [F.THY_LRING_V 0]⟩,
  ⟨0x220000, 4, 0x20000, 10, 0x2000, 1025, 0x4, [F.PIP_LUT_L 0 0 0]⟩,
  ⟨0x234000, 4, 0x20000, 1, 0, 1, 0, [F.PIP_CTX_K_K_LO 0, F.PIP_CTX_K_K_HI 0]⟩,
  ⟨0x234004, 4, 0x20000, 1, 0, 1, 0, [F.PIP_CTX_ENC_ENC 0, F.PIP_CTX_ENC_LSHIFT 0, F.PIP_CTX_ENC_MATRIX_EN 0]⟩,
  ⟨0x234008, 4, 0x20000, 1, 0, 1, 0, [F.PIP_CTX_M0_M00 0, F.PIP_CTX_M0_M01 0]⟩,
  ⟨0x23400C, 4, 0x20000, 1, 0, 1, 0, [F.PIP_CTX_M1_M02 0, F.PIP_CTX_M1_M10 0]⟩,
  ⟨0x234010, 4, 0x20000, 1, 0, 1, 0, [F.PIP_CTX_M2_M11 0, F.PIP_CTX_M2_M12 0]⟩,
  ⟨0x234014, 4, 0x20000, 1, 0, 1, 0, [F.PIP_CTX_M3_M20 0, F.PIP_CTX_M3_M21 0]⟩,
  ⟨0x234018, 4, 0x20000, 1, 0, 1, 0, [F.PIP_CTX_M4_M22 0, F.PIP_CTX_M4_O0 0]⟩,
  ⟨0x23401C, 4, 0x20000, 1, 0, 1, 0, [F.PIP_CTX_M5_O1 0, F.PIP_CTX_M5_O2 0]⟩,
  ⟨0x234020, 4, 0x20000, 1, 0, 1, 0, [F.PIP_CTX_SNR_SNR 0, F.PIP_CTX_SNR_SIG 0]⟩,
  ⟨0x234024, 4, 0x20000, 1, 0, 1, 0, [F.PIP_CTX_TNR_TNR_EN 0, F.PIP_CTX_TNR_TSHIFT 0, F.PIP_CTX_TNR_TTH 0]⟩,
  ⟨0x2A0000, 4, 0x10000, 4, 0x2000, 1025, 0x4, [F.SOR_LUT_L 0 0 0]⟩,
  ⟨0x2A8000, 4, 0x10000, 4, 0x8, 2, 0x4, [F.SOR_CTX_M_LO 0 0 0, F.SOR_CTX_M_HI 0 0 0]⟩,
  ⟨0x2A8020, 4, 0x10000, 2, 0x4, 1, 0, [F.SOR_CTX_O_LO 0 0, F.SOR_CTX_O_HI 0 0]⟩]

/-- The index of `d` under a stride: 0 where the stride is 0. -/
def strideIndex (d s : Nat) : Nat := if s = 0 then 0 else d / s

/-- The place of offset `off` in a row: its distance from the base, where the row has an instance there. -/
def RegRow.placeOf (r : RegRow) (off : Nat) : Option Nat :=
  if off < r.base then none
  else
    let d := off - r.base
    let i := strideIndex d r.s1
    let d1 := d - i * r.s1
    let j := strideIndex d1 r.s2
    let d2 := d1 - j * r.s2
    let k := strideIndex d2 r.s3
    if i < r.n1 ∧ j < r.n2 ∧ k < r.n3 ∧ d2 = k * r.s3 then some d else none

/-- Field `f` of index 0 moved `d` bytes up, with the reset value of its instance. -/
def Field.moved (f : Field) (d : Nat) : Field := fixReset { f with off := f.off + d }

/-- The register rows that can hold offset `off`, by block base (Table REG-1). -/
def rowsFor (off : Nat) : List RegRow :=
  match off / 0x10000 with
  | 0x00 => rowsGLB
  | 0x01 => rowsPTC
  | 0x02 => rowsTHY
  | 0x03 => rowsARR
  | 0x04 => rowsCNV
  | 0x05 => rowsLFL
  | 0x06 => rowsCAL
  | 0x08 => rowsPIP
  | 0x0A => rowsSOR
  | 0x0C => rowsCHV
  | 0x0D => rowsDMA
  | 0x0E => rowsCFG
  | 0x0F => rowsSEC
  | 0x10 => rowsCLK
  | 0x11 => rowsHKP
  | 0x12 => rowsBAY
  | 0x13 => rowsTWI
  | 0x14 => rowsPCX
  | n => if 0x20 ≤ n ∧ n < 0x2E then rowsWIN else []

/-- The fields of a list of rows at offset `off`. -/
def fieldsIn : List RegRow → Nat → List Field
  | [], _ => []
  | r :: rs, off =>
    match r.placeOf off with
    | some d => r.fields.map (fun f => f.moved d)
    | none => fieldsIn rs off

/-- The fields of the register at BAR0 offset `off`; none where the offset is unassigned (R486). -/
def fieldsAt (off : Nat) : List Field := fieldsIn (rowsFor off) off

/-- The bank with the cell under `k` at `v`, for a key that `Field.key` gave. -/
def Bank.put (b : Bank) (k v : Nat) : Bank :=
  match (fieldsAt (k / 32 * 4)).find? (fun f => f.key == k) with
  | some f => b.set f v
  | none => Assoc.insert b k v

/-- The register at `off` is wider than 32 bits (R59). -/
def isWide (off : Nat) : Bool := (fieldsAt off).any (fun f => decide (32 < f.lo + f.w))

/-- `off` is the high half of a register wider than 32 bits. -/
def isWideHigh (off : Nat) : Bool := decide (4 ≤ off) && (fieldsAt off).isEmpty && isWide (off - 4)

end Sys2Proof.Machine
end

