-- ==== Sys2Proof/Machine/State.lean ====
section
/-! DEFINITION. The state of one YD2416 module as plain data, its faults and refusals, and the state after reset.
`regs` holds every register field in force and `shadow` the class S values written but not yet committed
(00_scope.md R7); the structures below hold what the chapters give the module beside its registers. -/

namespace Sys2Proof.Machine

/-- A configuration: the register fields in force for some line. -/
abbrev Cfg := Bank

/-! ### Press time, counters and the encoder (02_press_time_and_counters.md) -/

/-- How press time advances (R55, R80, R419). -/
inductive PtMode where
  /-- Before PLL-T has first locked (R56). -/
  | off
  /-- One per TCLK tick (R55). -/
  | ticks
  /-- TCLK is to stop at the next LFCLK edge, and ticks still count: entry to SLEEP or debug halt (R80). -/
  | lfEnter
  /-- TCLK is gated and the next LFCLK edge has not come: HKCLK edges advance PT (R419). -/
  | hk
  /-- From LFCLK edges (R80). -/
  | lf
  deriving DecidableEq, Repr

/-- One general counter CNTn beside its registers (R65, R70, R71, R73, R81). -/
structure Counter where
  /-- The count (R66). -/
  count : Nat
  /-- The 24-bit fraction accumulator of R65. -/
  acc : Nat
  /-- Input events the present count needs (R65). -/
  need : Nat
  /-- Input events so far toward the present count (R65). -/
  n : Nat
  /-- An armed counter has been started (R70). -/
  started : Bool
  /-- A RESET action raised by a match or lap waits for the next cycle (R70, R71). -/
  rstDue : Bool
  /-- A START action raised by a match or lap waits for the next cycle (R70, R71). -/
  startDue : Bool
  /-- Input events raised inside the module and not yet taken, oldest first; `true` is a reverse one (R63, R64). -/
  inDue : List Bool
  /-- Captures that wait for input events raised before them, oldest first: how many of `inDue` still come before, and
  the press time to store (R71, R72). -/
  captDue : List (Nat × PressTime)
  /-- CMP stood at or below the count when its write took effect, so it first matches in the next lap (R68). -/
  cmpHeld : Bool
  /-- The second capture stage (R73). -/
  capt2 : Option (Nat × PressTime)
  /-- Press time of the last CNT_EVENT logged (R84). -/
  lastLog : Option PressTime
  /-- The 11-bit fraction accumulator of the LFCLK bursts with SRC = 1 (R81). -/
  lfTclk : Nat
  /-- The 7-bit fraction accumulator of the LFCLK bursts with SRC = 2 (R81). -/
  lfXref : Nat
  deriving DecidableEq, Repr

/-- One edge FIFO entry (Table PTC-2). -/
structure EdgeEntry where
  pt : PressTime
  posLo : Nat
  dir : Bool
  pin : Bool
  lfres : Bool
  valid : Bool
  seq : Nat
  deriving DecidableEq, Repr

/-- The PTC block beside its registers. -/
structure Ptc where
  counters : List Counter
  /-- The 7-bit fraction of the LFCLK increments (R80). -/
  lfAcc : Nat
  /-- Ticks of a slew still to be made, with their sign (R57). -/
  slewLeft : Int
  /-- Ticks since the last slewed tick (R57). -/
  slewPhase : Nat
  /-- Latched high halves: key = port × 2^32 + low offset (R59). -/
  latches : Assoc Nat
  /-- Held low halves of wide class L registers, same keys (R62). -/
  holding : Assoc Nat
  /-- Accepted levels of ENC_A, ENC_B and ENC_Z (R74). -/
  encA : Bool
  encB : Bool
  encZ : Bool
  /-- The 48-bit encoder position (R75). -/
  pos : BitVec 48
  /-- Number of the next count, modulo 65,536 (Table PTC-2). -/
  encSeq : Nat
  /-- The edge FIFO, newest first, at most 64 entries (R79). -/
  edges : List EdgeEntry
  /-- The snapshot window, newest first (R79). -/
  snap : List EdgeEntry
  /-- A snapshot has been requested and its copy is not complete (R79). -/
  snapDue : Bool
  deriving DecidableEq, Repr

/-! ### Thyme (03_thyme_line_launch.md) -/

/-- One line action (Table THY-3). -/
structure Action where
  /-- A skip action. -/
  skip : Bool
  ln : LineNo
  t : PressTime
  sn : SegNo
  boundary : Bool
  cause : Nat
  reason : Nat
  /-- The skip was decided by this module and not carried by the action (Table THY-5). -/
  own : Bool
  /-- Index of the line within its segment (R90, R310). -/
  idx : Nat
  /-- The first action after a start (R95, R492). -/
  start : Bool
  /-- Lost lines stand before this one: LN, IDX and SN of the last action received before them (R311). -/
  lost : Option (LineNo × Nat × SegNo)
  deriving DecidableEq, Repr

/-- A launched line whose program still has steps to run (R87). -/
structure RunLine where
  ln : LineNo
  sn : SegNo
  t : PressTime
  /-- The line program it runs (R90). -/
  prog : Nat
  /-- Steps not yet executed: tick, kind, mask (Table THY-2). -/
  steps : List (Nat × Nat × Nat)
  deriving DecidableEq, Repr

/-- A run of consecutive skips with one reason (R115). -/
structure SkipRun where
  reason : Nat
  first : LineNo
  count : Nat
  deriving DecidableEq, Repr

/-- Thyme beside its registers. -/
structure Thy where
  /-- Ticks per count, 32.16; 0 is invalid (R101). -/
  tc : Nat
  /-- Target of the next line in counts, 48.16 (R101). -/
  xl : Int
  /-- Counts entered into the edge FIFO since the start, or since the last stall (R101, R103). -/
  entries : Nat
  /-- T of the last line this module launched since the start, with the frame length that was in force (R101). -/
  last : Option (PressTime × Nat)
  /-- The divide prescaler of R100: acc, need, n. -/
  divAcc : Nat
  divNeed : Nat
  divN : Nat
  /-- Launch times whose actions fall due at once, oldest first: divide and scheduled trigger modes (R100, R106). -/
  due : List PressTime
  /-- TIMED: the base time and the number of the next line (R105). -/
  t0 : PressTime
  k : Nat
  /-- LN and SN of the next action (R92, R95). -/
  ln : LineNo
  sn : SegNo
  /-- Lines since the previous boundary; the next line's index where no boundary falls on it (R90, R119). -/
  sinceBoundary : Nat
  /-- The next action is the first after a start (R95). -/
  first : Bool
  /-- SN of the last action that this head has issued, in any run since reset (R360). -/
  issued : Option SegNo
  /-- Boundary requests waiting for the next line that falls due (R119). -/
  reqZ : Bool
  reqLvl : Bool
  reqHost : Bool
  /-- Actions waiting for their T, oldest first (R93). -/
  armed : List Action
  /-- Index of the last executed line within its segment (R90). -/
  index : Nat
  /-- Lines whose programs still run (R87). -/
  running : List RunLine
  /-- The run of skips in progress (R115). -/
  skipRun : Option SkipRun
  /-- Press time of the last count accepted by the head (R103). -/
  lastCount : Option PressTime
  /-- ENC_STALL has been logged since the last count (R103). -/
  stallLogged : Bool
  /-- THY_RING_PI as the line boundary will apply it is in `live`; the empty spell has been logged (R107). -/
  emptyLogged : Bool
  /-- LEAD_RAISED has been logged since the last training (R97). -/
  leadLogged : Bool
  /-- TRIG_OUT: none is high-impedance, some false low, some true high (R122). -/
  trigOut : Option Bool
  /-- A stop has been written or received, and armed actions are still to be executed (R95, R96). -/
  stopping : Bool
  deriving DecidableEq, Repr

/-! ### Pixel array (01_pixel_array_and_exposure.md) -/

/-- The photodiodes and the storage nodes of one row group (R27). -/
structure GroupPix where
  /-- Program tick and line of the OPEN in force; none while the photodiodes are held in reset. -/
  openAt : Option Nat
  /-- Rows released from reset by that OPEN, from row 0 up; the other rows are held in reset (R27, R44). -/
  rows : Nat
  /-- Exposure windows transferred into the storage node since its SNR: OPEN and TX ticks (R36), and the rows
  exposed. -/
  windows : List (Nat × Nat × Nat)
  deriving DecidableEq, Repr

/-- One conversion frame (R28, R29). -/
structure Frame where
  ln : LineNo
  sn : SegNo
  start : PressTime
  /-- T of the line being converted. -/
  t : PressTime
  /-- Illumination context of the line (R89). -/
  ctx : Nat
  prog : Nat
  flush : Bool
  /-- Groups whose line sample is still to come (R135). -/
  waiting : List Nat
  /-- Converter pair visited by self-calibration in this frame: column group and bank (R202). -/
  visit : Option (Nat × Nat)
  /-- Level of the background test in this frame (R149). -/
  bgLevel : Nat
  deriving DecidableEq, Repr

/-- A launched line that waits for its conversion frame (R28). -/
structure Launched where
  ln : LineNo
  sn : SegNo
  t : PressTime
  ctx : Nat
  prog : Nat
  deriving DecidableEq, Repr

/-- What drives a strobe pin. -/
inductive StrobePin where
  /-- High-impedance (R43). -/
  | z
  | low
  /-- High since the given press time. -/
  | high (since : PressTime)
  deriving DecidableEq, Repr

/-- The array beside its registers. -/
structure Arr where
  groups : List GroupPix
  strobes : List StrobePin
  /-- Strobes forced low until their next scheduled rising edge, by watchdog or kill (R41, R42). -/
  strobeForced : List Bool
  /-- Kill conditions present, bit c − 1 for cause c of Table ARR-5 (R42). -/
  kills : Nat
  /-- Press time of the last kill: a rising edge of that tick has no effect (R42). -/
  killAt : Option PressTime
  /-- The last launched line, not yet converted (R28). -/
  unconverted : Option Launched
  /-- Conversion frames whose samples are not all complete, oldest first. -/
  frames : List Frame
  /-- End of this module's flush hold and the tick it began (R112). -/
  hold : Option (PressTime × PressTime)
  /-- LN of the line that the previous frame of the run converted (R202). -/
  prevFrame : Option LineNo
  deriving DecidableEq, Repr

/-! ### Lines and samples (04_column_converters.md to 06_calibration_and_redundancy.md) -/

/-- What the module keeps of each line from its action until the pipeline has handed its record on: the line, its
context and program, whether it was launched, why not, and the configuration it runs under (R115, R141, R200). -/
structure LineInfo where
  ln : LineNo
  sn : SegNo
  t : PressTime
  ctx : Nat
  prog : Nat
  /-- The module launched the line. -/
  launched : Bool
  /-- Skip reason of a line it did not launch (Table THY-5); 0 for a line lost on the chain (R311). -/
  reason : Nat
  /-- The line opens its segment. -/
  boundary : Bool
  /-- Position of the line within its segment (R310). -/
  idx : Nat
  /-- Lost lines before this one that a gap record accounts for: first and last LN, and the last SN received (R311). -/
  gap : Option (LineNo × LineNo × SegNo)
  /-- The first line after a start. -/
  start : Bool
  /-- Groups whose filter chain restarts at the line (R164). -/
  restarts : List Nat
  /-- Level-event detectors whose state becomes UNKNOWN at the line (R169). -/
  detFresh : List Nat
  /-- The register fields in force for the line (R141). -/
  cfg : Cfg
  /-- Spare substitutions in force for the line: column group, bank, member (R143). -/
  spares : List (Nat × Nat × Nat)
  /-- First line of the run that the line belongs to (R49). -/
  run : Option LineNo
  /-- First line formed under the line's ABIN, TDI and window, per group (R49). -/
  settle : List (Option LineNo)
  deriving DecidableEq, Repr

/-- One column's value in a line sample, a chain output or a calibrated sample. -/
structure ColVal where
  pc : Nat
  v : Nat
  sat : Bool
  /-- Limited by a lower clamp (R154, R181). -/
  neg : Bool
  deriving DecidableEq, Repr

/-- One column's block sums of one converted line, with the converter that made them (R137, R139). -/
structure ColBlocks where
  pc : Nat
  /-- Converter entry index of Table CAL-1. -/
  conv : Nat
  blocks : List Nat
  /-- SAT of each block (R131). -/
  sats : List Bool
  deriving DecidableEq, Repr

/-- One converted line of a group, kept for the TDI sums of later lines (R137). -/
structure StageLine where
  ln : LineNo
  pt : PressTime
  /-- Preset, shifts, conversion gain, ABIN and TDI it was converted under (R139, R49). -/
  key : List Nat
  cols : List ColBlocks
  /-- A stage held by a self-calibration visit: column group (R206). -/
  held : Option Nat
  deriving DecidableEq, Repr

/-- One line of a group on its way through the filter chain and the apply unit. -/
structure GroupLine where
  ln : LineNo
  sn : SegNo
  /-- Illumination context of the line (R89, R220). -/
  ctx : Nat
  /-- The line restarts its chain (R164). -/
  restart : Bool
  /-- False where the line was not captured. -/
  captured : Bool
  unsettled : Bool
  pt : PressTime
  cols : List ColVal
  /-- Column groups whose values hold a stage of a self-calibration visit (R206). -/
  stale : List Nat
  calExtrap : Bool
  /-- Spare substitutions in force for the newest stage (R143, R178). -/
  spares : List (Nat × Nat × Nat)
  deriving DecidableEq, Repr

/-- The accumulation unit and the self-test of the converters. -/
structure Cnv where
  /-- Converted lines kept per group, newest first (R137). -/
  stages : List (List StageLine)
  /-- First line formed under the present EN, ABIN, TDI and window, per group (R49). -/
  restart : List (Option LineNo)
  /-- First line of the present run (R49). -/
  run : Option LineNo
  /-- Completed line samples per group that the filter chain has not taken, oldest first. -/
  out : List (List GroupLine)
  /-- Fail bits set: converter indices of Table CAL-1, rising (Table CNV-6). -/
  fails : List Nat
  /-- Substitutions in force: column group, bank, member (R143). -/
  spares : List (Nat × Nat × Nat)
  /-- Substitutions waiting for the frame of the boundary line that began them (R141, R145). -/
  sparesNext : Option (LineNo × List (Nat × Nat × Nat))
  /-- Background test: codes so far per idle converter at TL0, TL1 and TL2 (R149). -/
  bg : Assoc (List Nat × List Nat × List Nat)
  /-- Conversion frames since the background test began (R149). -/
  bgFrames : Nat
  /-- Idle converters already logged by the background test (R149). -/
  bgLogged : List Nat
  /-- A TDI gap has been logged for this line (R48). -/
  gapLogged : Option LineNo
  /-- Lines with a SAT sample: the last counted line, the segment's first and its count (R150, R151). -/
  satLast : Option LineNo
  satFirst : Option LineNo
  satCount : Nat
  /-- Segment of the last line handled (R491). -/
  seg : Option SegNo
  deriving DecidableEq, Repr

/-- One evaluated or waiting tap output of a detector's range (R167). -/
structure TapLine where
  ln : LineNo
  sn : SegNo
  pt : PressTime
  captured : Bool
  unsettled : Bool
  sat : Bool
  /-- Remaining columns of the range: COL and value. -/
  cols : List (Nat × Nat)
  /-- Line step of the tap: 1, or D at TAP 1 (R172). -/
  stepLines : Nat
  /-- The detector's state becomes UNKNOWN before this line (R169). -/
  fresh : Bool
  deriving DecidableEq, Repr

/-- The run of a level-event detector (R169, R170, R172). -/
structure DetRun where
  /-- Kind of the run: 0 FALL, 1 RISE, 2 FOUND, 3 LOST, 4 MOVE (Table LFL-2). -/
  kind : Nat
  lines : Nat
  first : LineNo
  sn : SegNo
  vc : Nat
  ptC : PressTime
  /-- The evaluated line before the run: LN, value, press time. -/
  prev : Option (LineNo × Nat × PressTime)
  sat : Bool
  deriving DecidableEq, Repr

/-- One level-event detector beside its registers. -/
structure Det where
  /-- Tap outputs not yet evaluated, oldest first. -/
  inq : List TapLine
  run : Option DetRun
  /-- The last evaluated line: LN, value, press time. -/
  prev : Option (LineNo × Nat × PressTime)
  /-- Last reported edge position, 1/256 column (R170). -/
  reported : Option Nat
  /-- Records waiting, oldest first, at most four (R173). -/
  queue : List (List Byte)
  /-- Records discarded since the last close event (R173). -/
  lostSeg : Nat
  /-- A boundary has disabled the detector: the line of the boundary and the group watched till then, while lines from
  before it may still come (R169). -/
  offAt : Option (LineNo × Nat)
  deriving DecidableEq, Repr

/-- One EVT pin. -/
structure EvtPin where
  /-- Driven since configuration was applied (R174). -/
  driven : Bool
  /-- A pulse is high. -/
  pulse : Bool
  /-- Forced to the inactive level by thermal shutdown, debug halt or a gated TCLK (R175, R418). -/
  inactive : Bool
  deriving DecidableEq, Repr

/-- The line filters beside their registers. -/
structure Lfl where
  /-- Input lines of each group's chain since its restart, newest first (R153, R164). -/
  hist : List (List GroupLine)
  /-- Chain outputs per group that the apply unit has not taken, oldest first. -/
  out : List (List GroupLine)
  dets : List Det
  pins : List EvtPin
  /-- Line records with an output limited by the lower clamp, counted in the segment (R154). -/
  clampSeg : Nat
  /-- The chain outputs of each group of late, newest first, with those columns alone that the lower clamp limited: the
  sources of the next line records (R154, R215, R218). -/
  outs : List (List GroupLine)
  /-- Segment of the last line handled (R491). -/
  seg : Option SegNo
  deriving DecidableEq, Repr

/-- One temperature set as a working set uses it: slot, TAU in 1/16 °C and the slot's bytes (R189, R195). -/
structure TempSet where
  slot : Nat
  tau : Int
  bytes : List Host.Cell
  deriving DecidableEq, Repr

/-- A working set: the zone readings it was built for, the sets it interpolates, TAU rising, and the seed it uses
where it has no set (R194 to R197). -/
structure WorkSet where
  zones : List Int
  sets : List TempSet
  seed : Option (List Byte)
  extrap : Bool
  deriving DecidableEq, Repr

/-- A capture in progress (R211). -/
structure Capture where
  /-- 1 chain sums, 2 converter table. -/
  kind : Nat
  log2n : Nat
  groups : Nat
  slot : Nat
  /-- The last line executed when START was written. -/
  after : Option LineNo
  /-- Outputs summed so far, per group. -/
  counts : List Nat
  deriving DecidableEq, Repr

/-- Calibration beside its registers. -/
structure Cal where
  /-- The working set in force, and the one in force before the last swap with the LN the swap took effect at (R200). -/
  work : WorkSet
  prevWork : List (LineNo × WorkSet × Nat)
  /-- The built set that waits for its boundary, with the press time its rebuild completed (R200). -/
  shadow : Option (WorkSet × PressTime)
  /-- Zone readings taken by the rebuild in progress (R198). -/
  building : Option (List Int)
  /-- One remembered trigger (R199). -/
  again : Bool
  /-- A write of REBUILD is pending: the rebuild in progress, or the remembered one, answers it (R5, R198). -/
  asked : Bool
  askedAgain : Bool
  /-- Dark references R_W and R_E per group, with the number of the working set of their last update; none where the
  next output begins them afresh (R185). -/
  dark : List (Int × Int × Option Nat)
  /-- Working set the measured tables started from (R204). -/
  measBase : WorkSet
  /-- Measured OFS and GAIN by converter index: the active and the pending table, the latter with its time (R204,
  R205). -/
  active : Assoc (Int × Nat)
  pend : Assoc (Int × Nat × PressTime)
  /-- The active table before the last boundary, with the LN of that boundary (R205). -/
  prevActive : List (LineNo × Assoc (Int × Nat) × WorkSet)
  /-- Working sets swapped in since reset: the number of the one in force. -/
  epoch : Nat
  /-- The calibration seed of the running image (R197, R372). -/
  seed : Option (List Byte)
  /-- Latest TL0 means of each pair since the START, by 3 CG + b: one per member and the spare (R203). -/
  tl0 : Assoc (Assoc Nat)
  /-- Pairs visited since the START, for the alternation of one-row banks (R203). -/
  visited : Assoc Nat
  /-- Next place in the rotation, as 3 CG + b (R202). -/
  rotation : Nat
  /-- The visit in progress: column group, bank, conversions at TL0 and at TL2 (R203), and FS of its frame (R204). -/
  visit : Option (Nat × Nat × Bool × Bool × Nat)
  /-- A spare proposal waits until the shadow is no longer frozen (R209, R361). -/
  repairDue : Bool
  /-- Self-calibration log: PT, count, spare OFS, spare GAIN by 3 CG + b (Table CAL-5). -/
  scLog : Assoc (PressTime × Nat × Int × Nat)
  capture : Option Capture
  /-- Segment statistics of filled columns: COLs filled (R188). -/
  fillCols : List Nat
  /-- Segment of the last line handled (R491). -/
  seg : Option SegNo
  /-- Calibrated samples per group that the hub has not taken, oldest first (R182). -/
  out : List (List GroupLine)
  deriving DecidableEq, Repr

/-! ### Pipeline and streams (07_pixel_pipeline_and_seams.md) -/

/-- One plane of an aligned record: the plane of group `bit`. -/
structure Plane where
  bit : Nat
  /-- Values by COL. -/
  cols : List ColVal
  pt : PressTime
  /-- CTX of the line that supplied the newest stage (R220). -/
  ctx : Nat
  substituted : Bool
  unsettled : Bool
  extrap : Bool
  /-- Stale column groups (R206). -/
  stale : List Nat
  /-- UNSETTLED, CAL_EXTRAP and the stale COL ranges that the seam columns bring from their lines (R16, R224). -/
  seamUns : Bool
  seamExt : Bool
  seamStale : List (Nat × Nat)
  deriving DecidableEq, Repr

/-- An aligned record (R215) on its way to its seam. -/
structure Aligned where
  info : LineInfo
  /-- A line at which no record is formed, kept in order for what it closes and restarts (R217, R238, R244, R311). -/
  mark : Bool
  /-- Records of the segment before it (R239). -/
  nth : Nat
  /-- PLACEHOLDER (R219). -/
  placeholder : Bool
  planes : List Plane
  /-- Press times of the newest and the oldest source (Table PIP-3). -/
  ptNew : PressTime
  ptOld : PressTime
  noRef : Bool
  /-- The wait for the west line has expired (R226). -/
  expired : Bool
  /-- Source of the seam columns (R226); a dropped west line was needed (R227). -/
  seamSrc : Nat
  seamDropped : Bool
  deriving DecidableEq, Repr

/-- The columns of a local line that a seam can cover, COL 0 to 255, with the SEAM-W parameters in force for it (R221,
R222, R224). -/
structure SeamLocal where
  ln : LineNo
  captured : Bool
  /-- Its planes, with those columns alone. -/
  planes : List Plane
  /-- The configuration of its line (R221). -/
  cfg : Cfg
  deriving DecidableEq, Repr

/-- A west seam line (R223, R224). -/
structure WestLine where
  ln : LineNo
  sn : SegNo
  /-- The width that its packet gives, OVL_E of the west neighbour (R223). -/
  width : Nat
  /-- False for a marker or a dropped line (R226, R227). -/
  available : Bool
  /-- Lost to the overflow of the stagger buffer's input (R227). -/
  dropped : Bool
  sat : Bool
  /-- The other flags that its packet carries (Table CHV-10). -/
  unsettled : Bool
  stale : Bool
  extrap : Bool
  /-- Values of each plane, from COL 16,383 − OVL_E up. -/
  planes : List (Nat × List Nat)
  deriving DecidableEq, Repr

/-- A record staged for a stream. -/
structure Staged where
  bytes : List Byte
  /-- First and last LN it stands for, those of its segment for a close, and its segment. -/
  lnFirst : LineNo
  lnLast : LineNo
  sn : SegNo
  /-- 1 record, 2 gap, 3 segment close. -/
  kind : Nat
  /-- Records it stands for: 1, those of a gap, those that a close counts as written (Table PIP-3). -/
  count : Nat
  /-- Bytes of it already written into buffers (R336). -/
  done : Nat
  deriving DecidableEq, Repr

/-- A run of records a stream has dropped: first LN, last LN, count, and the SN of the last one. -/
structure Dropped where
  first : LineNo
  last : LineNo
  count : Nat
  sn : SegNo
  /-- Records of segment `sn` written before the drop (Table PIP-3). -/
  wrote : Nat
  /-- First and last LN of segment `sn`, once it has ended (R348). -/
  seg : Option (LineNo × LineNo)
  /-- Where want of room began the drop of segment `sn`: its first LN, and the records dropped since (R248). -/
  excess : Option (LineNo × Nat)
  /-- The close record of segment `sn` in stream 17, which is written after the gap (R274, R348). -/
  close : List Byte
  deriving DecidableEq, Repr

/-- The staging of one stream (R247, R248). -/
structure Stream where
  recs : List Staged
  dropping : Option Dropped
  /-- Records of the segment written so far (R244). -/
  written : Nat
  /-- The stream is dropping because the link is lost (R348). -/
  linkDrop : Option Dropped
  /-- Its ring was stopped and has not come back into use (R350). -/
  dead : Bool
  /-- First segment of the stream since its ring came back into use (R333, R350). -/
  from_ : Option SegNo
  deriving DecidableEq, Repr

/-- A cell row being formed, or formed (R239, R240). -/
structure RowAcc where
  y : Nat
  sn : SegNo
  cfg : Cfg
  first : LineNo
  last : LineNo
  ctx : Nat
  reason : Nat
  /-- Records that are not placeholders, and records in all. -/
  used : Nat
  total : Nat
  /-- Sums per slot and cell. -/
  sums : List (List Nat)
  unsettled : Bool
  extrap : Bool
  sat : Bool
  seamDropped : Bool
  /-- First and last stale COL within the cells, and the slots that hold stale values. -/
  stale : Option (Nat × Nat)
  staleSlots : Nat
  noRef : Bool
  /-- It holds the first line after a start. -/
  fresh : Bool
  ptNew : PressTime
  ptOld : PressTime
  planeCtx : Nat
  seamSrc : Nat
  deriving DecidableEq, Repr

/-- What the pipeline hands to Sorrel: a cell row, or the end of a segment with its last LN and configuration; `lost`
where the chain lost that end (R311), `next` the configuration of the segment that opens there (R273). A segment that
is not compared gives `skips` at its end (R256), and `opens`: the configuration of the segment that opens, and whether
it does at a START. -/
inductive SorIn where
  | row (r : RowAcc)
  | close (sn : SegNo) (last : LineNo) (cfg : Cfg) (lost : Bool) (next : Option Cfg)
  | opens (cfg : Cfg) (fresh : Bool)
  | skips (sn : SegNo)
  deriving DecidableEq, Repr

/-- The pipeline beside its registers. -/
structure Pip where
  /-- The calibrated outputs of each group, newest first (R215). -/
  held : List (List GroupLine)
  /-- Records waiting for their seam or behind one that waits, oldest first (R226). -/
  waiting : List Aligned
  /-- Local seam columns, newest first (R224). -/
  localSeam : List SeamLocal
  west : List WestLine
  /-- Segment whose west lines are being dropped (R227). -/
  westDropping : Option SegNo
  /-- Segment statistics: substituted records and late west lines (R218, R226). -/
  substSeg : Nat
  lateSeg : Nat
  /-- The last segments for which SEAM_MISMATCH has been logged, newest first (R223). -/
  mismatched : List SegNo
  streams : List Stream
  row : Option RowAcc
  /-- Cell row of the newest record aligned, and whether it lacked its reference (R258). -/
  refRow : Option (SegNo × Nat × Bool)
  /-- Temporal state of each slot, under 4 × slot + context: COL and value (R238). -/
  tnr : Assoc (Assoc Nat)
  /-- LN of the newest line aligned or passed over. -/
  lastLn : Option LineNo
  /-- LN of the newest record that has left for the classes (R226). -/
  lastOut : Option LineNo
  /-- The segment open in the streams: SN, first LN, configuration (R244). -/
  seg : Option (SegNo × LineNo × Cfg)
  /-- The last segment closed in the streams, and its first LN (R311). -/
  closed : Option (SegNo × LineNo)
  deriving DecidableEq, Repr

/-! ### Sorrel (08_sorrel_reference_compare.md) -/

/-- A band of the expected image (Table SOR-1). -/
structure Band where
  btype : Nat
  sn : SegNo
  y0 : Nat
  nrows : Nat
  solid : List Nat
  payload : List Byte
  /-- Its whole payload is in the tile cache (R257). -/
  resident : Bool
  deriving DecidableEq, Repr

/-- An open defect (R266 to R269). -/
structure Defect where
  /-- Cells of the last GAP + 1 compared rows: column and compared-row number. -/
  edge : List (Nat × Nat)
  /-- Compared-row number of the last row that added a cell. -/
  lastRow : Nat
  cells : Nat
  /-- Cells per tolerance class. -/
  byClass : List Nat
  x0 : Nat
  x1 : Nat
  y0 : Nat
  y1 : Nat
  lnFirst : LineNo
  peak : Nat
  /-- Row and column of the peak cell. -/
  peakAt : Nat × Nat
  peakSign : Bool
  peakTag : Nat
  /-- Region entry of the peak cell; none for an uncovered cell. -/
  peakEntry : Option Nat
  edgeW : Bool
  edgeE : Bool
  cont : Bool
  sat : Bool
  flagged : Bool
  crit : Bool
  deriving DecidableEq, Repr

/-- A row kept for the registration windows (R271). -/
structure RegRowKept where
  y : Nat
  compared : Bool
  noRef : Bool
  lastLn : LineNo
  t : List (List Nat)
  deriving DecidableEq, Repr

/-- The region table arming (R263 to R265). -/
inductive RtArm where
  | idle
  /-- Copying or validating: COUNT, GEN, SRC and SWAP_SN taken at ARM (R10). -/
  | validating (count gen src : Nat) (swap : SegNo)
  /-- READY since the given press time. -/
  | ready (count gen : Nat) (swap : SegNo) (since : PressTime)
  deriving DecidableEq, Repr

/-- Sorrel beside its registers. -/
structure Sor where
  /-- Bands in the backlog, in order (R256). -/
  bands : List Band
  /-- The last accepted band: SN and last row (R256). -/
  lastBand : Option (SegNo × Nat)
  /-- The last segment that has closed, and its number of rows (Table SOR-2). -/
  closed : Option (SegNo × Nat)
  /-- The segment Sorrel handles: SN and rows taken. -/
  seg : Option (SegNo × Nat)
  /-- Runs of bytes of the reference ring not yet parsed, oldest first; true where a record begins at the run's first
  byte, by FIRST_REC (R256, R340). -/
  parse : List (Bool × List Byte)
  /-- The parser seeks the next run that begins a record (R256). -/
  seeking : Bool
  /-- Cell rows not yet taken, oldest first. -/
  rows : List SorIn
  /-- COUNT of the bank in force, and arming of the other (R261, R263). -/
  count : Nat
  /-- Banks that earlier swaps replaced and rows still pending use, oldest first: the segment that the swap opened,
  entries, COUNT, GEN (R265). -/
  oldBanks : List (SegNo × List Host.Cell × Nat × Nat)
  arm : RtArm
  /-- The segments not yet closed whose close record carries RT_MISSED (R265). -/
  missedSn : List SegNo
  open_ : List Defect
  /-- Compared rows of the segment so far (R266). -/
  compared : Nat
  /-- Defect records written per region entry in the segment (R269). -/
  perEntry : Assoc Nat
  tokens : Nat
  /-- Segment counts for the close record (Table SOR-7). -/
  decided : Nat
  written : Nat
  norefRows : Nat
  small : Nat
  lost : Nat
  cluOvf : Bool
  floodSeg : Bool
  truncSeg : Bool
  /-- Cells of the segment that were not clustered (R268). -/
  cluLost : Nat
  /-- A defect closed at MAX_ROWS whose continuation is marked CONT: its cells of the last row (R267). -/
  splitEdge : List (Nat × Nat)
  kept : List RegRowKept
  /-- Configuration of the last row taken (R273). -/
  lastCfg : Option Cfg
  defSeq : Nat
  regSeq : Nat
  /-- ALARM_N is driven low (R279). -/
  alarmLow : Bool
  deriving DecidableEq, Repr

/-! ### Chive (09_chive_chain_and_sync.md) -/

/-- A Chive packet (Tables CHV-6 and CHV-7). -/
structure Packet where
  dtype : Nat
  vc : Nat
  src : Nat
  dst : Nat
  words : List Word64
  deriving DecidableEq, Repr

/-- One Chive port beside its registers. -/
structure ChvPort where
  /-- Trainings failed in a row (R289). -/
  trainFails : Nat
  /-- A failed port waits for its retry (R287, R317). -/
  retryDue : Bool
  /-- It is to train again once PLL-T and PLL-C are locked (R287, R418). -/
  lockDue : Bool
  /-- ID of the next sprig, and the sprigs not yet echoed: ID and TX_PT in 1/64 tick (R293, R296). -/
  sprigId : Nat
  unechoed : List (Nat × Nat)
  /-- One-way delays and round trips of the echoes since the last DELAY (R297). -/
  ds : List Int
  rtts : List Nat
  /-- Packets dropped in the segment (LINK_ERRORS). -/
  segDrops : Nat
  /-- The SYNC of Table CHV-3 goes out with the next sprig. -/
  syncDue : Bool
  deriving DecidableEq, Repr

/-- Chive beside its registers. -/
structure Chv where
  ports : List ChvPort
  /-- SYNC and DELAY received since CW came UP (R300); the last delay d in 1/64 tick (R298). -/
  syncGot : Bool
  delayGot : Bool
  d : Int
  /-- Full TX_PT of the last sprig known: that of the last SYNC packet, carried on by every sprig accepted since, in
  1/64 tick (R294). -/
  syncPt : Int
  /-- The module's own PT, in 1/64 tick, to which that time belongs (R294). -/
  syncAt : Int
  /-- Of the last 8 accepted sprigs, newest first: HOLD = 0, Δ = 0 and |φ| ≤ 4 (R300). -/
  quality : List Bool
  /-- Consecutive sprigs with |φ| > 16 (Table CHV-8, cause 8). -/
  phiRun : Nat
  /-- The frequency integral of R299. -/
  fi : Int
  /-- Whole-tick step that waits until the module has stopped (R57, R319). -/
  stepDue : Option Int
  /-- Step made since the synchronisation was lost (R319). -/
  stepMade : Int
  /-- The head's traffic on CW is ignored (R290). -/
  cwIgnored : Bool
  /-- The module never becomes synchronised before its next reset (R291). -/
  posBad : Bool
  /-- CHAIN_LONG has been logged (R289). -/
  longLogged : Bool
  /-- End reason reported by the end module (R289), on the head. -/
  endReason : Nat
  /-- The reason for which this module has ended the chain (R289). -/
  ownEnd : Option Nat
  /-- Last LINE received since the start: LN, IDX, SN (R311). -/
  lastRx : Option (LineNo × Nat × SegNo)
  /-- Last LN executed since reset (R312). -/
  lastExec : Option LineNo
  /-- A start was refused; no action runs until a start with a higher LN (R312). -/
  refused : Bool
  /-- Digest words by SN and position (R316): key = SN × 32 + POS. -/
  digests : Assoc Nat
  /-- Sprigs accepted, modulo 65,536 (R307). -/
  sprigs : Nat
  /-- The synchronised and slewing state last sent to the head (R307). -/
  stateSent : Bool × Bool
  deriving DecidableEq, Repr

/-! ### What leaves the pins -/

/-- A common event record (Table DMA-7); each argument has its width in bytes. -/
structure EventRec where
  code : Nat
  pos : Nat
  sn : SegNo
  pt : PressTime
  args : List (Nat × Nat)
  seq : Nat
  deriving DecidableEq, Repr

/-- One record of the event FIFO (R345). -/
inductive FifoRec where
  | common (r : EventRec)
  /-- A level-event record (Table LFL-2). -/
  | level (bytes : List Byte)
  deriving DecidableEq, Repr

/-- One thing the module has sent out. -/
inductive Emission where
  /-- A Chive packet copy on port 0 (CW) or 1 (CE) (R304). -/
  | packet (port copy : Nat) (p : Packet)
  /-- A sprig: ID, TX_PT in 1/64 tick modulo 2^42, HOLD (Table CHV-4). -/
  | sprig (id txpt : Nat) (hold : Bool)
  /-- An echo: ID, TURN, POS (Table CHV-5). -/
  | echo (id turn pos : Nat)
  /-- A memory write to the host: address, bytes, Relaxed Ordering, and the EP bit of poisoned data (R329, R336,
  R349). -/
  | hostWrite (addr : Nat) (bytes : List Byte) (ro ep : Bool)
  /-- A read request to host memory: address and length (R323, R338, R340). -/
  | hostRead (addr len : Nat)
  /-- An MSI-X message (R342). -/
  | msix (vector : Nat)
  /-- A read completion to port 0 (PCIe) or 1 (two-wire): value and size in bytes. -/
  | readData (port size value : Nat)
  /-- Bytes the device sends on the two-wire bus. -/
  | twBytes (bytes : List Byte)
  /-- A NACK on the two-wire bus (R386). -/
  | twNack
  /-- An attention pulse on SDA (R395). -/
  | attention
  /-- A transaction of the boot controller (R400): the bytes it writes after START; where the device acknowledges
  them, the address byte after the repeated START and the number of bytes it reads, with ACK on each but a NACK on the
  last; and whether its STOP ends it, or it has lost the bus before: then the whole bytes up to there (R402). -/
  | bootRead (written : List Byte) (read : Option (Byte × Nat)) (stop : Bool)
  /-- The recovery of a stuck bus: SCL clocks of 10 µs with SDA released, and a STOP (R398). -/
  | busClocks (clocks : Nat)
  /-- A PTM request (R354). -/
  | ptmRequest
  /-- An error message to the root: ERR_FATAL, or ERR_NONFATAL (R323). -/
  | errMessage (fatal : Bool)
  deriving DecidableEq, Repr

/-! ### Clocks, two-wire port, power (chapters 12 to 15) -/

/-- The clocks beside their registers. -/
structure Clk where
  /-- What press time counts by (R56, R80, R419). -/
  ptMode : PtMode
  /-- Debug halt is on (R80). -/
  halted : Bool
  /-- TCLK phase steps still to be made, with their sign (R299, R414). -/
  steps : Int
  /-- PLLs whose lock is in progress, bit x (R411). -/
  locking : Nat
  /-- PLLs whose pair the image has written, bit x (R410). -/
  imagePairs : Nat
  /-- Such pairs of the image that is being applied, bit x for PLL x, until it is accepted (R373, R410). -/
  newPairs : Nat
  /-- PLLs whose relock a write of APPLY has requested and whose lock has not completed yet, bit x (R5, R410). -/
  applied : Nat
  /-- XREF is lost and not yet good again (R416). -/
  refLost : Bool
  /-- LFCLK is lost (R422). -/
  lfLost : Bool
  deriving DecidableEq, Repr

/-- The commit beside its registers. -/
structure Commit where
  /-- The shadow is frozen (R361). -/
  frozen : Bool
  /-- A commit is in progress: from its PREPARE until it is resolved (R360, R361). -/
  busy : Bool
  /-- Its identifier, TARGET_SN and NOW (Table CFG-1). -/
  id : Nat
  target : SegNo
  now : Bool
  /-- Result of the module's own check: 0 accepted, else the reason (R362). -/
  own : Option Nat
  /-- On the head: the results by position (R363). -/
  results : Assoc Nat
  /-- A write of GO on this module began it, and reads 1 until it is resolved (R5, R360). -/
  asked : Bool
  deriving DecidableEq, Repr

/-- The two-wire port beside its registers. -/
structure Twi where
  /-- An attention is unanswered (R395, R396). -/
  unanswered : Bool
  /-- A source has become pending and no pulse has followed yet (R395). -/
  newly : Bool
  /-- A transaction was abandoned, and the port waits for a STOP (R393). -/
  waitStop : Bool
  /-- `CFG_VIEW.SHADOW` of this port; that of PCIe is the register (R359, R390). -/
  view : Bool
  deriving DecidableEq, Repr

/-- Where the boot controller stands (R398 to R402). -/
inductive BootRead where
  | idle
  /-- Reading chunk 0 in mode 1, or in mode 2 after 0x50 acknowledged mode 1 or did not (R399). -/
  | probe1
  | probe2 (acked : Bool)
  /-- Waiting for the next addressing probe (R399). -/
  | retry
  /-- Reading the chunks in the mode found (R400). -/
  | chunks
  deriving DecidableEq, Repr

/-- What supplies the module and holds its main domains (Table HKP-6). -/
inductive Supply where
  /-- RESET: the main domains are held in reset (R439, R440). -/
  | reset
  /-- BOOT, SAFE, STANDBY, ACTIVE or THERMAL. -/
  | run
  | sleep
  /-- BAY, and whether it was entered from SLEEP. -/
  | bay (fromSleep : Bool)
  | off
  deriving DecidableEq, Repr

/-- Boot, security and what MRAM keeps beside the registers (chapters 11, 12 and 14). -/
structure Boot where
  /-- What supplies the module and holds its main domains (Table HKP-6). -/
  supply : Supply
  /-- RESET_N is high (R439, R440). -/
  resetN : Bool
  /-- PT continues over the next lock of PLL-T: the boot is a wake from SLEEP (R443). -/
  woke : Bool
  read : BootRead
  /-- Addressing probes repeated (R399). -/
  probes : Nat
  /-- Image bytes read so far (R400, R401). -/
  got : Assoc Byte
  /-- The wait for a position is over (R292). -/
  posWaited : Bool
  /-- The back-off of R402 runs. -/
  backoff : Bool
  /-- A recovery of the bus has failed, and no STOP has been seen since: the bus is not free (R398). -/
  stuck : Bool
  /-- Press time at which the read began (R404). -/
  since : PressTime
  /-- The image that phase 3 verifies or has accepted (R373). -/
  image : Option (List Byte)
  /-- SHA-256 of the running image (Table CFG-10). -/
  hash : List Byte
  /-- The attestation report being signed, bytes 0 to 255 (R381). -/
  report : Option (List Byte)
  /-- A boot that a thermal shutdown has halted (R433). -/
  halted : Bool
  deriving DecidableEq, Repr

/-- States of the TAP as far as the lands show them: JT_TDO drives in the two shift states (R474, R476). -/
inductive Tap where
  | testLogicReset
  | shiftDr
  | shiftIr
  /-- Any other state of IEEE 1149.1. -/
  | other
  deriving DecidableEq, Repr

/-- The JTAG port (R476). -/
structure Jtag where
  tap : Tap
  /-- The instruction loaded last (R476); none since Test-Logic-Reset, which selects IDCODE. -/
  ir : Option Nat
  /-- EXTEST or INTEST is in force (R476). -/
  scan : Bool
  /-- Levels of STRB0 to STRB5 in the boundary register (R476). -/
  strobes : Nat
  deriving DecidableEq, Repr

/-- A thermal shutdown from its decision to the hold: what its log record will say (R431, Table HKP-4). -/
structure Shutdown where
  decided : PressTime
  dies : Nat
  channel : Nat
  reading : Nat
  limit : Nat
  deriving DecidableEq, Repr

/-- Housekeeping beside its registers (chapter 14). -/
structure Hkp where
  /-- Dies above their shutdown limit in the last round (R431). -/
  above : Nat
  /-- Consecutive rounds at or below 928 (R430). -/
  cool : Nat
  /-- Consecutive rounds at or below the resume level, by die (R436, R437). -/
  ok : List Nat
  /-- Channels in an excursion from their limits (R428), and in an invalid spell (R427). -/
  excursion : Nat
  invalid : Nat
  /-- The latest reference and ground readings of channel 15 lie within 12 mV of nominal (R427). -/
  refGood : Bool
  gndGood : Bool
  /-- The MRAM log by record number, 64 bytes each; an unlisted record is empty (R434). -/
  log : Assoc (List Byte)
  /-- Brown-outs since manufacture (Table HKP-4). -/
  brownouts : Nat
  /-- `HKP_PWR.STATE` that a thermal shutdown left (R436). -/
  left : Nat
  /-- The shutdown whose sequence runs (Table HKP-3); the hold begins with its last step. -/
  shut : Option Shutdown
  /-- The hold has ended with a CLR at the press time given, and PLL-T and PLL-C have yet to relock (R436). -/
  resuming : Option PressTime
  /-- The entry to SLEEP is past its step 4: press time has to switch to LFCLK (R442). -/
  sleeping : Bool
  /-- Phase 0 waits for the dies to cool (R437). -/
  coolWait : Bool
  deriving DecidableEq, Repr

/-- The Bay island beside its registers (chapter 15). -/
structure Bay where
  /-- VAUX feeds the Bay rail. -/
  vaux : Bool
  /-- Every main rail has been above its warning level for 64 LFCLK cycles (R439). -/
  railsGood : Bool
  /-- Main rails that are off, bit r for rail r (R474). -/
  railsOff : Nat
  /-- The Bay rail has moved to the cell since the last boot (R468). -/
  moved : Bool
  /-- Events to be logged at the end of the next boot phase 0 (R467): the source of a wake, the loss of LFCLK, the time
  on the cell, a cold start. -/
  wakeDue : Option Nat
  lfDue : Bool
  cellDue : Bool
  coldDue : Bool
  /-- A main rail has been below its warning level during this SLEEP (Table BAY-2). -/
  railsFell : Bool
  /-- The wake requested, and the first source held during BAY (R453, R454). -/
  wake : Option Nat
  held : Option Nat
  /-- PT continues from the Bay RC (R455). -/
  rc : Bool
  /-- LFCLK cycles of the present second on the cell (R468). -/
  cellLf : Nat
  /-- The charger runs (R456). -/
  runs : Bool
  /-- Sum and number of the valid readings of the tick: CELL, NTC, VAUX (R456). -/
  cellSum : Nat × Nat
  ntcSum : Nat × Nat
  vauxSum : Nat × Nat
  /-- The CELL reading of the previous round (R462). -/
  lastCell : Option Nat
  /-- Rounds that show a cell again after its removal (R462). -/
  present : Nat
  /-- The cell was removed during the tick (R457). -/
  removed : Bool
  /-- Ticks in the present state (Table BAY-3). -/
  ticks : Nat
  /-- Consecutive ticks with V_t at or above 3,000 mV in PRE (Table BAY-3). -/
  preGood : Nat
  /-- Consecutive ticks inside the narrower range during TEMP_HOLD (R458). -/
  holdGood : Nat
  /-- Consecutive ticks at or below the peak less 15 mV, and the current of the previous tick (R459). -/
  dv : Nat
  lastI : Nat
  /-- T_t of FAST, newest first, at most 58 (R459). -/
  temps : List Int
  /-- The odd tick of a limited charger has passed (R461). -/
  half : Bool
  /-- The current that the input rule allows (R460). -/
  inputMa : Nat
  /-- CHG_LIMIT has been logged in this spell (R460). -/
  limitLogged : Bool
  /-- The charger is in TEMP_HOLD (R458). -/
  hold : Bool
  /-- The lamp's pattern at the last LFCLK edge, and the LFCLK cycles since it began, modulo 65,536 (R465). -/
  lampWas : Nat
  lampPhase : Nat
  /-- The state that a reset of the main domains turned to OFF, for its CHG_STATE at the end of the next phase 0
  (R467). -/
  chgDue : Option Nat
  deriving DecidableEq, Repr

/-- What a record written into a buffer stands for: its LN range, segment, kind (1 record, 2 gap, 3 segment close) and
records, as `Staged` has them (R347, R348). -/
structure RecMark where
  first : LineNo
  last : LineNo
  sn : SegNo
  kind : Nat
  /-- Records it stands for: 1, those of a gap, those that a close counts (Table PIP-3). -/
  count : Nat
  /-- The bytes of a close record, which a link loss has written again in stream 17 (R348); of other records none. -/
  body : List Byte
  deriving DecidableEq, Repr

/-- A descriptor that the device has taken (R335). -/
structure Desc where
  /-- Its index (R332), the BAR2 offset it stands at, and the length of its buffer (R331). -/
  idx : Nat
  slot : Nat
  len : Nat
  addr : Nat
  irq : Bool
  /-- Bytes written, or USED of the host-to-device ring. -/
  used : Nat
  firstRec : Nat
  split : Bool
  segclose : Bool
  partial_ : Bool
  /-- Record that the buffer continues (CONT). -/
  cont : Option RecMark
  /-- Records that begin in it, and records that end in it. -/
  begins : List RecMark
  ends : List RecMark
  /-- Records with bytes of it that were written poisoned (R349). -/
  bad : List RecMark
  /-- Event records it holds (R345). -/
  evts : Nat
  status : Nat
  /-- 0 filling, 1 its data writes are issued, 2 its flush read is issued, 3 to be completed in ring order (R338), 4
  lost with the link (R348). -/
  phase : Nat
  deriving DecidableEq, Repr

/-- One thing that a commit has in store for a ring (R333). -/
inductive RingStep where
  /-- The ring goes out of use once its stream has ended with segment `after`. -/
  | ends (after : SegNo)
  /-- A ring that goes out of use comes into use again for `stream`, with `first` as its first segment, if given. -/
  | starts (stream : Option Nat) (first : Option SegNo)
  /-- Once its stream has ended with segment `after`, the ring serves `stream` from segment `first` on. -/
  | rebinds (after : SegNo) (stream : Option Nat) (first : Option SegNo)
  deriving DecidableEq, Repr

/-- One ring beside its registers. -/
structure Ring where
  /-- In use (R333). -/
  active : Bool
  stream : Option Nat
  /-- The segment at which its stream starts (R333); none where it serves the stream from reset on. -/
  since : Option SegNo
  /-- What commits have in store for it, in their order (R333). -/
  next : List RingStep
  /-- Descriptors taken and not completed, oldest first; only the last may be filling. -/
  held : List Desc
  /-- Index of the next descriptor to take. -/
  take : Nat
  /-- The flush read in flight has been retried (R339). -/
  retried : Bool
  /-- Descriptors completed since the ring came into use (R341), and since its last message (R342). -/
  done : Nat
  unsent : Nat
  /-- The descriptor to take was not owned: the index, and whether a write of PI has followed (R335). -/
  notOwned : Option (Nat × Bool)
  /-- Ring-area offset, LOG2SIZE, buffer bytes, write-back offset and direction (true: host to device), as they were
  when the ring came into use (R331, R341). -/
  base : Nat
  log2 : Nat
  buf : Nat
  wb : Option Nat
  down : Bool
  deriving DecidableEq, Repr

/-- A segment that has ended and waits for its EVT_SEGCLOSE (R346). -/
structure SegClose where
  sn : SegNo
  last : LineNo
  /-- Streams whose end of the segment is not delivered, and streams that ended it with a gap record. -/
  waiting : Nat
  gaps : Nat
  deriving DecidableEq, Repr

/-- What the host has set in configuration space, as far as the device's acts depend on it (R323, R329, R342, R354). -/
structure Pcie where
  /-- Relaxed Ordering enable of Device Control, and the max payload size in bytes. -/
  relaxed : Bool
  payload : Nat
  /-- The max read request size in bytes. -/
  readReq : Nat
  /-- Non-Fatal Error Reporting Enable of Device Control (R323). -/
  report : Bool
  /-- PTM is enabled. -/
  ptm : Bool
  /-- MSI-X enable and function mask. -/
  msixEnable : Bool
  msixMask : Bool
  deriving DecidableEq, Repr

/-- The DMA and PCX blocks beside their registers. -/
structure Dma where
  /-- What the host has set in configuration space (R323). -/
  pcie : Pcie
  /-- The streams are lost: with the link (R348), or with the hub or bridge clocks (R418). -/
  lost : Bool
  /-- PLL-H or PLL-B is gated after a lock (R418). -/
  hub : Bool
  /-- The gap REASON of the loss: 3 for the link, 4 for the clocks (R348, R418). -/
  gapReason : Nat
  rings : List Ring
  /-- Records at the front of the event FIFO that stand in unconfirmed descriptors (R345). -/
  evtSent : Nat
  closes : List SegClose
  /-- The runs read from the buffer of the reference ring in hand that the backlog has had no room for yet; true where a
  record begins at the run's first byte (R256, R340). -/
  spill : List (Bool × List Byte)
  /-- What AER has recorded: bit 12 a poisoned completion, bit 14 a completion timeout (R323). -/
  aer : Nat
  /-- Read requests of the buffer in hand that wait for outstanding ones to complete (R323, R340). -/
  readsDue : List Emission
  /-- Passes through Recovery in the present segment (LINK_RETRAINS). -/
  retrains : Nat
  /-- Messages of R343 that wait for the link. -/
  errDue : Nat
  /-- Stream 18 delivers what stands ahead of its stop, in a thermal shutdown or an entry to SLEEP (R431, R442). -/
  drain : Bool
  /-- A PTM dialog is in progress (R354), and a write of NOW is pending (R5). -/
  ptmDue : Bool
  ptmAsked : Bool
  /-- Rate and width that the link has last trained to (R353). -/
  lastLink : Option (Nat × Nat)
  /-- Words of the MSI-X table that are not at reset, by offset from 0x14_8000, and the pending bits (R326, R342). -/
  msix : Assoc Nat
  pba : Nat
  deriving DecidableEq, Repr
/-! ### The module -/

/-- What BAR0 reads return of the registers that the thermal hold keeps at the shutdown (R432): the parts of the state
that they show. -/
structure Held where
  regs : Bank
  shadow : Bank
  ptc : Ptc
  thy : Thy
  arr : Arr
  cnv : Cnv
  lfl : Lfl
  cal : Cal
  pip : Pip
  sor : Sor
  twi : Twi
  bay : Bay
  dma : Dma
  fifo : List FifoRec
  fifoLost : Nat
  deriving DecidableEq, Repr

/-- One YD2416 module. -/
structure State where
  /-- Commands waiting, first in first out. -/
  pending : List Instr
  /-- Register fields in force. -/
  regs : Bank
  /-- Class S values written since the last commit or DISCARD; an unlisted field holds the value in force (R7, R358). -/
  shadow : Bank
  /-- Class L values that wait for their block's line boundary (R9). -/
  live : Bank
  /-- Press time (R55). -/
  pt : PressTime
  /-- Lines executed and not yet handed on by the pipeline, oldest first. -/
  lines : List LineInfo
  ptc : Ptc
  thy : Thy
  arr : Arr
  cnv : Cnv
  lfl : Lfl
  cal : Cal
  pip : Pip
  sor : Sor
  chv : Chv
  clk : Clk
  commit : Commit
  twi : Twi
  boot : Boot
  jtag : Jtag
  hkp : Hkp
  bay : Bay
  dma : Dma
  /-- The registers as a thermal shutdown left them, during the hold (R432). -/
  held : Option Held
  /-- The event FIFO, oldest first, at most 256 records (R345). -/
  fifo : List FifoRec
  /-- Events that found it full and are not yet reported (R345). -/
  fifoLost : Nat
  /-- Common event records queued since reset, modulo 65,536 (R344). -/
  evtSeq : Nat
  /-- What has left the pins, oldest first. -/
  outbox : List Emission
  /-- Memory by BAR2 offset: store DRAM, the ring area and the region table banks. -/
  mem : List Host.Cell
  /-- The model's own counter of free values drawn; not state of the part. -/
  freeCtr : Nat
  deriving DecidableEq, Repr

/-- Why the machine stops with a fault. -/
inductive Fault where
  /-- Raised by an access to an offset outside BAR0 (4 MiB) or BAR2 (256 MiB), which the spec says does not exist;
  safe: the run stops where the hardware has no such address. -/
  | outsideBar
  deriving DecidableEq, Repr

/-- Why the machine refuses a command. -/
inductive Refusal where
  /-- Raised by an arm of the dispatch whose command has no meaning yet; safe: the run stops. -/
  | notModelled (mnemonic : String)
  deriving DecidableEq, Repr

/-- A counter at reset: stopped at 0 with its prescaler begun (R65). -/
def Counter.reset : Counter :=
  { count := 0, acc := 0, need := 1, n := 0, started := false, rstDue := false, startDue := false, inDue := [],
    captDue := [], cmpHeld := false, capt2 := none, lastLog := none, lfTclk := 0, lfXref := 0 }

/-- The PTC block at reset; the first count after reset has SEQ 0, and the levels of ENC_A, ENC_B and ENC_Z accepted
so far are low (R74, notes/assumptions/57.md, notes/assumptions/65.md). -/
def Ptc.reset : Ptc :=
  { counters := List.replicate 8 Counter.reset, lfAcc := 0, slewLeft := 0, slewPhase := 0, latches := [],
    holding := [], encA := false, encB := false, encZ := false, pos := 0, encSeq := 0, edges := [], snap := [],
    snapDue := false }

/-- Thyme at reset. -/
def Thy.reset : Thy :=
  { tc := 0, xl := 0, entries := 0, last := none, divAcc := 0, divNeed := 1, divN := 0, due := [], t0 := 0, k := 0,
    ln := 0, sn := 0, sinceBoundary := 0, first := false, issued := none, reqZ := false, reqLvl := false, reqHost := false,
    armed := [], index := 0, running := [], skipRun := none, lastCount := none, stallLogged := false, emptyLogged := false,
    leadLogged := false, trigOut := none, stopping := false }

/-- The array at reset: photodiodes held, strobes high-impedance, kill cause 3 present while RESET_N is low (R42,
Table ARR-15). -/
def Arr.reset : Arr :=
  { groups := List.replicate 6 ⟨none, 0, []⟩, strobes := List.replicate 6 .z, strobeForced := List.replicate 6 false,
    kills := 4, killAt := none, unconverted := none, frames := [], hold := none, prevFrame := none }

/-- The converters at reset. -/
def Cnv.reset : Cnv :=
  { stages := List.replicate 6 [], restart := List.replicate 6 none, run := none, out := List.replicate 6 [], fails := [],
    spares := [], sparesNext := none, bg := [], bgFrames := 0, bgLogged := [], gapLogged := none, satLast := none,
    satFirst := none, satCount := 0, seg := none }

/-- A detector at reset. -/
def Det.reset : Det :=
  { inq := [], run := none, prev := none, reported := none, queue := [], lostSeg := 0, offAt := none }

/-- The line filters at reset. -/
def Lfl.reset : Lfl :=
  { hist := List.replicate 6 [], out := List.replicate 6 [], dets := List.replicate 64 Det.reset,
    pins := List.replicate 4 ⟨false, false, false⟩, clampSeg := 0, outs := List.replicate 6 [],
    seg := none }

/-- The working set before the first rebuild: the defaults of R197, for zone readings of 0. -/
def WorkSet.reset : WorkSet :=
  { zones := List.replicate 8 0, sets := [], seed := none, extrap := true }

/-- Calibration at reset. -/
def Cal.reset : Cal :=
  { work := WorkSet.reset, prevWork := [], shadow := none, building := none, again := false, asked := false, askedAgain := false,
    dark := List.replicate 6 (0, 0, none), measBase := WorkSet.reset, active := [], pend := [], prevActive := [], epoch := 0,
    seed := none, tl0 := [], visited := [],
    rotation := 0, visit := none, repairDue := false, scLog := [], capture := none, fillCols := [],
    seg := none, out := List.replicate 6 [] }

/-- A stream at reset. -/
def Stream.reset : Stream :=
  { recs := [], dropping := none, written := 0, linkDrop := none, dead := false, from_ := none }

/-- The pipeline at reset; streams 0 to 15 are the regions of interest, 16 INSPECT, 17 Sorrel. -/
def Pip.reset : Pip :=
  { held := List.replicate 6 [], waiting := [], localSeam := [], west := [], westDropping := none, substSeg := 0,
    lateSeg := 0, mismatched := [], streams := List.replicate 18 Stream.reset, row := none, refRow := none,
    tnr := [], lastLn := none, lastOut := none, seg := none, closed := none }

/-- Sorrel at reset. -/
def Sor.reset : Sor :=
  { bands := [], lastBand := none, closed := none, seg := none, parse := [], seeking := false, rows := [],
    count := 0, oldBanks := [], arm := .idle,
    missedSn := [], open_ := [], compared := 0, perEntry := [], tokens := 1024, decided := 0,
    written := 0, norefRows := 0, small := 0, lost := 0, cluOvf := false, cluLost := 0, floodSeg := false, truncSeg := false,
    splitEdge := [], kept := [], lastCfg := none, defSeq := 0, regSeq := 0, alarmLow := false }

/-- A Chive port at reset. -/
def ChvPort.reset : ChvPort :=
  { trainFails := 0, retryDue := false, lockDue := false, sprigId := 0, unechoed := [], ds := [], rtts := [],
    segDrops := 0, syncDue := false }

/-- Chive at reset. -/
def Chv.reset : Chv :=
  { ports := List.replicate 2 ChvPort.reset, syncGot := false, delayGot := false, d := 0, syncPt := 0, syncAt := 0, quality := [],
    phiRun := 0, fi := 0, stepDue := none, stepMade := 0, cwIgnored := false, posBad := false, longLogged := false,
    endReason := 0, ownEnd := none, lastRx := none, lastExec := none, refused := false, digests := [], sprigs := 0,
    stateSent := (false, false) }

/-- A ring not in use. -/
def Ring.reset : Ring :=
  { active := false, stream := none, since := none, next := [], held := [], take := 0, retried := false, done := 0, unsent := 0,
    notOwned := none, base := 0, log2 := 3, buf := 0, wb := none, down := false }

/-- Configuration space at reset, as the base specification has it (R323, notes/assumptions/63.md). -/
def Pcie.reset : Pcie :=
  { relaxed := true, payload := 128, readReq := 512, report := false, ptm := false, msixEnable := false, msixMask := false }

/-- The DMA and PCX blocks at reset. -/
def Dma.reset : Dma :=
  { pcie := Pcie.reset, lost := false, hub := false, gapReason := 3, rings := List.replicate 16 Ring.reset, evtSent := 0,
    closes := [], spill := [], aer := 0, readsDue := [], retrains := 0, errDue := 0, drain := false,
    ptmDue := false, ptmAsked := false, lastLink := none, msix := [], pba := 0 }

/-- The clocks at reset. -/
def Clk.reset : Clk :=
  { ptMode := .off, halted := false, steps := 0, locking := 0, imagePairs := 0, newPairs := 0, applied := 0,
    refLost := false, lfLost := false }

/-- The JTAG port at power-on. -/
def Jtag.reset : Jtag := { tap := .testLogicReset, ir := none, scan := false, strobes := 0 }

/-- The commit at reset. -/
def Commit.reset : Commit :=
  { frozen := false, busy := false, id := 0, target := 0, now := false, own := none, results := [], asked := false }

/-- Boot before the release of RESET_N: nothing read, no image. -/
def Boot.reset : Boot :=
  { supply := .reset, resetN := false, woke := false, read := .idle, probes := 0, got := [], backoff := false, stuck := false, posWaited := false,
    since := 0, image := none, hash := List.replicate 32 0, report := none, halted := false }

/-- Housekeeping at reset, with an empty MRAM log (notes/assumptions/3.md). -/
def Hkp.reset : Hkp :=
  { above := 0, cool := 0, ok := [0, 0, 0], excursion := 0, invalid := 0, refGood := true, gndGood := true, log := [],
    brownouts := 0, left := 0, shut := none, resuming := none, sleeping := false, coolWait := false }

/-- The Bay island after a cold start from VAUX. -/
def Bay.reset : Bay :=
  { vaux := true, railsGood := true, railsOff := 0, moved := false, wakeDue := none, lfDue := false, cellDue := false, coldDue := true,
    railsFell := false, wake := none, held := none, rc := false, cellLf := 0, runs := false, cellSum := (0, 0),
    ntcSum := (0, 0), vauxSum := (0, 0), lastCell := none, present := 0, removed := false, ticks := 0, preGood := 0,
    holdGood := 0, dv := 0, lastI := 0, temps := [], half := false, inputMa := 0, limitLogged := false, hold := false,
    lampWas := 0, lampPhase := 0, chgDue := none }

/-- The state right after reset. -/
def State.reset : State :=
  { pending := [], regs := [], shadow := [], live := [], pt := 0, lines := [], ptc := Ptc.reset, thy := Thy.reset,
    arr := Arr.reset, cnv := Cnv.reset, lfl := Lfl.reset, cal := Cal.reset, pip := Pip.reset, sor := Sor.reset,
    chv := Chv.reset, clk := Clk.reset, commit := Commit.reset, twi := ⟨false, false, false, false⟩,
    boot := Boot.reset, jtag := Jtag.reset, hkp := Hkp.reset, bay := Bay.reset, dma := Dma.reset, held := none,
    fifo := [], fifoLost := 0, evtSeq := 0, outbox := [],
    mem := [], freeCtr := 0 }

end Sys2Proof.Machine
end

