-- ==== Sys2Proof/Machine/Ops.lean ====
section
/-! DEFINITION. The named operations over the register file, the shadow, the event FIFO, the outbox and the memory. -/

namespace Sys2Proof.Machine

/-! ### Register fields -/

/-- The value in force of a field (R8). -/
def State.reg (s : State) (f : Field) : Nat := s.regs.get f

/-- A field in force is not 0. -/
def State.flag (s : State) (f : Field) : Bool := s.reg f != 0

/-- A field in force set to `v`, cut to its width. -/
def State.setReg (s : State) (f : Field) (v : Nat) : State := { s with regs := s.regs.set f v }

/-- A one-bit field set or cleared. -/
def State.setFlag (s : State) (f : Field) (b : Bool) : State := s.setReg f (boolBit b)

/-- A counter field raised by `n`; it wraps silently. -/
def State.addReg (s : State) (f : Field) (n : Nat) : State := s.setReg f (s.reg f + n)

/-- Bit `i` of a field set. -/
def State.setBitOf (s : State) (f : Field) (i : Nat) : State := s.setReg f (withBit (s.reg f) i true)

/-- The pending value of a class S field: the shadow's, or the value in force (R8, R358). -/
def State.shadowReg (s : State) (f : Field) : Nat := (Assoc.find s.shadow f.key).getD (s.reg f)

/-- A class S field written in the shadow. -/
def State.setShadow (s : State) (f : Field) (v : Nat) : State :=
  if v % 2 ^ f.w = s.reg f then { s with shadow := Assoc.erase s.shadow f.key }
  else { s with shadow := Assoc.insert s.shadow f.key (v % 2 ^ f.w) }

/-- The configuration that a commit of the shadow would put in force. -/
def State.target (s : State) : Bank :=
  s.shadow.foldl (fun (b : Bank) kv => b.put kv.1 kv.2) s.regs

/-- Every class L value that waits comes into force (R9). -/
def State.applyLive (s : State) : State :=
  { s with regs := s.live.foldl (fun (b : Bank) kv => b.put kv.1 kv.2) s.regs, live := [] }

/-! ### What the module is -/

/-- The CHAIN_HEAD strap is high. -/
def State.isHead (s : State) : Bool := s.flag F.CHV_POS_HEAD

/-- Between a start and a stop (Table THY-9). -/
def State.isRunning (s : State) : Bool := s.flag F.THY_CTL_RUNNING

/-- The module is synchronised (R300). -/
def State.isSynced (s : State) : Bool := s.flag F.CHV_SYNC_SYNCED

/-- PLL `x` is gated. -/
def State.gated (s : State) (x : Nat) : Bool := s.flag (F.CLK_PLL_STAT_GATED x)

/-- TCLK runs: the outputs of PLL-T are not gated and debug halt is off (R80, R418). -/
def State.tclkRuns (s : State) : Bool := !s.flag (F.CLK_PLL_STAT_GATED 0) && !s.clk.halted

/-- Some main rail is on (R474, notes/assumptions/67.md). -/
def State.mainPower (s : State) : Bool :=
  match s.boot.supply with
  | .run => true
  | .reset => s.bay.railsOff != 15
  | .sleep => s.bay.railsOff != 15
  | .bay _ => false
  | .off => false

/-- A thermal shutdown runs, or its hold lasts (R431, R432). -/
def State.thermDown (s : State) : Bool := s.flag F.HKP_THERM_HOLD || s.hkp.shut.isSome

/-- Segment in force: the SN of the last action executed. -/
def State.snNow (s : State) : SegNo := BitVec.ofNat 32 (s.reg F.THY_SN_V)

/-- Chain position, 31 if none. -/
def State.posNow (s : State) : Nat := s.reg F.CHV_POS_POS

/-- Sequence numbers compared modulo 2^32: `a` is later than `b` (R256). -/
def snLater (a b : SegNo) : Bool := decide (0 < signedDiff a b)

/-! ### Events (R344, R345, R395) -/

/-- An event of class `c`, or ALARM_N for `c` = 0, is noted for the two-wire attention (R395). -/
def State.attend (s : State) (c : Nat) : State :=
  if bitAt (s.reg F.TWI_ATTN_EN_EN) c then
    if c = 0 then
      if s.flag F.TWI_ATTN_SRC_ALARM then s
      else { (s.setReg F.TWI_ATTN_SRC_ALARM 1) with twi := { s.twi with unanswered := true, newly := true } }
    else if bitAt (s.reg F.TWI_ATTN_SRC_CLASS) (c - 1) then s
    else { (s.setBitOf F.TWI_ATTN_SRC_CLASS (c - 1)) with twi := { s.twi with unanswered := true, newly := true } }
  else s

/-- A record enters the event FIFO, or is counted where the FIFO is full, which EVT_LOST shows (R345, R357). -/
def State.enqueue (s : State) (code : Nat) (sn : SegNo) (pt : PressTime) (args : List (Nat × Nat)) : State :=
  if s.fifo.length < 256 then
    { s with fifo := s.fifo ++ [.common ⟨code, s.posNow, sn, pt, args, s.evtSeq⟩],
             evtSeq := (s.evtSeq + 1) % 65536 }
  else { s with fifoLost := s.fifoLost + 1 }.setFlag F.DMA_STAT_EVT_LOST true

/-- An event is logged with the SN and PT given (R344). -/
def State.logAt (s : State) (code : Nat) (sn : SegNo) (pt : PressTime) (args : List (Nat × Nat)) : State :=
  (s.attend (code / 256)).enqueue code sn pt args

/-- An event is logged with the SN and PT in force; each argument has its width in bytes (R344). -/
def State.log (s : State) (code : Nat) (args : List (Nat × Nat)) : State := s.logAt code s.snNow s.pt args

/-- An event that a block logs at the close of segment `sn` (R491). -/
def State.logClose (s : State) (code : Nat) (sn : SegNo) (args : List (Nat × Nat)) : State :=
  s.logAt code sn s.pt args

/-- WRITE_IGNORED with the offset and the reason (R7, Table CFG-11). -/
def State.writeIgnored (s : State) (off reason : Nat) : State := s.log 0x0A01 [(4, off), (1, reason)]

/-- Something leaves the pins. -/
def State.emit (s : State) (e : Emission) : State := { s with outbox := s.outbox ++ [e] }

/-- The reset value of a word of the MSI-X table: every vector is masked (R326, notes/assumptions/6.md). -/
def msixReset (i : Nat) : Nat := if i % 16 = 12 then 1 else 0

/-- The word at byte `i` of the MSI-X table. -/
def State.msixWord (s : State) (i : Nat) : Nat := (Assoc.find s.dma.msix i).getD (msixReset i)

/-- Vector `v` is masked: by its own mask bit, by the function mask, or while MSI-X is not enabled (R342,
notes/assumptions/63.md). -/
def State.msixMasked (s : State) (v : Nat) : Bool :=
  !s.dma.pcie.msixEnable || s.dma.pcie.msixMask || bitAt (s.msixWord (16 * v + 12)) 0

/-- The message of vector `v` is sent, or is pending while the vector is masked (R342). -/
def State.sendMsix (s : State) (v : Nat) : State :=
  if s.msixMasked v then { s with dma := { s.dma with pba := withBit s.dma.pba v true } }
  else s.emit (.msix v)

/-- The vector of `DMA_CTL.ERR_VEC` is sent, or waits for the link (R343). -/
def State.errVector (s : State) : State :=
  if s.flag F.DMA_STAT_LINKED then s.sendMsix (s.reg F.DMA_CTL_ERR_VEC)
  else { s with dma := { s.dma with errDue := s.dma.errDue + 1 } }

/-- After a slot of the event FIFO has freed: EVT_LOST with the count, ahead of newer events (R345). -/
def State.fifoFreed (s : State) : State :=
  if s.fifoLost = 0 then s
  else if 256 ≤ s.fifo.length then s
  else
    let n := s.fifoLost
    ({ s with fifoLost := 0 }.log 0x090E [(4, n)]).errVector

/-! ### Free values -/

/-- A fresh free value of `w` bits, and the state that has drawn it. -/
def State.drawFree (s : State) (w : Nat) : Nat × State :=
  (Config.freeValue s.freeCtr w % 2 ^ w, { s with freeCtr := s.freeCtr + 1 })

/-! ### Memory by BAR2 offset -/

/-- What a byte that nothing has written reads as (notes/assumptions/2.md). -/
def unwrittenByte : Byte := 0

/-- The byte at BAR2 offset `a`. -/
def readByte (m : List Host.Cell) (a : Nat) : Byte := (Assoc.find m a).getD unwrittenByte

/-- The memory with byte `a` at `v`, in its canonical form. -/
def writeByte (m : List Host.Cell) (a : Nat) (v : Byte) : List Host.Cell :=
  if v = unwrittenByte then Assoc.erase m a else Assoc.insert m a v

/-- The memory's canonical form: addresses strictly rising, no entry equal to what an unlisted byte reads as. -/
def Memory.wf (m : List Host.Cell) : Bool := Assoc.rising m && m.all (fun c => c.2 != unwrittenByte)

/-- `n` bytes from `a`. -/
def readBytes (m : List Host.Cell) (a : Nat) : Nat → List Byte
  | 0 => []
  | n + 1 => readByte m a :: readBytes m (a + 1) n

/-- Bytes written from `a` up. -/
def writeBytes (m : List Host.Cell) (a : Nat) : List Byte → List Host.Cell
  | [] => m
  | b :: r => writeBytes (writeByte m a b) (a + 1) r

/-- Where store DRAM stands in BAR2 (10_host_interface_and_dma.md, Table DMA-2). -/
def dramBase : Nat := 0x1000000

/-- The bytes of store DRAM from offset `d`, `n` of them. -/
def State.dram (s : State) (d n : Nat) : List Byte := readBytes s.mem (dramBase + d) n

end Sys2Proof.Machine
end

