-- ==== Sys2Proof/Machine/Hash.lean ====
section
/-! DEFINITION. The checks and the hash that several blocks share: CRC-32 (06_calibration_and_redundancy.md Table
CAL-2), CRC-8 (12_two_wire_management_port.md R389, 09_chive_chain_and_sync.md) and SHA-256
(11_configuration_boot_and_security.md R367). -/

namespace Sys2Proof.Machine

/-- Eight steps of a reflected CRC-32. -/
def crc32Bits : Nat → BitVec 32 → BitVec 32
  | 0, c => c
  | k + 1, c => crc32Bits k (if c.getLsbD 0 then (c >>> 1) ^^^ 0xEDB88320#32 else c >>> 1)

/-- CRC-32 of bytes: IEEE 802.3, reflected, initial value and final XOR all ones. -/
def crc32 (bs : List Byte) : BitVec 32 :=
  (bs.foldl (fun c b => crc32Bits 8 (c ^^^ b.setWidth 32)) 0xFFFFFFFF#32) ^^^ 0xFFFFFFFF#32

/-- Eight steps of a CRC-8 with polynomial x^8 + x^2 + x + 1, most significant bit first. -/
def crc8Bits : Nat → BitVec 8 → BitVec 8
  | 0, c => c
  | k + 1, c => crc8Bits k (if c.getLsbD 7 then (c <<< 1) ^^^ 0x07#8 else c <<< 1)

/-- CRC-8 of bytes, initial value 0. -/
def crc8 (bs : List Byte) : Byte := bs.foldl (fun c b => crc8Bits 8 (c ^^^ b)) 0

/-! ### SHA-256 (PRESUMED, notes/assumptions/5.md: the standard's definition) -/

/-- The round constants. -/
def shaK : List Word32 :=
  [0x428A2F98, 0x71374491, 0xB5C0FBCF, 0xE9B5DBA5, 0x3956C25B, 0x59F111F1, 0x923F82A4, 0xAB1C5ED5,
    0xD807AA98, 0x12835B01, 0x243185BE, 0x550C7DC3, 0x72BE5D74, 0x80DEB1FE, 0x9BDC06A7, 0xC19BF174,
    0xE49B69C1, 0xEFBE4786, 0x0FC19DC6, 0x240CA1CC, 0x2DE92C6F, 0x4A7484AA, 0x5CB0A9DC, 0x76F988DA,
    0x983E5152, 0xA831C66D, 0xB00327C8, 0xBF597FC7, 0xC6E00BF3, 0xD5A79147, 0x06CA6351, 0x14292967,
    0x27B70A85, 0x2E1B2138, 0x4D2C6DFC, 0x53380D13, 0x650A7354, 0x766A0ABB, 0x81C2C92E, 0x92722C85,
    0xA2BFE8A1, 0xA81A664B, 0xC24B8B70, 0xC76C51A3, 0xD192E819, 0xD6990624, 0xF40E3585, 0x106AA070,
    0x19A4C116, 0x1E376C08, 0x2748774C, 0x34B0BCB5, 0x391C0CB3, 0x4ED8AA4A, 0x5B9CCA4F, 0x682E6FF3,
    0x748F82EE, 0x78A5636F, 0x84C87814, 0x8CC70208, 0x90BEFFFA, 0xA4506CEB, 0xBEF9A3F7, 0xC67178F2]

/-- The initial hash words. -/
def shaInit : List Word32 :=
  [0x6A09E667, 0xBB67AE85, 0x3C6EF372, 0xA54FF53A, 0x510E527F, 0x9B05688C, 0x1F83D9AB, 0x5BE0CD19]

/-- `x` rotated right by `n`. -/
def rotr (x : Word32) (n : Nat) : Word32 := x.rotateRight n

/-- A message schedule, newest word first, extended by `n` words. -/
def shaExtend : Nat → List Word32 → List Word32
  | 0, w => w
  | n + 1, w =>
    let a := w[14]?.getD 0
    let b := w[1]?.getD 0
    let s0 := rotr a 7 ^^^ rotr a 18 ^^^ (a >>> 3)
    let s1 := rotr b 17 ^^^ rotr b 19 ^^^ (b >>> 10)
    shaExtend n ((w[15]?.getD 0 + s0 + w[6]?.getD 0 + s1) :: w)

/-- One round on the eight working words. -/
def shaRound (h : List Word32) (kw : Word32 × Word32) : List Word32 :=
  match h with
  | [a, b, c, d, e, f, g, hh] =>
    let s1 := rotr e 6 ^^^ rotr e 11 ^^^ rotr e 25
    let ch := (e &&& f) ^^^ (~~~e &&& g)
    let t1 := hh + s1 + ch + kw.1 + kw.2
    let s0 := rotr a 2 ^^^ rotr a 13 ^^^ rotr a 22
    let maj := (a &&& b) ^^^ (a &&& c) ^^^ (b &&& c)
    [t1 + (s0 + maj), a, b, c, d + t1, e, f, g]
  | _ => h

/-- The big-endian words of bytes. -/
def beWords : Nat → List Byte → List Word32
  | 0, _ => []
  | n + 1, bs => BitVec.ofNat 32 (ofLeBytes (bs.take 4).reverse) :: beWords n (bs.drop 4)

/-- One 64-byte block. -/
def shaBlock (h : List Word32) (block : List Byte) : List Word32 :=
  let w := (shaExtend 48 (beWords 16 block).reverse).reverse
  List.zipWith (· + ·) h ((shaK.zip w).foldl shaRound h)

/-- `n` blocks. -/
def shaBlocks : Nat → List Word32 → List Byte → List Word32
  | 0, h, _ => h
  | n + 1, h, bs => shaBlocks n (shaBlock h (bs.take 64)) (bs.drop 64)

/-- SHA-256 of bytes, 32 bytes. -/
def sha256 (bs : List Byte) : List Byte :=
  let n := bs.length
  let zeros := (119 - n % 64) % 64
  let padded := bs ++ [0x80] ++ List.replicate zeros 0 ++ (leBytes 8 (8 * n)).reverse
  (shaBlocks (padded.length / 64) shaInit padded).flatMap (fun w => (leBytes 4 w.toNat).reverse)

end Sys2Proof.Machine
end

