-- ==== Sys2Proof/Machine/Operands.lean ====
section
/-! DEFINITION. What the blocks read out of a configuration: row groups, conversion windows, line programs, exposures,
filters, alignment, cells. Every function takes the bank of fields that is in force for the line in question. -/

namespace Sys2Proof.Machine

/-! ### Row groups (01_pixel_array_and_exposure.md, 04_column_converters.md) -/

/-- Group `g` is enabled (R33). -/
def Cfg.grpEn (c : Cfg) (g : Nat) : Bool := c.get (F.ARR_GRP_EN g) == 1

/-- Groups enabled. -/
def Cfg.enabledGroups (c : Cfg) : List Nat := (List.range 6).filter (fun g => c.grpEn g)

/-- ABIN: rows summed per line (Table ARR-9). -/
def Cfg.abin (c : Cfg) (g : Nat) : Nat := 2 ^ c.get (F.ARR_GRP_ABIN g)

/-- TDI stages (Table ARR-9). -/
def Cfg.tdi (c : Cfg) (g : Nat) : Nat := c.get (F.ARR_GRP_TDI g) + 1

/-- Rows converted for group `g` (R44); 0 for a disabled group. -/
def Cfg.rowsOf (c : Cfg) (g : Nat) : Nat := if c.grpEn g then c.abin g * c.tdi g else 0

/-- The OSR of the preset (Table CNV-2). -/
def Cfg.osr (c : Cfg) : Nat :=
  match c.get F.CNV_PRESET_PRESET with
  | 0 => 256 | 1 => 128 | 2 => 64 | 3 => 32 | _ => 16

/-- Cycles of one conversion (R127). -/
def Cfg.cycles (c : Cfg) : Nat := c.osr + 8

/-- The shifts in force (R132, Table CNV-2). -/
def Cfg.shifts (c : Cfg) : Nat × Nat × Nat :=
  if c.get F.CNV_PRESET_SHIFT_OVR = 1 then (c.get F.CNV_SHIFT_S1, c.get F.CNV_SHIFT_S2, c.get F.CNV_SHIFT_S3)
  else
    match c.get F.CNV_PRESET_PRESET with
    | 0 => (1, 2, 11) | 1 => (0, 1, 10) | 2 => (0, 0, 8) | 3 => (0, 0, 5) | _ => (0, 0, 2)

/-- The greatest 32-bit number, at which the accumulators of R128 stay. -/
def sat32 (v : Nat) : Nat := if 0xFFFFFFFF < v then 0xFFFFFFFF else v

/-- The three accumulators after the bits given, and the count of ones (R128). -/
def integrate (s1 s2 : Nat) : List Bool → Nat × Nat × Nat × Nat → Nat × Nat × Nat × Nat
  | [], a => a
  | d :: ds, (a1, a2, a3, ones) =>
    let b1 := sat32 (a1 + boolBit d * 4096)
    let b2 := sat32 (a2 + b1 / 2 ^ s1)
    let b3 := sat32 (a3 + b2 / 2 ^ s2)
    integrate s1 s2 ds (b1, b2, b3, ones + boolBit d)

/-- The code of one conversion and its SAT mark (R128). -/
def decimate (sh : Nat × Nat × Nat) (bits : List Bool) : Nat × Bool :=
  let (a1, a2, a3, ones) := integrate sh.1 sh.2.1 bits (0, 0, 0, 0)
  let full := a1 == 0xFFFFFFFF || a2 == 0xFFFFFFFF || a3 == 0xFFFFFFFF
  let raw := a3 / 2 ^ sh.2.2
  let code := if 0xFFFFF < raw then 0xFFFFF else raw
  (code, full || decide (0xFFFFF < raw) || ones == bits.length)

/-- The accumulators with every bit 1 (R129). -/
def Cfg.fullScaleAcc (c : Cfg) : Nat × Nat × Nat × Nat :=
  integrate c.shifts.1 c.shifts.2.1 (List.replicate c.osr true) (0, 0, 0, 0)

/-- FS (R129); `CNV_FS.FS` holds it modulo 2^28 (notes/assumptions/68.md). -/
def Cfg.fs (c : Cfg) : Nat := c.fullScaleAcc.2.2.1 / 2 ^ c.shifts.2.2

/-- An accumulator reaches its limit in computing FS (R129). -/
def Cfg.fsSaturates (c : Cfg) : Bool :=
  let (a1, a2, a3, _) := c.fullScaleAcc
  a1 == 0xFFFFFFFF || a2 == 0xFFFFFFFF || a3 == 0xFFFFFFFF

/-- The conversion window of group `g`, in ticks from the frame start; 0 and 0 when disabled (R29, Table ARR-10). -/
def Cfg.window (c : Cfg) (g : Nat) : Nat × Nat :=
  if c.grpEn g then
    let before := if g % 2 = 0 then 0 else c.rowsOf (g - 1)
    (512 + 8 * before * c.cycles, 512 + 8 * (before + c.rowsOf g) * c.cycles)
  else (0, 0)

/-- The frame length F; 512 where no group is enabled (R29, R134). -/
def Cfg.frameLen (c : Cfg) : Nat := (List.range 6).foldl (fun m g => max m (c.window g).2) 512

/-- The converter bank of a group (R23): 0 A, 1 B, 2 C. -/
def bankOf (g : Nat) : Nat := g / 2

/-! ### Line programs (03_thyme_line_launch.md R86 to R90) -/

/-- Steps of a program: tick, kind, mask (Table THY-2). -/
def Cfg.steps (c : Cfg) (p : Nat) : List (Nat × Nat × Nat) :=
  (List.range (min 64 (c.get (F.THY_PROG0_LEN p)))).map
    (fun k => (c.get (F.THY_STEP_TICK p k), c.get (F.THY_STEP_KIND p k), c.get (F.THY_STEP_MASK p k)))

/-- Illumination context of a program (R89). -/
def Cfg.progCtx (c : Cfg) (p : Nat) : Nat := c.get (F.THY_PROG0_CTX p)

/-- Designated strobes of group `g` in program `p` (Table THY-1). -/
def Cfg.light (c : Cfg) (p g : Nat) : Nat :=
  match g with
  | 0 => c.get (F.THY_PROG1_LIGHT0 p)
  | 1 => c.get (F.THY_PROG1_LIGHT1 p)
  | 2 => c.get (F.THY_PROG1_LIGHT2 p)
  | 3 => c.get (F.THY_PROG1_LIGHT3 p)
  | 4 => c.get (F.THY_PROG2_LIGHT4 p)
  | _ => c.get (F.THY_PROG2_LIGHT5 p)

/-- Pattern entries in use (R90). -/
def Cfg.patLen (c : Cfg) : Nat := c.get F.THY_CTL_PAT_LEN

/-- The program that the line with index `j` of its segment runs (R90). -/
def Cfg.progAt (c : Cfg) (j : Nat) : Nat :=
  c.get (F.THY_PAT_PROG (if c.patLen = 0 then 0 else j % c.patLen))

/-- Programs that an entry in use selects (R88). -/
def Cfg.reachable (c : Cfg) : List Nat :=
  (List.range 16).filter (fun p => (List.range (min 64 c.patLen)).any (fun k => c.get (F.THY_PAT_PROG k) == p))

/-- The span of a program: the tick of its last step plus 1 (R88). -/
def Cfg.span (c : Cfg) (p : Nat) : Nat :=
  match (c.steps p).getLast? with
  | some (t, _, _) => t + 1
  | none => 0

/-- Ticks of the steps of one kind whose mask has bit `n`. -/
def ticksOf (steps : List (Nat × Nat × Nat)) (kind n : Nat) : List Nat :=
  (steps.filter (fun x => x.2.1 == kind && bitAt x.2.2 n)).map (fun x => x.1)

/-- Exposure windows of group `g` in a program: the OPENs paired with the TXs in order (R27, R36). -/
def exposures (steps : List (Nat × Nat × Nat)) (g : Nat) : List (Nat × Nat) :=
  (ticksOf steps 1 g).zip (ticksOf steps 2 g)

/-- Pulses of strobe `n` in a program (R39). -/
def pulses (steps : List (Nat × Nat × Nat)) (n : Nat) : List (Nat × Nat) :=
  (ticksOf steps 4 n).zip (ticksOf steps 5 n)

/-- An interval put into a list ordered by start. -/
def insertSpan : List (Nat × Nat) → Nat × Nat → List (Nat × Nat)
  | [], x => [x]
  | y :: r, x => if x.1 ≤ y.1 then x :: y :: r else y :: insertSpan r x

/-- Length of the union of intervals ordered by start, above `from_`. -/
def unionLen : Nat → List (Nat × Nat) → Nat
  | _, [] => 0
  | from_, (a, b) :: r =>
    let lo := max a from_
    (b - lo) + unionLen (max from_ b) r

/-- Overlap of one window with the union of intervals. -/
def overlap (w : Nat × Nat) (spans : List (Nat × Nat)) : Nat :=
  unionLen 0 ((spans.map (fun p => (max p.1 w.1, min p.2 w.2))).foldl insertSpan [])

/-- Overlap of a window of group `g` with its light, or its length where no strobe is designated (R37). -/
def Cfg.lit (c : Cfg) (p g : Nat) (w : Nat × Nat) : Nat :=
  if c.light p g = 0 then w.2 - w.1
  else overlap w (((List.range 6).filter (fun n => bitAt (c.light p g) n)).flatMap (fun n => pulses (c.steps p) n))

/-- The effective exposure E of group `g` in program `p` (R37). -/
def Cfg.exposure (c : Cfg) (p g : Nat) : Nat :=
  (exposures (c.steps p) g).foldl (fun e w => e + c.lit p g w) 0

/-- The exposure centroid C of group `g` in program `p` (R37). -/
def Cfg.centroid (c : Cfg) (p g : Nat) : Nat :=
  (exposures (c.steps p) g).foldl (fun e w => e + c.lit p g w * (w.1 + w.2)) 0 / (2 * c.exposure p g)

/-- `ARR_HDR_RATIOn` of program `p` (R38, R54). -/
def Cfg.hdrRatio (c : Cfg) (p : Nat) : Nat :=
  if c.get F.ARR_HDR_PAIR_EN = 1 ∧ c.reachable.contains p ∧ c.exposure p 3 ≠ 0 then
    divRoundUpHalf (c.exposure p 4 * 65536) (c.exposure p 3)
  else 0

/-- The array's part of the minimum line period (R31). -/
def Cfg.arrayTerm (c : Cfg) : Nat :=
  let shutter := c.reachable.foldl (fun m p =>
    c.enabledGroups.foldl (fun m g =>
      match (ticksOf (c.steps p) 2 g).getLast?, (ticksOf (c.steps p) 1 g).head? with
      | some tx, some op => max m (tx + 16 - op)
      | _, _ => m) m) 0
  max (c.frameLen + 33) shutter

/-- FLOOR (R110). -/
def Cfg.floor (c : Cfg) : Nat :=
  max (max 2500 c.arrayTerm) (c.reachable.foldl (fun m p => max m (c.span p)) 0)

/-- MINPER in force (R110). -/
def Cfg.minper (c : Cfg) : Nat := c.get F.THY_MINPER_MINPER

/-! ### Line filters (05_line_filters_and_level_events.md) -/

/-- The FIR ROM: coefficients from tap 0, default shift, offset (Table LFL-1). -/
def firRom (i : Nat) : List Int × Nat × Nat :=
  match i with
  | 0 => ([1], 0, 0)
  | 1 => ([1, 2, 1], 2, 0)
  | 2 => ([1, 4, 6, 4, 1], 4, 0)
  | 3 => ([1, 6, 15, 20, 15, 6, 1], 6, 0)
  | 4 => ([1, 8, 28, 56, 70, 56, 28, 8, 1], 8, 0)
  | 5 => ([1, 10, 45, 120, 210, 252, 210, 120, 45, 10, 1], 10, 0)
  | 6 => ([1, 2, 2, 2, 1], 3, 0)
  | 7 => ([1, 2, 2, 2, 2, 2, 2, 2, 1], 4, 0)
  | 8 => ([1, 3, 7, 13, 21, 29, 35, 38, 35, 29, 21, 13, 7, 3, 1], 8, 0)
  | 9 => ([-1, 6, -1], 2, 0)
  | 10 => ([-1, -2, 14, -2, -1], 3, 0)
  | 11 => ([-1, -2, -3, 20, -3, -2, -1], 3, 0)
  | 12 => ([1, 0, -1], 1, 0x200000)
  | 13 => ([1, 2, 0, -2, -1], 2, 0x200000)
  | 14 => ([1, 2, 3, 0, -3, -2, -1], 3, 0x200000)
  | _ => ([-1, 2, -1], 1, 0x200000)

/-- Rank taps of group `g`, 1 when the filter is off (R153). -/
def Cfg.rankTaps (c : Cfg) (g : Nat) : Nat :=
  if c.get (F.LFL_GRP_RANK_MODE g) = 0 then 1 else if c.get (F.LFL_GRP_RANK_TAPS g) = 1 then 5 else 3

/-- The rank output's place in the sorted order (R155). -/
def Cfg.rankPlace (c : Cfg) (g : Nat) : Nat :=
  match c.get (F.LFL_GRP_RANK_MODE g) with
  | 1 => (c.rankTaps g - 1) / 2
  | 2 => 0
  | 3 => c.rankTaps g - 1
  | 4 => c.get (F.LFL_GRP_RANK_K g)
  | _ => 0

/-- FIR coefficients of group `g`. -/
def Cfg.coefs (c : Cfg) (g : Nat) : List Int := (firRom (c.get (F.LFL_GRP_FIR g))).1

/-- FIR taps of group `g`. -/
def Cfg.firTaps (c : Cfg) (g : Nat) : Nat := (c.coefs g).length

/-- The FIR shift in force (R156). -/
def Cfg.fshift (c : Cfg) (g : Nat) : Nat :=
  if c.get (F.LFL_GRP_FSHIFT_AUTO g) = 1 then (firRom (c.get (F.LFL_GRP_FIR g))).2.1 else c.get (F.LFL_GRP_FSHIFT g)

/-- The FIR offset (Table LFL-1). -/
def Cfg.firOffset (c : Cfg) (g : Nat) : Nat := (firRom (c.get (F.LFL_GRP_FIR g))).2.2

/-- The FIR is one of the zero-sum responses 12 to 15. -/
def Cfg.zeroSum (c : Cfg) (g : Nat) : Bool := decide (12 ≤ c.get (F.LFL_GRP_FIR g))

/-- D (Table LFL-7). -/
def Cfg.decim (c : Cfg) : Nat := 2 ^ c.get F.LFL_CTL_DECIM

/-- The span of group `g` (R159). -/
def Cfg.chainSpan (c : Cfg) (g : Nat) : Nat := c.rankTaps g + c.firTaps g + c.decim - 2

/-- 2 × GD_g (R159). -/
def Cfg.gd2 (c : Cfg) (g : Nat) : Nat := c.rankTaps g + c.firTaps g - 2

/-- 2 × D_g (R50). -/
def Cfg.dg2 (c : Cfg) (g : Nat) : Nat := 12 * g / c.abin g + 2 * (c.tdi g - 1)

/-- 2 × A_g (07_pixel_pipeline_and_seams.md, before R215). -/
def Cfg.ag2 (c : Cfg) (g : Nat) : Nat := c.dg2 g + c.gd2 g

/-- M, the largest ⌈A_g⌉ over the enabled groups (R215). -/
def Cfg.alignMax (c : Cfg) : Nat := c.enabledGroups.foldl (fun m g => max m ((c.ag2 g + 1) / 2)) 0

/-- The least ⌊A_g⌋ over the enabled groups (Table PIP-7). -/
def Cfg.alignMin (c : Cfg) : Nat := c.enabledGroups.foldl (fun m g => min m (c.ag2 g / 2)) c.alignMax

/-- Line `l` is one at which group `g` delivers an output (R157). -/
def Cfg.selected (c : Cfg) (g : Nat) (l : LineNo) : Bool :=
  (signedDiff l (BitVec.ofNat 48 (c.ag2 g / 2))) % Int.ofNat c.decim == Int.ofNat c.decim - 1

/-- Line `l` is one at which an aligned record is formed (R217). -/
def Cfg.recordAt (c : Cfg) (l : LineNo) : Bool :=
  (signedDiff l (BitVec.ofNat 48 c.alignMax)) % Int.ofNat c.decim == Int.ofNat c.decim - 1

/-! ### Columns and cells -/

/-- The column group of a physical column (R21). -/
def cgOf (pc : Nat) : Nat := pc / 64

/-- First and last physical column of the array window (R20, R51). -/
def Cfg.winFirst (c : Cfg) : Nat := 64 * c.get F.ARR_WIN_FIRST_CG
def Cfg.winLast (c : Cfg) : Nat := 64 * c.get F.ARR_WIN_LAST_CG + 63

/-- The last owned column (R222). -/
def Cfg.lastOwned (c : Cfg) : Nat := 16383 - c.get F.PIP_SEAM_OVL_E

/-- Δ of the seam (R224). -/
def Cfg.stagger (c : Cfg) : Int := signedOf 13 (c.get F.PIP_SEAM_STAG_STAGGER)

/-- SEAM_LAG (R224). -/
def Cfg.seamLag (c : Cfg) : Nat := c.stagger.toNat

/-- The grid size n (R239). -/
def Cfg.grid (c : Cfg) : Nat := 2 ^ (c.get F.PIP_INSP_GRID + 1)

/-- Sources of the INSPECT slots (R236). -/
def Cfg.slotSrc (c : Cfg) (k : Nat) : Nat :=
  match k with
  | 0 => c.get F.PIP_INSP_SRC0
  | 1 => c.get F.PIP_INSP_SRC1
  | 2 => c.get F.PIP_INSP_SRC2
  | _ => c.get F.PIP_INSP_SRC3

/-- Slots in use (R236). -/
def Cfg.usedSlots (c : Cfg) : List Nat := (List.range 4).filter (fun k => decide (c.slotSrc k < 6))

/-- The cell height m in records (R239); ABIN is that of the first used slot's group. -/
def Cfg.cellRows (c : Cfg) : Nat :=
  match c.usedSlots.head? with
  | some k => c.grid / (c.abin (c.slotSrc k) * c.decim)
  | none => c.grid / c.decim

/-- First and one past the last COL that is both owned and inside the window. -/
def Cfg.cellLo (c : Cfg) : Nat := c.winFirst - 64
def Cfg.cellHi (c : Cfg) : Nat := min (c.lastOwned + 1) (c.winLast - 63)

/-- COL of cell 0 (R239): the first run of n columns from XPHASE that lies wholly inside. -/
def Cfg.cell0 (c : Cfg) : Nat :=
  let x := c.get F.PIP_INSP_XPHASE
  x + c.grid * ((c.cellLo - x + c.grid - 1) / c.grid)

/-- CX, the number of cells (R252). -/
def Cfg.cells (c : Cfg) : Nat := (c.cellHi - c.cell0) / c.grid

/-- NT = ⌈CX ÷ 64⌉ (R252). -/
def Cfg.tiles (c : Cfg) : Nat := (c.cells + 63) / 64

end Sys2Proof.Machine
end

