-- ==== Sys2Proof/Machine/PressTime.lean ====
section
/-! DEFINITION. Press time, wide registers, the general counters and the encoder's index and window
(02_press_time_and_counters.md). -/

namespace Sys2Proof.Machine

/-- What a meaning answers. -/
abbrev Res := Host.Outcome State Fault Refusal

/-! ### Writes of an action bit -/

/-- What a write of an action bit or of a producer index at `off` does: nothing while the main domains are held in
reset or unpowered; WRITE_IGNORED in the thermal hold (R432, R433); nothing before boot phase 5 (R374, R392); else
`f`. -/
def State.hostAction (s : State) (off : Nat) (f : State → State) : State :=
  if s.boot.supply != .run then s
  else if s.flag F.HKP_THERM_HOLD then s.writeIgnored off 5
  else if s.reg F.CFG_BOOT_STAT_PHASE < 5 then s
  else f s

/-- The same for a class L field outside the CFG and SEC blocks, which SAFE discards as well (R376). -/
def State.hostLive (s : State) (off : Nat) (f : State → State) : State :=
  s.hostAction off (fun s => if s.flag F.CFG_BOOT_STAT_SAFE then s.writeIgnored off 5 else f s)

/-- The same for what the thermal hold accepts as well: the HKP block, `CFG_LOCK`, the two-wire block and MSI-X
(R432); the hold comes before the phases of boot. -/
def State.hostHold (s : State) (f : State → State) : State :=
  if s.boot.supply != .run then s
  else if decide (s.reg F.CFG_BOOT_STAT_PHASE < 5) && !s.flag F.HKP_THERM_HOLD then s
  else f s

/-! ### Counters (R63 to R73, R81, R82, R84) -/

/-- Counter `n`. -/
def State.cnt (s : State) (n : Nat) : Counter := s.ptc.counters[n]?.getD Counter.reset

/-- Counter `n` replaced. -/
def State.setCnt (s : State) (n : Nat) (c : Counter) : State :=
  { s with ptc := { s.ptc with counters := s.ptc.counters.set n c } }

/-- The period of counter `n`; 0 means 2^32 (R66). -/
def State.period (s : State) (n : Nat) : Nat :=
  if s.reg (F.PTC_CNT_PERIOD_V n) = 0 then 2 ^ 32 else s.reg (F.PTC_CNT_PERIOD_V n)

/-- The counter accepts input events (R70, Table PTC-5). Where ARM of an enabled counter becomes 1, what the last
START or STOP left decides (notes/assumptions/57.md). -/
def State.cntRuns (s : State) (n : Nat) : Bool :=
  s.flag (F.PTC_CNT_CTL_EN n) && (!s.flag (F.PTC_CNT_CTL_ARM n) || (s.cnt n).started)

/-- A count begins (R65). -/
def beginCount (p f : Nat) (c : Counter) : Counter :=
  { c with need := p + (c.acc + f) / 2 ^ 24, acc := (c.acc + f) % 2 ^ 24, n := 0 }

/-- RESET: count and prescaler state to 0, and a count begins; an armed counter waits again (R70). The judgement of CMP
ends with the lap that the reset cuts off (notes/assumptions/57.md). -/
def resetCount (p f : Nat) (c : Counter) : Counter :=
  { beginCount p f { c with acc := 0 } with count := 0, started := false, cmpHeld := false }

/-- What one forward input event did: a match, a lap, a lap that a period write cut short. -/
structure Step where
  matched : Bool
  lapped : Bool
  short : Bool
  deriving DecidableEq, Repr

/-- One forward count (R66, R68, R69). A CMP that was at or below the count when its write took effect matches from the
end of that lap on. -/
def advanceCount (period cmp : Nat) (c : Counter) : Counter × Step :=
  let lap := decide (period ≤ c.count + 1)
  let count := if lap then 0 else c.count + 1
  let held := c.cmpHeld && !lap
  ({ c with count := count, cmpHeld := held },
    ⟨count == cmp && decide (cmp < period) && !held, lap, decide (period ≤ c.count)⟩)

/-- One forward input event through the prescaler (R65). -/
def forwardEvent (p f period cmp : Nat) (c : Counter) : Counter × Step :=
  if c.n + 1 = c.need then
    let (c', e) := advanceCount period cmp c
    (beginCount p f c', e)
  else ({ c with n := c.n + 1 }, ⟨false, false, false⟩)

/-- One reverse input event; true where it passed 0 (R67). -/
def reverseEvent (period : Nat) (c : Counter) : Counter × Bool :=
  if 0 < c.n then ({ c with n := c.n - 1 }, false)
  else if c.count = 0 then ({ c with count := period - 1, n := c.need - 1 }, true)
  else ({ c with count := c.count - 1, n := c.need - 1 }, false)

/-- `k` forward input events as if one at a time: the counter, whether it matched, how many laps it made, whether one
was short; it stops at a lap end where `once`, and the rest of the burst is lost to it (R70, R81, R82;
notes/assumptions/57.md). -/
def burst (p f period cmp : Nat) (once : Bool) : Nat → Counter × Bool × Nat × Bool → Counter × Bool × Nat × Bool
  | 0, a => a
  | k + 1, (c, m, l, sh) =>
    if once && decide (0 < l) then (c, m, l, sh)
    else
      let (c', e) := forwardEvent p f period cmp c
      burst p f period cmp once k (c', m || e.matched, l + boolBit e.lapped, sh || e.short)

/-- An input event is raised for every counter whose source is `src`, with its qualifier as `sel` says (Table PTC-1). -/
def State.raiseInput (s : State) (src : Nat) (sel : Nat → Bool) (rev : Bool) : State :=
  (List.range 8).foldl (fun s k =>
    if s.reg (F.PTC_CNT_CTL_SRC k) = src ∧ sel (s.reg (F.PTC_CNT_CTL_SRC_SEL k)) = true then
      s.setCnt k { s.cnt k with inDue := (s.cnt k).inDue ++ [rev] }
    else s) s

/-- The latch of a port on the register at `off` (R59). -/
def latchKey (port off : Nat) : Nat := port * 2 ^ 32 + off

/-- Some port holds a latch on the register at `off`. -/
def State.latched (s : State) (off : Nat) : Bool :=
  (Assoc.find s.ptc.latches (latchKey 0 off)).isSome || (Assoc.find s.ptc.latches (latchKey 1 off)).isSome

/-- A capture of counter `n` with the press time `t` (R72, R73). -/
def State.capture (s : State) (n : Nat) (t : PressTime) : State :=
  if s.latched (F.PTC_CNT_CAPT_PT_V n).off then
    match (s.cnt n).capt2 with
    | none =>
      (s.setCnt n { s.cnt n with capt2 := some ((s.cnt n).count, t) }).setFlag (F.PTC_CNT_STAT_CAPT_PEND n) true
    | some _ => (s.setFlag (F.PTC_CNT_STAT_CAPT_OVR n) true).log 0x0181 [(1, n)]
  else (s.setReg (F.PTC_CNT_CAPT_CNT_V n) (s.cnt n).count).setReg (F.PTC_CNT_CAPT_PT_V n) t.toNat

/-- A capture of counter `n` by an event of the module: it stores the count after the input events raised before it
(R71, step 5 after step 3). -/
def State.captureInTurn (s : State) (n : Nat) (t : PressTime) : State :=
  match (s.cnt n).inDue with
  | [] => s.capture n t
  | l => s.setCnt n { s.cnt n with captDue := (s.cnt n).captDue ++ [(l.length, t)] }

/-- An input event of counter `n` has been counted: the captures that waited for it alone are taken (R71, R72). -/
def State.takeCaptures (s : State) (n : Nat) : State :=
  let due := (s.cnt n).captDue.map (fun x => (x.1 - 1, x.2))
  let s := s.setCnt n { s.cnt n with captDue := due.filter (fun x => x.1 != 0) }
  (due.filter (fun x => x.1 == 0)).foldl (fun (s : State) x => s.capture n x.2) s

/-- Captures of every counter whose source is `src`, with its qualifier as `sel` says (R72). -/
def State.captureBy (s : State) (src : Nat) (sel : Nat → Bool) (t : PressTime) : State :=
  (List.range 8).foldl (fun s k =>
    if s.reg (F.PTC_CNT_CAPTCTL_CAPT_SRC k) = src ∧ sel (s.reg (F.PTC_CNT_CAPTCTL_CAPT_SEL k)) = true then
      s.captureInTurn k t
    else s) s

/-- A second-stage capture moves into the capture registers once no port holds a latch (R73). -/
def State.captureReleased (s : State) (n : Nat) : State :=
  if s.latched (F.PTC_CNT_CAPT_PT_V n).off then s
  else
    match (s.cnt n).capt2 with
    | none => s
    | some (c, t) =>
      (((s.setCnt n { s.cnt n with capt2 := none }).setFlag (F.PTC_CNT_STAT_CAPT_PEND n) false).setReg
        (F.PTC_CNT_CAPT_CNT_V n) c).setReg (F.PTC_CNT_CAPT_PT_V n) t.toNat

/-- A port's latch on the register at `off` is released (R60), with the capture that waited for it (R73). -/
def State.releaseLatch (s : State) (port off : Nat) : State :=
  let s := { s with ptc := { s.ptc with latches := Assoc.erase s.ptc.latches (latchKey port off) } }
  (List.range 8).foldl (fun s k => if (F.PTC_CNT_CAPT_PT_V k).off = off then s.captureReleased k else s) s

/-- CNT_EVENT for a match or lap of counter `n`, under the rate limit (R84), whose ticks are those of press time
(notes/assumptions/57.md). -/
def State.logCount (s : State) (n : Nat) (lap : Bool) : State :=
  let wanted := if lap then s.flag (F.PTC_CNT_CTL_LOG_LAP n) else s.flag (F.PTC_CNT_CTL_LOG_MATCH n)
  if wanted then
    let free := match (s.cnt n).lastLog with
      | none => true
      | some t => decide (65536 ≤ (s.pt - t).toNat)
    if free then
      (s.setCnt n { s.cnt n with lastLog := some s.pt }).log 0x0187
        [(1, n), (1, (Config.cntEventKind lap).toNat), (4, (s.cnt n).count), (8, s.pt.toNat)]
    else s.addReg (F.PTC_CNT_STAT_LOG_MISSED n) 1
  else s

/-- RESET and START actions raised for the counters of two masks, due in the next cycle (R70, R71). -/
def State.raiseLinks (s : State) (rst start : Nat) : State :=
  (List.range 8).foldl (fun s k =>
    let c := s.cnt k
    s.setCnt k { c with rstDue := c.rstDue || bitAt rst k, startDue := c.startDue || bitAt start k }) s

/-- CMP of counter `n` is judged as its write takes effect (R68). -/
def State.judgeCmp (s : State) (n : Nat) : State :=
  s.setCnt n { s.cnt n with cmpHeld := decide (s.reg (F.PTC_CNT_CMP_V n) ≤ (s.cnt n).count) }

/-- Counter `k` captures the match of counter `n`; its own match it stores at once, with the count that matched (R71,
R72). -/
def State.captureMatch (s : State) (n k : Nat) : State :=
  if s.reg (F.PTC_CNT_CAPTCTL_CAPT_SRC k) = 6 ∧ s.reg (F.PTC_CNT_CAPTCTL_CAPT_SEL k) = n then
    if k = n then s.capture k s.pt else s.captureInTurn k s.pt
  else s

/-- A match event of counter `n`, up to the captures it makes (R68, R71, R72, R84). -/
def State.matchEvent (s : State) (n : Nat) : State :=
  let s := (s.setFlag (F.PTC_CNT_STAT_MATCHED n) true).logCount n false
  (List.range 8).foldl (fun (s : State) k => s.captureMatch n k) s

/-- What a match of counter `n` raises for the next cycle (R70, R71). -/
def State.matchRaises (s : State) (n : Nat) : State :=
  let s := s.raiseInput 10 (fun k => k == n) false
  s.raiseLinks (s.reg (F.PTC_CNT_LINK_MATCH_RST n)) (s.reg (F.PTC_CNT_LINK_MATCH_START n))

/-- A lap event of counter `n`; a one-shot armed counter stops (R66, R70 to R72, R84). -/
def State.lapEvent (s : State) (n : Nat) : State :=
  let s := (s.setFlag (F.PTC_CNT_STAT_LAPPED n) true).logCount n true
  let s := if s.flag (F.PTC_CNT_CTL_ONESHOT n) then s.setCnt n { s.cnt n with started := false } else s
  let s := s.raiseInput 11 (fun k => k == n) false
  s.raiseLinks (s.reg (F.PTC_CNT_LINK_LAP_RST n)) (s.reg (F.PTC_CNT_LINK_LAP_START n))

/-- A counter's step up to the captures of its match (R71, steps 4 and 5). -/
def State.stepEvents (s : State) (n : Nat) (e : Step) : State :=
  let s := if e.short then s.setFlag (F.PTC_CNT_STAT_SHORT_LAP n) true else s
  if e.matched then s.matchEvent n else s

/-- What a counter's step raises after those captures: its lap event, and what match and lap mean to other counters
(R71, steps 4 and 6). -/
def State.stepRaises (s : State) (n : Nat) (e : Step) : State :=
  let s := if e.matched then s.matchRaises n else s
  if e.lapped then s.lapEvent n else s

/-- What a counter's step raises, in the order of R71. -/
def State.raiseStep (s : State) (n : Nat) (e : Step) : State := (s.stepEvents n e).stepRaises n e

/-- One input event of counter `n`, where it runs (R65, R67). -/
def State.countEvent (s : State) (n : Nat) (rev : Bool) : State :=
  if s.cntRuns n then
    if rev then
      let (c, back) := reverseEvent (s.period n) (s.cnt n)
      let s := s.setCnt n c
      if back then s.setFlag (F.PTC_CNT_STAT_BACKLAP n) true else s
    else
      let (c, e) := forwardEvent (s.reg (F.PTC_CNT_PRESC_P n)) (s.reg (F.PTC_CNT_FRAC_F n)) (s.period n)
        (s.reg (F.PTC_CNT_CMP_V n)) (s.cnt n)
      (s.setCnt n c).raiseStep n e
  else s

/-- RESET of counter `n` (R70). -/
def State.resetCnt (s : State) (n : Nat) : State :=
  s.setCnt n (resetCount (s.reg (F.PTC_CNT_PRESC_P n)) (s.reg (F.PTC_CNT_FRAC_F n)) (s.cnt n))

/-- START of counter `n`; it means nothing to a counter with ARM = 0 (R70). -/
def State.startCnt (s : State) (n : Nat) : State :=
  if s.flag (F.PTC_CNT_CTL_ARM n) then s.setCnt n { s.cnt n with started := true } else s

/-- STOP of counter `n`; an armed counter then waits for START (R71). -/
def State.stopCnt (s : State) (n : Nat) : State := s.setCnt n { s.cnt n with started := false }

/-- The actions that waited for this cycle: RESETs, then STARTs (R71). -/
def State.linkCycle (s : State) : State :=
  (List.range 8).foldl (fun s k =>
    let c := s.cnt k
    let s := if c.rstDue then s.resetCnt k else s
    let s := if c.startDue then s.startCnt k else s
    s.setCnt k { s.cnt k with rstDue := false, startDue := false }) s

/-- Input events that an LFCLK edge brings to a counter of source `src`, and its accumulators after it (R81). -/
def lfEvents (src : Nat) (c : Counter) : Nat × Counter :=
  match src with
  | 1 =>
    if 2048 ≤ c.lfTclk + 47 then (2862, { c with lfTclk := c.lfTclk + 47 - 2048 })
    else (2861, { c with lfTclk := c.lfTclk + 47 })
  | 2 =>
    if 128 ≤ c.lfXref + 97 then (3052, { c with lfXref := c.lfXref + 97 - 128 })
    else (3051, { c with lfXref := c.lfXref + 97 })
  | 3 => (1, c)
  | _ => (0, c)

/-- The burst of counter `n` at an LFCLK edge, where it runs, and what it did (R71, step 3; R81, R82). -/
def State.lfBurst (s : State) (n : Nat) : Step × State :=
  if s.cntRuns n then
    let (k, c) := lfEvents (s.reg (F.PTC_CNT_CTL_SRC n)) (s.cnt n)
    let once := s.flag (F.PTC_CNT_CTL_ONESHOT n) && s.flag (F.PTC_CNT_CTL_ARM n)
    let (c', m, laps, sh) := burst (s.reg (F.PTC_CNT_PRESC_P n)) (s.reg (F.PTC_CNT_FRAC_F n)) (s.period n)
      (s.reg (F.PTC_CNT_CMP_V n)) once k (c, false, 0, false)
    let s := s.setCnt n c'
    let s := if 2 ≤ laps then s.setFlag (F.PTC_CNT_STAT_MULTI_LAP n) true else s
    (⟨m, decide (0 < laps), sh⟩, s)
  else (⟨false, false, false⟩, s)

/-- The bursts of every counter at an LFCLK edge, then the captures of their matches, then what they raise: the events
that one counter raises for another come in the next cycle (R71, R82). -/
def State.lfBursts (s : State) : State :=
  let (steps, s) := (List.range 8).foldl (fun (a : List Step × State) k =>
    let (e, s) := a.2.lfBurst k
    (a.1 ++ [e], s)) ([], s)
  let step (k : Nat) : Step := steps[k]?.getD ⟨false, false, false⟩
  let s := (List.range 8).foldl (fun (s : State) k => s.stepEvents k (step k)) s
  (List.range 8).foldl (fun (s : State) k => s.stepRaises k (step k)) s

/-! ### Press time from LFCLK (R80, R81) -/

/-- One LFCLK increment of press time (R80). -/
def State.lfIncrement (s : State) : State :=
  let a := s.ptc.lfAcc + 47
  if 128 ≤ a then { s with pt := s.pt + 45777, ptc := { s.ptc with lfAcc := a - 128 } }
  else { s with pt := s.pt + 45776, ptc := { s.ptc with lfAcc := a } }

/-- The LFCLK edge at which press time leaves the ticks or the HKCLK advance (R80, R419). The fractions of the counters'
bursts go on from where they stood (notes/assumptions/65.md). -/
def State.lfEnter (s : State) : State :=
  let s := { s with clk := { s.clk with ptMode := .lf }, ptc := { s.ptc with lfAcc := 0 } }
  (s.setFlag F.PTC_PT_CTL_LF true).log 0x0185 [(8, s.pt.toNat)]

/-- The LFCLK edge at which press time returns to ticks (R80). -/
def State.lfExit (s : State) : State :=
  let s := s.lfIncrement
  let s := { s with clk := { s.clk with ptMode := .ticks } }
  (s.setFlag F.PTC_PT_CTL_LF false).log 0x0186 [(8, s.pt.toNat)]

/-- What an LFCLK rising edge does to press time and the counters (R80 to R82). The edge that ends the HKCLK advance of
R419 brings the counters nothing (notes/assumptions/65.md); an entry to SLEEP does not go back to ticks (R442). -/
def State.lfEdge (s : State) : State :=
  match s.clk.ptMode with
  | .off => s
  | .ticks => s
  | .lfEnter => s.lfEnter
  | .hk => s.lfEnter
  | .lf => (if s.tclkRuns && !s.hkp.sleeping then s.lfExit else s.lfIncrement).lfBursts

/-! ### Meanings -/

/-- PT_LOAD (R56): on the head, with Thyme stopped, press time takes `PTC_PT_LOAD`. -/
def State.loadPt (s : State) : State :=
  if !s.isHead then s.writeIgnored 0x10010 4
  else if s.isRunning then s.writeIgnored 0x10010 1
  else { s with pt := BitVec.ofNat 64 (s.reg F.PTC_PT_LOAD_V), arr := { s.arr with killAt := none } }

def execPtLoad (s : State) : Res := .next (s.hostAction 0x10010 (fun s => s.loadPt))

/-- CNT_START (R70, R71). -/
def execCntStart (n : Nat) (s : State) : Res :=
  .next (s.hostAction (F.PTC_CNT_CTL_START n).off (fun s => if n < 8 then s.startCnt n else s))

/-- CNT_STOP (R71). -/
def execCntStop (n : Nat) (s : State) : Res :=
  .next (s.hostAction (F.PTC_CNT_CTL_STOP n).off (fun s => if n < 8 then s.stopCnt n else s))

/-- CNT_RST (R70, R71). -/
def execCntRst (n : Nat) (s : State) : Res :=
  .next (s.hostAction (F.PTC_CNT_CTL_RST n).off (fun s => if n < 8 then s.resetCnt n else s))

/-- CAPT_NOW (R72): the press time is the cycle of the capture. -/
def execCaptNow (n : Nat) (s : State) : Res :=
  .next (s.hostAction (F.PTC_CNT_CAPTCTL_CAPT_NOW n).off (fun s => if n < 8 then s.capture n s.pt else s))

/-- The oldest input event raised inside the module for counter `n` is taken (R63, R64). -/
def State.takeInput (s : State) (n : Nat) : State :=
  match (s.cnt n).inDue with
  | [] => s
  | rev :: r => ((s.setCnt n { s.cnt n with inDue := r }).countEvent n rev).takeCaptures n

/-- TCLK, XREF and LFCLK reach the counters as single edges: press time counts ticks (R64, R80, R81). -/
def State.edgesCount (s : State) : Bool := s.clk.ptMode == .ticks || s.clk.ptMode == .lfEnter

/-- COUNTER_INPUT_EVENT (R63 to R69): an event of TCLK/16, XREF or LFCLK comes from outside; one of any other source
is the oldest that the module has raised. While press time advances from LFCLK the first three come in bursts (R81). -/
def execCounterInputEvent (n : Nat) (s : State) : Res :=
  .next (if n < 8 then
    match s.reg (F.PTC_CNT_CTL_SRC n) with
    | 0 => s
    | 1 => if s.edgesCount then s.countEvent n false else s
    | 2 => if s.edgesCount then s.countEvent n false else s
    | 3 => if s.edgesCount then s.countEvent n false else s
    | _ => s.takeInput n
  else s)

/-- LINK_ACTION (R70, R71). -/
def execLinkAction (s : State) : Res := .next s.linkCycle

/-- POS_CLR (R85). -/
def State.clearPos (s : State) : State := { s with ptc := { s.ptc with pos := 0 } }

def execPosClr (s : State) : Res := .next (s.hostAction 0x10400 (fun s => s.clearPos))

/-- SNAP (R79): a copy of the edge FIFO is requested. -/
def State.requestSnap (s : State) : State :=
  ({ s with ptc := { s.ptc with snapDue := true } }.setFlag F.PTC_EDGE_CTL_SNAP true).setFlag F.PTC_EDGE_CTL_SNAP_VALID
    false

def execSnap (s : State) : Res := .next (s.hostAction 0x10450 (fun s => s.requestSnap))

/-- SNAP_COMPLETE (R79): the window holds all 64 entries, entry 0 the newest. -/
def execSnapComplete (s : State) : Res :=
  .next (if s.ptc.snapDue then
    ({ s with ptc := { s.ptc with snap := s.ptc.edges, snapDue := false } }.setFlag F.PTC_EDGE_CTL_SNAP
      false).setFlag F.PTC_EDGE_CTL_SNAP_VALID true
  else s)

/-- The encoder block is powered: not in SLEEP (R83). -/
def State.encPowered (s : State) : Bool := s.boot.supply == .run

/-- The encoder and its timestamps are at LF resolution: debug halt, or press time from HKCLK or LFCLK (R83, R419). -/
def State.lfRes (s : State) : Bool := s.clk.halted || s.clk.ptMode == .hk || s.clk.ptMode == .lf

/-- The press time that an accepted edge which crossed its threshold at `t` carries (R77, R83). -/
def State.edgeTime (s : State) (t : PressTime) : PressTime := if s.lfRes then s.pt else t

/-- ENC_Z_INDEX (R78, R72, R83, R119): an accepted edge of ENC_Z. -/
def State.zIndex (s : State) (level : Bool) (t : PressTime) : State :=
  if !s.encPowered then s
  else
    let t := s.edgeTime t
    let s := { s with ptc := { s.ptc with encZ := level } }
    let edge := level != s.flag F.PTC_ENC_CTL_Z_EDGE
    let open_ := !s.flag F.PTC_ENC_CTL_Z_GATE || (s.ptc.encA && s.ptc.encB)
    if edge && open_ then
      let s := (s.setReg F.PTC_ENC_Z_POS_V (s.ptc.pos.signExtend 64).toNat).setReg F.PTC_ENC_Z_PT_V t.toNat
      let s := s.setFlag F.PTC_ENC_STAT_Z_SEEN true
      let s := if s.flag F.PTC_ENC_CTL_Z_RST then s.clearPos else s
      let s := s.captureBy 1 (fun _ => true) t
      if s.isHead && s.flag F.THY_SEG_SRC_Z then { s with thy := { s.thy with reqZ := true } } else s
    else s

def execEncZIndex (level : Bool) (t : PressTime) (s : State) : Res := .next (s.zIndex level t)

end Sys2Proof.Machine
end

