-- ==== Sys2Proof/Machine/Array.lean ====
section
/-! DEFINITION. The pixel array: shutters, storage nodes, strobes, watchdogs, kills and flush frames
(01_pixel_array_and_exposure.md). -/

namespace Sys2Proof.Machine

/-! ### Strobes (R39 to R43) -/

/-- Strobe pin `n`. -/
def State.strobe (s : State) (n : Nat) : StrobePin := s.arr.strobes[n]?.getD .z

/-- Strobe pin `n` driven as given. -/
def State.setStrobe (s : State) (n : Nat) (p : StrobePin) : State :=
  { s with arr := { s.arr with strobes := s.arr.strobes.set n p } }

/-- Strobe `n` is forced low until its next scheduled rising edge (R41, R42). -/
def State.setForced (s : State) (n : Nat) (b : Bool) : State :=
  { s with arr := { s.arr with strobeForced := s.arr.strobeForced.set n b } }

/-- A pin once the device drives it low; a high-impedance pin stays so (R43). -/
def StrobePin.lowered : StrobePin → StrobePin
  | .z => .z
  | _ => .low

/-- All strobes forced low for cause `c` of Table ARR-5: the condition stays present while `stays`; cause 3 releases
the pins to high-impedance (R42, R43). Under EXTEST or INTEST the kill does not act (R476). -/
def State.killStrobes (s : State) (c : Nat) (stays : Bool) : State :=
  let s := if stays then { s with arr := { s.arr with kills := withBit s.arr.kills (c - 1) true } } else s
  if s.jtag.scan then s
  else
    let s := { s with arr := { s.arr with
      strobes := s.arr.strobes.map (fun (p : StrobePin) => if c = 3 then StrobePin.z else p.lowered),
      strobeForced := s.arr.strobeForced.map (fun _ => true), killAt := some s.pt } }
    (s.setReg F.ARR_STRB_STAT_KILL_CAUSE c).log 0x0202 [(1, c)]

/-- Kill condition `c` is no longer present (R42). -/
def State.unkill (s : State) (c : Nat) : State :=
  { s with arr := { s.arr with kills := withBit s.arr.kills (c - 1) false } }

/-- The device drives the strobes from the moment configuration is applied (R43). -/
def State.driveStrobes (s : State) : State :=
  { s with arr := { s.arr with strobes := s.arr.strobes.map (fun (p : StrobePin) => if p = .z then .low else p) } }

/-- `ARR_STRB_STAT.FORCED` (Table ARR-15). -/
def State.forcedMask (s : State) : Nat :=
  (List.range 6).foldl (fun m n =>
    if s.arr.kills != 0 || (s.arr.strobeForced[n]?.getD false) || !bitAt (s.reg F.ARR_STRB_EN_EN) n
        || s.reg (F.ARR_STRB_MAXON_MAXON n) == 0 then m + 2 ^ n else m) 0

/-- A scheduled rising edge of strobe `n` under configuration `c` (R41, R42); in the tick of a kill it has no effect. -/
def State.strobeRise (s : State) (c : Cfg) (n : Nat) : State :=
  if s.arr.kills != 0 || s.arr.killAt == some s.pt then s
  else if bitAt (c.get F.ARR_STRB_EN_EN) n && c.get (F.ARR_STRB_MAXON_MAXON n) != 0 then
    (s.setStrobe n (.high s.pt)).setForced n false
  else s.setForced n false

/-- A scheduled falling edge of strobe `n`. -/
def State.strobeFall (s : State) (n : Nat) : State := s.setStrobe n (s.strobe n).lowered

/-! ### Pixel events (R27, R33, R34) -/

/-- The photodiodes and storage nodes of group `g`. -/
def State.pix (s : State) (g : Nat) : GroupPix := s.arr.groups[g]?.getD ⟨none, 0, []⟩

def State.setPix (s : State) (g : Nat) (p : GroupPix) : State :=
  { s with arr := { s.arr with groups := s.arr.groups.set g p } }

/-- The photodiodes of every group held in reset (R34). -/
def State.holdPixels (s : State) : State :=
  { s with arr := { s.arr with groups := s.arr.groups.map (fun p => { p with openAt := none, rows := 0 }) } }

/-- One pixel event of group `g`, which converts `rows` rows, at program tick `t`: 1 OPEN, 2 TX, 3 SNR (R27, R44). -/
def State.pixelEvent (s : State) (kind t rows g : Nat) : State :=
  let p := s.pix g
  match kind with
  | 1 => s.setPix g { p with openAt := some t, rows := rows }
  | 2 =>
    match p.openAt with
    | some o => s.setPix g ⟨none, 0, p.windows ++ [(o, t, p.rows)]⟩
    | none => s
  | _ => s.setPix g { p with windows := [] }

/-- One step word acts on its mask under the configuration of its line; events of a disabled group are ignored
(R33, R87). -/
def State.programStep (s : State) (c : Cfg) (st : Nat × Nat × Nat) : State :=
  let (t, kind, mask) := st
  (List.range 6).foldl (fun s n =>
    if bitAt mask n then
      match kind with
      | 1 => if c.grpEn n then s.pixelEvent 1 t (c.rowsOf n) n else s
      | 2 => if c.grpEn n then s.pixelEvent 2 t (c.rowsOf n) n else s
      | 3 => if c.grpEn n then s.pixelEvent 3 t (c.rowsOf n) n else s
      | 4 => s.strobeRise c n
      | 5 => s.strobeFall n
      | _ => s
    else s) s

/-- The steps at the front of a list that carry tick `t`. -/
def stepsAt (t : Nat) (l : List (Nat × Nat × Nat)) : List (Nat × Nat × Nat) := l.takeWhile (fun x => x.1 == t)

/-- The ledger entry of line `l`. -/
def State.lineInfo (s : State) (l : LineNo) : Option LineInfo := s.lines.find? (fun i => i.ln == l)

/-- The configuration a line runs under, or the one in force. -/
def State.lineCfg (s : State) (l : LineNo) : Cfg :=
  match s.lineInfo l with
  | some i => i.cfg
  | none => s.regs

/-- The next steps of the oldest running line: all that carry its next tick (R87). -/
def State.runSteps (s : State) : State :=
  match s.thy.running with
  | [] => s
  | r :: rs =>
    match r.steps with
    | [] => { s with thy := { s.thy with running := rs } }
    | st :: _ =>
      let now := stepsAt st.1 r.steps
      let left := r.steps.drop now.length
      let s := now.foldl (fun s x => s.programStep (s.lineCfg r.ln) x) s
      { s with thy := { s.thy with running := if left = [] then rs else { r with steps := left } :: rs } }

/-- The LN that an event of the running program names. -/
def State.runningLn (s : State) : LineNo :=
  match s.thy.running with
  | r :: _ => r.ln
  | [] => BitVec.ofNat 48 (s.reg F.THY_LN_V)

/-- STRB_MAXON (R41): the watchdog of a strobe that is high ends; it does not act under EXTEST or INTEST (R476). -/
def State.watchdog (s : State) (n : Nat) : State :=
  if s.jtag.scan then s
  else match s.strobe n with
  | .high _ =>
    let s := (s.setStrobe n .low).setForced n true
    (s.setBitOf F.ARR_STRB_STAT_MAXON_HIT n).log 0x0201 [(1, n), (6, s.runningLn.toNat)]
  | _ => s

def execStrbMaxon (n : Nat) (s : State) : Res := .next (s.watchdog n)

/-- The level of land STRBn: the boundary register's under EXTEST or INTEST (R476), else the device's; none is
high-impedance, as it is without the main rails (R43, R474). -/
def State.strobeLand (s : State) (n : Nat) : Option Bool :=
  if !s.mainPower then none
  else if s.jtag.scan then some (bitAt s.jtag.strobes n)
  else match s.strobe n with
  | .z => none
  | .low => some false
  | .high _ => some true

/-- KILL_CLR (Table ARR-15). -/
def State.clearKillCause (s : State) : State :=
  if s.arr.kills = 0 then s.setReg F.ARR_STRB_STAT_KILL_CAUSE 0 else s

def execKillClr (s : State) : Res := .next (s.hostAction 0x30340 (fun s => s.clearKillCause))

/-- `ARR_STAT.HELD` (R34, Table ARR-17): before configuration is applied, with TCLK gated or halted, in the thermal
hold, in SLEEP, or stopped with no launched line still running its program. -/
def State.pixelsHeld (s : State) : Bool :=
  !s.tclkRuns || s.boot.supply != .run || s.flag F.HKP_THERM_HOLD || decide (s.reg F.CFG_BOOT_STAT_PHASE < 5)
    || (!s.isRunning && s.thy.running.isEmpty)

/-- A launched line that still has a step or a frame to run (R57). -/
def State.lineInFlight (s : State) : Bool :=
  !s.thy.running.isEmpty || s.arr.unconverted.isSome || !s.arr.frames.isEmpty
    || s.thy.armed.any (fun a => !a.skip)

/-! ### The flush hold (R28, R112) -/

/-- The end of the flush hold after a last launch at `t` with frame length `f` (R101, R112). -/
def holdEnd (t : PressTime) (f : Nat) : PressTime := t + BitVec.ofNat 64 (65536 + f + 33)

/-- Press time `x` falls inside the flush hold that follows a last launch (R101). -/
def insideHold (x t : PressTime) (f : Nat) : Bool :=
  decide (0 < signedDiff x (t + 65536)) && decide (signedDiff x (holdEnd t f) < 0)

/-- TRIG_OUT pulses (R122). -/
def State.pulseTrigOut (s : State) : State :=
  match s.thy.trigOut with
  | none => s
  | some _ => if s.thermDown then s else { s with thy := { s.thy with trigOut := some true } }

/-- TRIG_OUT_PULSE_END (R122). -/
def execTrigOutPulseEnd (s : State) : Res :=
  .next (match s.thy.trigOut with
    | none => s
    | some _ => { s with thy := { s.thy with trigOut := some false } })

end Sys2Proof.Machine
end

