-- ==== Sys2Proof/Machine/Thyme.lean ====
section
/-! DEFINITION. Thyme on the head: the velocity estimate, the divide prescaler, the trigger input, boundary requests
and the issue of actions (03_thyme_line_launch.md). -/

namespace Sys2Proof.Machine

/-! ### Lead (R97) -/

/-- L_min (R97). -/
def State.lmin (s : State) : Nat := (s.reg F.CHV_POS_N - 1) * 270 + 256

/-- LEAD_EFF (R97). -/
def State.leadEff (s : State) : Nat := max (s.reg F.THY_LEAD_LEAD) s.lmin

/-- LEAD_RAISED, once after each training (R97). -/
def State.checkLead (s : State) : State :=
  if s.reg F.THY_LEAD_LEAD < s.leadEff then
    let s := s.setFlag F.THY_STAT_LEAD_RAISED true
    if s.thy.leadLogged then s
    else { s with thy := { s.thy with leadLogged := true } }.log 0x0108
      [(2, s.leadEff), (2, s.reg F.THY_LEAD_LEAD)]
  else s.setFlag F.THY_STAT_LEAD_RAISED false

/-! ### The estimator (R101, R103) -/

/-- The 48-bit position of an edge FIFO entry, extended from the present position (R101). -/
def State.entryPos (s : State) (e : EdgeEntry) : Int :=
  s.ptc.pos.toInt - signedOf 32 ((BitVec.ofNat 32 s.ptc.pos.toNat - BitVec.ofNat 32 e.posLo).toNat)

/-- A number kept in a signed 64-bit variable (R101). -/
def int64 (x : Int) : Int := signedOf 64 (codeOf 64 x)

/-- The estimate after a count has entered the edge FIFO (R101). -/
def State.estimate (s : State) : State :=
  let win := s.reg F.THY_VEL_WIN
  let s := { s with thy := { s.thy with entries := s.thy.entries + 1 } }
  if s.thy.entries < win + 1 then { s with thy := { s.thy with tc := 0 } }
  else
    match s.ptc.edges[0]?, s.ptc.edges[win]? with
    | some e0, some ew =>
      let dn := s.entryPos e0 - s.entryPos ew
      if dn ≤ 0 then { s with thy := { s.thy with tc := 0 } }
      else
        let raw := (e0.pt - ew.pt).toNat * 65536 % 2 ^ 64 / dn.toNat
        let tc := if s.thy.tc = 0 then raw
          else codeOf 64 (Int.ofNat s.thy.tc +
            shiftDown (signedOf 64 (codeOf 64 (Int.ofNat raw - Int.ofNat s.thy.tc))) (s.reg F.THY_VEL_SHIFT))
        let s := { s with thy := { s.thy with tc := tc } }
        if tc = 0 then s else s.setFlag F.THY_STAT_STALLED false
    | _, _ => { s with thy := { s.thy with tc := 0 } }

/-- The divide prescaler takes one count; a completed line is due LEAD_EFF after its acceptance (R100). -/
def State.divideCount (s : State) (rev : Bool) : State :=
  let t := s.thy
  if rev then
    if 0 < t.divN then { s with thy := { t with divN := t.divN - 1 } }
    else { s with thy := { t with divN := t.divNeed - 1 } }
  else if t.divN + 1 = t.divNeed then
    let f := s.reg F.THY_DIV_F_V
    { s with thy := { t with
        divNeed := s.reg F.THY_DIV_P_V + (t.divAcc + f) / 2 ^ 24, divAcc := (t.divAcc + f) % 2 ^ 24, divN := 0,
        due := if s.isRunning then t.due ++ [s.pt + BitVec.ofNat 64 s.leadEff] else t.due } }
  else { s with thy := { t with divN := t.divN + 1 } }

/-- What a decoded count with press time `t` does on the head (R100, R101, R103). -/
def State.headCount (s : State) (rev : Bool) (t : PressTime) : State :=
  if s.isHead then
    let s := { s with thy := { s.thy with lastCount := some t, stallLogged := false } }
    let s := s.estimate
    if s.reg F.THY_CTL_MODE = 0 ∧ s.reg F.THY_CTL_INTERP = 0 then s.divideCount rev else s
  else s

/-! ### The encoder's counts (R75 to R79) -/

/-- A count of the decoder: position, edge FIFO, counter source 5, and the head's use of it (R75, R79). -/
def State.encoderCount (s : State) (rev pin : Bool) (t : PressTime) : State :=
  let t := s.edgeTime t
  let lf := s.lfRes
  let pos := if rev then s.ptc.pos - 1 else s.ptc.pos + 1
  let e : EdgeEntry := ⟨t, pos.toNat % 2 ^ 32, rev, pin, lf, true, s.ptc.encSeq⟩
  let s := { s with ptc := { s.ptc with
    pos := pos, encSeq := (s.ptc.encSeq + 1) % 65536, edges := (e :: s.ptc.edges).take 64 } }
  ((s.setFlag F.PTC_ENC_STAT_DIR rev).raiseInput 5 (fun _ => true) rev).headCount rev t

/-- ENC_COUNT: the levels of ENC_A and ENC_B accepted in one tick (R75 to R77, R83). -/
def State.encoderEdge (s : State) (a b : Option Bool) (t : PressTime) : State :=
  if !s.encPowered then s
  else
    let a0 := s.ptc.encA
    let b0 := s.ptc.encB
    let s := { s with ptc := { s.ptc with encA := a.getD a0, encB := b.getD b0 } }
    let s := match a with
      | some v => if v != a0 then s.raiseInput 4 (fun sel => sel == 2 || (sel == 0) == v) false else s
      | none => s
    let mode := s.reg F.PTC_ENC_CTL_MODE
    let inv := s.flag F.PTC_ENC_CTL_INVERT
    match a, b with
    | some _, some _ =>
      ((s.setFlag F.PTC_ENC_STAT_QUAD_ERR true).addReg F.PTC_ENC_STAT_QUAD_ERRS 1).log 0x0182 [(8, s.pt.toNat)]
    | some v, none =>
      let rev := (v == b0) != inv
      if v != a0 && ((mode == 1 && v) || mode == 2 || mode == 3) then s.encoderCount rev false t else s
    | none, some v =>
      let rev := (v != a0) != inv
      if v != b0 && mode == 3 then s.encoderCount rev true t else s
    | none, none => s

def execEncCount (a b : Option Bool) (t : PressTime) (s : State) : Res := .next (s.encoderEdge a b t)

/-- ENC_STALL (R103): once for each spell without a count; the press time is 0 where no count has ever been accepted
(notes/assumptions/58.md). -/
def execEncStall (s : State) : Res :=
  .next (if s.isHead && !s.thy.stallLogged then
    ({ s with thy := { s.thy with tc := 0, entries := 0, stallLogged := true } }.setFlag F.THY_STAT_STALLED true).log 0x0102
      [(8, (s.thy.lastCount.getD 0).toNat)]
  else s)

/-! ### Boundaries (R119, R120) -/

/-- SEG_SUPPRESSED for each source whose CAUSE bit is in `req` (R120). -/
def State.suppress (s : State) (req : Nat) : State :=
  [1, 2, 3].foldl (fun s b =>
    if bitAt req b then
      (s.setFlag F.THY_STAT_SEG_SUPP true).log 0x0104 [(1, (Config.boundarySource b).toNat), (6, s.thy.ln.toNat)]
    else s) s

/-- Whether the next line opens a segment, with its CAUSE, and the state with the requests used up (R119, R120). -/
def State.boundaryHere (s : State) : Option Nat × State :=
  let req := 2 * boolBit s.thy.reqZ + 4 * boolBit s.thy.reqLvl + 8 * boolBit s.thy.reqHost
  let n := s.thy.sinceBoundary
  let s := { s with thy := { s.thy with reqZ := false, reqLvl := false, reqHost := false } }
  if s.thy.first then (some (16 + req), s)
  else
    let len := s.flag F.THY_SEG_SRC_LEN && n == s.reg F.THY_SEG_SEGLEN
    if n < 64 then (if len then (some 1, s.suppress req) else (none, s.suppress req))
    else
      let forced := n == 65536 && !len
      let cause := boolBit len + req + (if forced then 16 else 0)
      if cause = 0 then (none, s)
      else
        let s := if forced then
            (s.setFlag F.THY_STAT_SEG_FORCED true).log 0x0105 [(6, s.thy.ln.toNat)]
          else s
        (some cause, s)

/-- SEG_NOW (R119). -/
def State.segNow (s : State) : State :=
  if !s.isHead then s.writeIgnored 0x20040 4
  else if s.flag F.THY_SEG_SRC_HOST then { s with thy := { s.thy with reqHost := true } }
  else s

def execSegNow (s : State) : Res := .next (s.hostAction 0x20040 (fun s => s.segNow))

/-! ### The launch ring (R107 to R109) -/

/-- The ring is empty (R107). -/
def State.ringEmpty (s : State) : Bool := s.reg F.THY_RING_PI_PI == s.reg F.THY_RING_CI_CI

/-- The head launches from the ring (R107). -/
def State.ringLaunches (s : State) : Bool := s.isHead && s.isRunning && s.reg F.THY_CTL_MODE == 3

/-- RING_EMPTY, set and logged once for each empty spell while the head launches from the ring; an empty spell ends with
the first entry (R107). -/
def State.checkRing (s : State) : State :=
  if !s.ringEmpty then { (s.setFlag F.THY_STAT_RING_EMPTY false) with thy := { s.thy with emptyLogged := false } }
  else if s.ringLaunches then
    let s := s.setFlag F.THY_STAT_RING_EMPTY true
    if s.thy.emptyLogged then s
    else { s with thy := { s.thy with emptyLogged := true } }.log 0x0103 [(8, s.pt.toNat)]
  else s

/-- Thyme counts as stopped for its class L and X fields: nothing is launched, or the head launches from a ring that is
empty and the last program's span has elapsed, with no action still armed (R7, R108; notes/assumptions/58.md). -/
def State.ringStopped (s : State) : Bool :=
  !s.isRunning || (s.ringLaunches && s.ringEmpty && s.thy.running.isEmpty && s.thy.armed.isEmpty)

/-- THY_RING_PI_WRITE (R9, R108): the last write counts. -/
def State.writeRingPi (s : State) (pi : Nat) : State :=
  if s.ringStopped then
    ({ s with live := Assoc.erase s.live F.THY_RING_PI_PI.key }.setReg F.THY_RING_PI_PI pi).checkRing
  else { s with live := Assoc.insert s.live F.THY_RING_PI_PI.key (pi % 1024) }

/-- A class L cell of Thyme's registers. -/
def thymeCell (x : Nat × Nat) : Bool := decide (0x20000 * 8 ≤ x.1) && decide (x.1 < 0x30000 * 8)

/-- The values that wait for Thyme come into force once it counts as stopped while lines are launched (R7, R108). -/
def State.thymeLive (s : State) : State :=
  if s.isRunning && s.ringStopped && s.live.any thymeCell then
    { s with
      regs := (s.live.filter thymeCell).foldl (fun (b : Bank) (kv : Nat × Nat) => b.put kv.1 kv.2) s.regs,
      live := s.live.filter (fun x => !thymeCell x) }.checkRing
  else s

/-- PROGRAM_STEP (R27, R33, R35, R36, R39, R40, R87, R108); no step runs while TCLK is gated or halted (R34). -/
def execProgramStep (s : State) : Res := .next (if s.tclkRuns then s.runSteps.thymeLive else s)

def execThyRingPiWrite (pi : Nat) (s : State) : Res := .next (s.hostLive 0x20070 (fun s => s.writeRingPi pi))

/-- The launch press time in ring entry `i`. -/
def State.ringEntry (s : State) (i : Nat) : PressTime :=
  BitVec.ofNat 64 (s.reg (F.THY_LRING_V (2 * i)) + 2 ^ 32 * s.reg (F.THY_LRING_V (2 * i + 1)))

end Sys2Proof.Machine
end

