-- ==== Sys2Proof/Machine/Converter.lean ====
section
/-! DEFINITION. The column converters: line samples, TDI sums, spares, self-test and background test
(04_column_converters.md), and the frames of the array (01_pixel_array_and_exposure.md R28, R45, R48, R49). -/

namespace Sys2Proof.Machine

/-! ### Converters and spares (R143, Table CAL-1) -/

/-- Entry index of the column converter of `pc` in bank `b`. -/
def colConv (pc b : Nat) : Nat := 3 * pc + b

/-- Entry index of the spare of column group `cg` in bank `b`. -/
def spareConv (cg b : Nat) : Nat := 49536 + 3 * cg + b

/-- Column group, bank and MEMBER (64 for the spare) of a converter index. -/
def convPlace (i : Nat) : Nat × Nat × Nat :=
  if i < 49536 then (cgOf (i / 3), i % 3, i / 3 % 64) else ((i - 49536) / 3, (i - 49536) % 3, 64)

/-- The substitutions that the spare map of a configuration asks for (R143). -/
def Cfg.sparesOf (c : Cfg) : List (Nat × Nat × Nat) :=
  (List.range 774).filterMap (fun i =>
    if c.get (F.CNV_SPARE_EN i) = 1 then some (i / 3, i % 3, c.get (F.CNV_SPARE_MEMBER i)) else none)

/-- The converter that converts column `pc` in bank `b` under a list of substitutions (R143). -/
def convOf (spares : List (Nat × Nat × Nat)) (pc b : Nat) : Nat :=
  if spares.contains (cgOf pc, b, pc % 64) then spareConv (cgOf pc) b else colConv pc b

/-- A converter idles: an unused spare or a replaced member (R149). -/
def idle (spares : List (Nat × Nat × Nat)) (i : Nat) : Bool :=
  let (cg, b, m) := convPlace i
  if m = 64 then !spares.any (fun x => x.1 == cg && x.2.1 == b) else spares.contains (cg, b, m)

/-- The column of bank `b` at `pc` is defective: its converter has its fail bit set and no spare replaces it (R187). -/
def State.convDefective (s : State) (spares : List (Nat × Nat × Nat)) (pc b : Nat) : Bool :=
  s.cnv.fails.contains (colConv pc b) && !spares.contains (cgOf pc, b, pc % 64)

/-! ### Spare proposals (R209, R210) -/

/-- The proposed entry of a pair: none where it is left as it is, else EN and MEMBER (R210). -/
def State.proposal (s : State) (cg b : Nat) : Option (Nat × Nat) :=
  let bad := (List.range 64).filter (fun m => s.cnv.fails.contains (colConv (64 * cg + m) b))
  let i := 3 * cg + b
  if s.cnv.fails.contains (spareConv cg b) then some (0, s.reg (F.CNV_SPARE_MEMBER i))
  else
    match bad.head? with
    | none => none
    | some lowest =>
      if bad.contains (s.reg (F.CNV_SPARE_MEMBER i)) then
        some (1, s.reg (F.CNV_SPARE_MEMBER i))
      else
        match bad.find? (fun m => bad.contains (m + 1) || (decide (0 < m) && bad.contains (m - 1))) with
        | some m => some (1, m)
        | none => some (1, lowest)

/-- One pair's proposal written into the shadow; the count rises where the entry changes. -/
def State.proposePair (s : State) (n i : Nat) : State × Nat :=
  match s.proposal (i / 3) (i % 3) with
  | none => (s, n)
  | some (en, m) =>
    let same := s.shadowReg (F.CNV_SPARE_EN i) == en && (en == 0 || s.shadowReg (F.CNV_SPARE_MEMBER i) == m)
    ((s.setShadow (F.CNV_SPARE_EN i) en).setShadow (F.CNV_SPARE_MEMBER i) m, if same then n else n + 1)

/-- A spare map is proposed while REPAIR_AUTO = 1; under a frozen shadow it waits (R209, R361). -/
def State.propose (s : State) : State :=
  if s.flag F.CAL_CTL_REPAIR_AUTO then
    if s.commit.frozen then { s with cal := { s.cal with repairDue := true } }
    else
      let (s, n) := (List.range 774).foldl (fun a i => State.proposePair a.1 a.2 i) (s, 0)
      ({ s with cal := { s.cal with repairDue := false } }.setFlag F.CAL_STAT_PROPOSED true).log 0x0508 [(4, n)]
  else s

/-! ### Test judgement (R146) -/

/-- A mean passes its level: within T × FS ÷ 1,024 of FS × k ÷ 16. -/
def passLevel (fs tol mean k : Nat) : Bool :=
  decide (((Int.ofNat (mean * 16384)) - Int.ofNat (fs * 1024 * k)).natAbs ≤ tol * fs * 16)

/-- The first failed level of three means, or none where the converter passes (R146). -/
def judge (fs tol m0 m1 m2 : Nat) : Option Nat :=
  if !passLevel fs tol m0 1 then some 0
  else if !passLevel fs tol m1 8 then some 1
  else if !passLevel fs tol m2 15 then some 2
  else if m0 < m1 ∧ m1 < m2 then none
  else some Config.notRisingLevel.toNat

/-- The mean of some codes, rounded down. -/
def meanDown (l : List Nat) : Nat := if l = [] then 0 else l.foldl (· + ·) 0 / l.length

/-- SPARE_FAIL for a converter (R144, R149); MEMBER takes one byte in an event (notes/assumptions/68.md). -/
def State.logSpareFail (s : State) (i : Nat) : State :=
  let (cg, b, m) := convPlace i
  s.log 0x0303 [(2, cg), (1, b), (1, m)]

/-! ### Background test (R149) -/

/-- One idle converter's code at a level is taken; after 16 at each level it is judged, by the FS of the line that the
last one came with, and a failure is logged once until the next RUN or FAIL_CLR (notes/assumptions/68.md). -/
def State.bgTake (s : State) (c : Cfg) (level i code : Nat) : State :=
  let (l0, l1, l2) := (Assoc.find s.cnv.bg i).getD ([], [], [])
  let (l0, l1, l2) := match level with
    | 0 => (l0 ++ [code], l1, l2)
    | 1 => (l0, l1 ++ [code], l2)
    | _ => (l0, l1, l2 ++ [code])
  if 16 ≤ l0.length ∧ 16 ≤ l1.length ∧ 16 ≤ l2.length then
    let s := { s with cnv := { s.cnv with bg := Assoc.erase s.cnv.bg i } }
    match judge c.fs (s.reg F.CNV_TEST_TOL) (meanDown (l0.take 16)) (meanDown (l1.take 16)) (meanDown (l2.take 16)) with
    | none => s
    | some _ =>
      let s := { s with cnv := { s.cnv with
        fails := if s.cnv.fails.contains i then s.cnv.fails else s.cnv.fails ++ [i] } }
      if s.cnv.bgLogged.contains i then s
      else ({ s with cnv := { s.cnv with bgLogged := s.cnv.bgLogged ++ [i] } }.logSpareFail i).propose
  else { s with cnv := { s.cnv with bg := Assoc.insert s.cnv.bg i (l0, l1, l2) } }

/-- The background samples that come with a line sample: idle converters of the group's bank, in the window or a dark
group, outside a visited pair (R149, R203). A bank with both groups disabled is powered down (R29) and converts
nothing. -/
def State.bgSamples (s : State) (c : Cfg) (f : Frame) (spares : List (Nat × Nat × Nat)) (b : Nat)
    (bg : List (Nat × List Bool)) : State :=
  if s.flag F.CNV_BG_EN then
    bg.foldl (fun s x =>
      let (cg, b', _) := convPlace x.1
      let inside := cg == 0 || cg == 257 ||
        (decide (c.get F.ARR_WIN_FIRST_CG ≤ cg) && decide (cg ≤ c.get F.ARR_WIN_LAST_CG))
      if idle spares x.1 && b' == b && inside && f.visit != some (cg, b) then
        s.bgTake c f.bgLevel x.1 (decimate c.shifts x.2).1
      else s) s
  else s

/-! ### Line samples (R127 to R140, R206) -/

/-- A list cut into pieces of `n`, at most `k` of them. -/
def chunks {α : Type} (n : Nat) : Nat → List α → List (List α)
  | 0, _ => []
  | k + 1, l => if l = [] then [] else l.take n :: chunks n k (l.drop n)

/-- The block sums of one column from its modulator bits, row by row, each with its SAT mark (R128, R131, R137). -/
def Cfg.columnBlocks (c : Cfg) (spares : List (Nat × Nat × Nat)) (g pc : Nat) (rows : List (List Bool)) : ColBlocks :=
  let codes := rows.map (decimate c.shifts)
  { pc := pc, conv := convOf spares pc (bankOf g),
    blocks := (chunks (c.abin g) (c.tdi g) codes).map (fun b => b.foldl (fun n x => n + x.1) 0),
    sats := (chunks (c.abin g) (c.tdi g) codes).map (fun b => b.any (fun x => x.2)) }

/-- What a stage was converted under (R139, R49). -/
def Cfg.stageKey (c : Cfg) (g : Nat) : List Nat :=
  [c.osr, c.shifts.1, c.shifts.2.1, c.shifts.2.2, c.get (F.ARR_GRP_HCG g), c.abin g, c.tdi g]

/-- The blocks of column `pc` in a stage line. -/
def StageLine.col (l : StageLine) (pc : Nat) : Option ColBlocks := l.cols.find? (fun x => x.pc == pc)

/-- The stages that column `x` of the newest line sums: pairs of block value and SAT (R45, R138, R139). -/
def validStages (tdi : Nat) (newest : StageLine) (older : List StageLine) (x : ColBlocks) : List (Nat × Bool) :=
  (List.range tdi).filterMap (fun i =>
    let line := (newest :: older).find? (fun l => l.ln == newest.ln - BitVec.ofNat 48 i)
    match line with
    | none => none
    | some l =>
      match l.col x.pc with
      | none => none
      | some y =>
        if l.key = newest.key ∧ y.conv = x.conv then
          some (y.blocks[tdi - 1 - i]?.getD 0, y.sats[tdi - 1 - i]?.getD false) else none)

/-- The sum of the valid stages scaled to TDI stages (R138). -/
def stageSum (tdi : Nat) (st : List (Nat × Bool)) : Nat :=
  let sum := st.foldl (fun n x => n + x.1) 0
  if st.length = tdi then sum else (2 * sum * tdi + st.length) / (2 * st.length)

/-- The mean of press times, rounded down. -/
def meanPt (base : PressTime) (l : List PressTime) : PressTime :=
  if l = [] then base
  else base + BitVec.ofInt 64 ((sumInt (l.map (fun t => signedDiff t base))).fdiv (Int.ofNat l.length))

/-- The lines between the last captured line and `ln` that lie at or after the restart (R48, R49). -/
def missingBefore (prev restart : Option LineNo) (ln : LineNo) : Nat :=
  match prev, restart with
  | none, none => 0
  | none, some r => (signedDiff ln r).toNat
  | some p, none => (signedDiff ln (p + 1)).toNat
  | some p, some r => (signedDiff ln (if 0 < signedDiff r (p + 1) then r else p + 1)).toNat

/-- A gap in a TDI accumulation is counted and logged once (R48). -/
def State.tdiBreak (s : State) (ln : LineNo) (missing : Nat) : State :=
  if missing = 0 ∨ s.cnv.gapLogged = some ln then s
  else
    ({ s with cnv := { s.cnv with gapLogged := some ln } }.addReg F.ARR_TDI_BREAKS_V 1).log 0x0203
      [(6, ln.toNat), (4, missing)]

/-- A line that holds a SAT sample is counted once (R131, R151). -/
def State.countSat (s : State) (ln : LineNo) : State :=
  if s.cnv.satLast = some ln then s
  else
    { s with cnv := { s.cnv with satLast := some ln, satFirst := some (s.cnv.satFirst.getD ln),
                                 satCount := s.cnv.satCount + 1 } }.addReg F.CNV_SAT_LINES_V 1

/-- CNV_SAT at the close of segment `sn` (R150, R491). -/
def State.closeSat (s : State) (sn : SegNo) : State :=
  if s.cnv.satCount = 0 then s
  else
    let first := s.cnv.satFirst.getD 0
    let n := s.cnv.satCount
    { s with cnv := { s.cnv with satFirst := none, satCount := 0 } }.logClose 0x0305 sn
      [(4, sn.toNat), (6, first.toNat), (4, n)]

/-- The converters handle a line of segment `sn`; the first one of a later segment closes the one before (R491). -/
def State.cnvHandles (s : State) (sn : SegNo) : State :=
  let s := match s.cnv.seg with
    | some old => if old = sn then s else s.closeSat old
    | none => s
  { s with cnv := { s.cnv with seg := some sn } }

/-- After a stop with no frame left, the open segment closes (R491). -/
def State.cnvDrained (s : State) : State :=
  if s.isRunning || s.arr.unconverted.isSome || !s.arr.frames.isEmpty then s
  else
    match s.cnv.seg with
    | some old => let s := s.closeSat old; { s with cnv := { s.cnv with seg := none } }
    | none => s

/-- The group no longer waits in frame `f`; a frame with no waiting group is over. -/
def State.frameDone (s : State) (f : Frame) (g : Nat) : State :=
  let step (x : Frame) : Frame := if x = f then { x with waiting := x.waiting.filter (fun y => y != g) } else x
  { s with arr := { s.arr with frames := (s.arr.frames.map step).filter (fun x => x.waiting != []) } }

/-- The columns of a visited pair take the stage of the line before from the same converter (R206). -/
def heldCols (f : Frame) (g : Nat) (older : List StageLine) (cols : List ColBlocks) : List ColBlocks :=
  match f.visit with
  | none => cols
  | some (cg, b) =>
    if b = bankOf g then
      cols.map (fun x =>
        if cgOf x.pc = cg then
          match older.head? with
          | some l => (l.col x.pc).getD x
          | none => x
        else x)
    else cols

/-- The stages that the line may sum: those of its own run (R49); stages of a run before the START do not exist for it,
consecutive as the LNs may be (notes/assumptions/68.md). -/
def LineInfo.ownStages (i : LineInfo) (kept : List StageLine) : List StageLine :=
  match i.run with
  | some r =>
    if 0 ≤ signedDiff i.ln r then kept.filter (fun l => decide (0 ≤ signedDiff l.ln r) && decide (0 < signedDiff i.ln l.ln))
    else kept
  | none => kept

/-- The line sample of group `g` in frame `f` (R135 to R140). Its one press time counts every stage that any column may
sum (notes/assumptions/68.md). -/
def State.sampleLine (s : State) (f : Frame) (i : LineInfo) (g : Nat) (bits : List (Nat × List (List Bool)))
    (bg : List (Nat × List Bool)) : State :=
  let c := i.cfg
  let kept := s.cnv.stages[g]?.getD []
  let older := i.ownStages kept
  let cols := heldCols f g older (bits.map (fun x => c.columnBlocks i.spares g x.1 x.2))
  let held := match f.visit with
    | some (cg, b) => if b = bankOf g then some cg else none
    | none => none
  let pt := i.t + BitVec.ofNat 64 (c.centroid i.prog g + 12)
  let now : StageLine := ⟨i.ln, pt, c.stageKey g, cols, held⟩
  let tdi := c.tdi g
  let sums := cols.map (fun x => (x.pc, validStages tdi now older x))
  let used := (now :: older).filter (fun l =>
    l.key == now.key && decide ((i.ln - l.ln).toNat < tdi))
  let restart := i.settle[g]?.getD none
  let settling := match restart with
    | some r => decide (0 ≤ signedDiff i.ln r) && decide ((i.ln - r).toNat + 1 < tdi)
    | none => false
  let out : GroupLine :=
    { ln := i.ln, sn := i.sn, ctx := i.ctx, restart := i.restarts.contains g, captured := true,
      unsettled := settling || sums.any (fun x => decide (x.2.length < tdi)),
      pt := meanPt pt (used.map (fun l => l.pt)),
      cols := sums.map (fun x => ⟨x.1, stageSum tdi x.2, x.2.any (fun y => y.2), false⟩),
      stale := used.filterMap (fun l => l.held), calExtrap := false, spares := i.spares }
  let missing := if 1 < tdi then missingBefore (older.head?.map (fun l => l.ln)) restart i.ln else 0
  let s := (s.cnvHandles i.sn).tdiBreak i.ln missing
  let s := if out.cols.any (fun x => x.sat) then s.countSat i.ln else s
  let s := s.bgSamples c f i.spares (bankOf g) bg
  ({ s with cnv := { s.cnv with
      stages := s.cnv.stages.set g ((now :: kept).take 4),
      out := modAt s.cnv.out g (fun q => q ++ [out]) } }.frameDone f g).cnvDrained

/-- LINE_SAMPLE: the oldest frame that waits for group `g` yields its line sample from the modulator bits of each
column and row (R128, R135). -/
def State.lineSample (s : State) (g : Nat) (bits : List (Nat × List (List Bool))) (bg : List (Nat × List Bool)) :
    State :=
  match s.arr.frames.find? (fun f => f.waiting.contains g) with
  | none => s
  | some f =>
    match s.lineInfo f.ln with
    | none => s.frameDone f g
    | some i => s.sampleLine f i g bits bg

def execLineSample (g : Nat) (bits : List (Nat × List (List Bool))) (bg : List (Nat × List Bool)) (s : State) : Res :=
  .next (s.lineSample g bits bg)

/-! ### Frames (R28, R29, R141, R145, R149, R202, R203) -/

/-- Pairs of the self-calibration rotation, as 3 CG + b, in order (R202). -/
def Cfg.scPairs (c : Cfg) : List Nat :=
  (List.range 774).filter (fun i =>
    let cg := i / 3
    (cg == 0 || cg == 257 || (decide (c.get F.ARR_WIN_FIRST_CG ≤ cg) && decide (cg ≤ c.get F.ARR_WIN_LAST_CG)))
      && (c.grpEn (2 * (i % 3)) || c.grpEn (2 * (i % 3) + 1)))

/-- The next pair of the rotation from place `r` (R202). -/
def Cfg.nextPair (c : Cfg) (r : Nat) : Option Nat :=
  match c.scPairs.find? (fun i => decide (r ≤ i)) with
  | some i => some i
  | none => c.scPairs.head?

/-- The visit that a frame makes, if any (R202): column group and bank. -/
def State.visitFor (s : State) (i : LineInfo) (flush : Bool) : Option (Nat × Nat) :=
  if s.flag F.CAL_SC_EN && !flush && !i.boundary && i.ln.toNat % 4096 == i.cfg.get F.CAL_SC_PHASE
      && s.arr.prevFrame == some (i.ln - 1) then
    (i.cfg.nextPair s.cal.rotation).map (fun p => (p / 3, p % 3))
  else none

/-- The rotation advances past a visit, whose levels follow from the conversions of its bank (R203). -/
def State.beginVisit (s : State) (c : Cfg) (v : Option (Nat × Nat)) : State :=
  match v with
  | none => s
  | some (cg, b) =>
    let pair := 3 * cg + b
    let n := c.rowsOf (2 * b) + c.rowsOf (2 * b + 1)
    let seen := (Assoc.find s.cal.visited pair).getD 0
    let tl0 := decide (2 ≤ n) || seen % 2 == 0
    let tl2 := decide (2 ≤ n) || seen % 2 == 1
    { s with cal := { s.cal with
        rotation := pair + 1, visit := some (cg, b, tl0, tl2, c.fs), visited := Assoc.insert s.cal.visited pair (seen + 1) } }

/-- SPARE_SWAP for every substitution that begins or ends with the frame of line `ln` (R145). -/
def State.spareSwaps (s : State) (ln : LineNo) (new : List (Nat × Nat × Nat)) : State :=
  let old := s.cnv.spares
  let ev (s : State) (x : Nat × Nat × Nat) (dir : Nat) : State :=
    s.log 0x0304 [(2, x.1), (1, x.2.1), (1, x.2.2), (1, dir), (6, ln.toNat)]
  let ended := old.filter (fun x => !new.contains x)
  let begun := new.filter (fun x => !old.contains x)
  let s := ended.foldl (fun s x => ev s x 0) s
  let s := begun.foldl (fun s x => ev s x 1) s
  let touched := (ended ++ begun).flatMap (fun x => [spareConv x.1 x.2.1, colConv (64 * x.1 + x.2.2) x.2.1])
  { s with cnv := { s.cnv with spares := new, bg := touched.foldl Assoc.erase s.cnv.bg } }

/-- The conversion frame of the last launched line starts (R28, R93, R141). The frames that give the level of the
background test are counted from reset on (R149, notes/assumptions/68.md). -/
def State.frameStart (s : State) (flush : Bool) : State :=
  match s.arr.unconverted with
  | none => s
  | some l =>
    match s.lineInfo l.ln with
    | none => { s with arr := { s.arr with unconverted := none } }
    | some i =>
      let s := s.spareSwaps i.ln i.spares
      let v := s.visitFor i flush
      let s := s.beginVisit i.cfg v
      let f : Frame :=
        { ln := i.ln, sn := i.sn, start := s.pt, t := i.t, ctx := i.ctx, prog := i.prog, flush := flush,
          waiting := i.cfg.enabledGroups, visit := v, bgLevel := s.cnv.bgFrames % 3 }
      { s with
        arr := { s.arr with
          unconverted := none, prevFrame := some i.ln,
          frames := if f.waiting = [] then s.arr.frames else s.arr.frames ++ [f] },
        cnv := { s.cnv with bgFrames := s.cnv.bgFrames + 1 } }

/-- Launches armed inside the flush hold are moved into skips with reason FLUSH (R112, Table THY-5). -/
def State.flushArmed (s : State) (lo hi : PressTime) : State :=
  { s with thy := { s.thy with armed := s.thy.armed.map (fun a =>
      if !a.skip && decide (0 < signedDiff a.t lo) && decide (signedDiff a.t hi < 0) then
        { a with skip := true, reason := 3, own := true }
      else a) } }

/-- FLUSH_FRAME (R28, R96, R112): the last launched line is converted and a flush hold opens. -/
def State.flushFrame (s : State) : State :=
  match s.arr.unconverted with
  | none => s
  | some l =>
    let fl := (s.lineCfg l.ln).frameLen
    let lo := s.pt
    let hi := s.pt + BitVec.ofNat 64 (fl + 33)
    let s := (s.frameStart true).log 0x0204 [(6, l.ln.toNat)]
    { s with arr := { s.arr with hold := some (lo, hi) } }.flushArmed lo hi

def execFlushFrame (s : State) : Res := .next s.flushFrame

/-! ### Full self-test (R147, R148) -/

/-- A full test ends early: the bitmap is all zero (R148). -/
def State.abortTest (s : State) : State :=
  if s.flag F.CNV_TEST_STAT_BUSY then
    let s := { s with cnv := { s.cnv with fails := [] } }
    let s := (((s.setFlag F.CNV_TEST_STAT_BUSY false).setFlag F.CNV_TEST_STAT_DONE true).setFlag
      F.CNV_TEST_STAT_ABORTED true).setReg F.CNV_TEST_STAT_FAILS 0
    s.log 0x0301 [(1, s.reg F.CNV_PRESET_PRESET), (4, 0), (1, 1)]
  else s

/-- CNV_TEST_RUN (R147); ABORTED tells of the last full test, which is now this one (R151, notes/assumptions/68.md). -/
def State.runTest (s : State) : State :=
  if s.isRunning || s.flag F.CNV_TEST_STAT_BUSY then s.writeIgnored 0x40100 5
  else
    ({ s with cnv := { s.cnv with fails := [], bgLogged := [] } }.setFlag F.CNV_TEST_STAT_BUSY true).setFlag
      F.CNV_TEST_STAT_ABORTED false

def execCnvTestRun (s : State) : Res := .next (s.hostAction 0x40100 (fun s => s.runTest))

/-- CNV_TEST_ABORT (R148). -/
def execCnvTestAbort (s : State) : Res := .next (s.hostAction 0x40100 (fun s => s.abortTest))

/-- CNV_FAIL_CLR (R151): ignored while a full test runs, without an event (notes/assumptions/68.md). -/
def State.clearFails (s : State) : State :=
  if s.flag F.CNV_TEST_STAT_BUSY then s else { s with cnv := { s.cnv with fails := [], bgLogged := [] } }

def execCnvFailClr (s : State) : Res := .next (s.hostAction 0x40100 (fun s => s.clearFails))

/-- A converter index put into the order of column group, bank and column (R147). -/
def convRank (i : Nat) : Nat := let (cg, b, m) := convPlace i; (cg * 3 + b) * 65 + m

/-- A failed converter with its level put into a list ordered by `convRank`. -/
def insertFail : List (Nat × Nat) → Nat × Nat → List (Nat × Nat)
  | [], x => [x]
  | y :: r, x => if convRank x.1 ≤ convRank y.1 then x :: y :: r else y :: insertFail r x

/-- The nominal code at FS × k ÷ 16 (R130). -/
def nominalCode (fs k : Nat) : Nat := (fs * k + 8) / 16

/-- The first failed level of converter `i` in a full test, or none where it passes: `codes` lists the modulator bits
of its 16 conversions at TL0, TL1 and TL2; every conversion of a converter not listed gave the nominal code (R130, R146,
R147, notes/assumptions/68.md). -/
def Cfg.verdict (c : Cfg) (tol : Nat) (codes : List (Nat × List (List Bool) × List (List Bool) × List (List Bool)))
    (i : Nat) : Option Nat :=
  match codes.find? (fun x => x.1 == i) with
  | some x =>
    let mean (l : List (List Bool)) : Nat := meanDown ((l.take 16).map (fun b => (decimate c.shifts b).1))
    judge c.fs tol (mean x.2.1) (mean x.2.2.1) (mean x.2.2.2)
  | none => judge c.fs tol (nominalCode c.fs 1) (nominalCode c.fs 8) (nominalCode c.fs 15)

/-- The converters that fail a full test, each with its level, in the order of R147. -/
def Cfg.testFails (c : Cfg) (tol : Nat)
    (codes : List (Nat × List (List Bool) × List (List Bool) × List (List Bool))) : List (Nat × Nat) :=
  let others := if (c.verdict tol [] 0).isSome then List.range 50310 else []
  (((codes.map (fun x => x.1)) ++ others).eraseDups.filterMap
    (fun i => (c.verdict tol codes i).map (fun l => (i, l)))).foldl insertFail []

/-- SELFTEST_DONE (R144, R146, R147, R209), with the modulator bits of the test's conversions. The spares that
SPARE_FAIL tells of are those of the map in force in the registers, which IN_USE shows from the next frame on (R151,
notes/assumptions/68.md). -/
def State.testDone (s : State) (codes : List (Nat × List (List Bool) × List (List Bool) × List (List Bool))) : State :=
  if s.flag F.CNV_TEST_STAT_BUSY then
    let bad := Cfg.testFails s.regs (s.reg F.CNV_TEST_TOL) codes
    let s := { s with cnv := { s.cnv with fails := bad.map (fun (x : Nat × Nat) => x.1) } }
    let s := ((s.setFlag F.CNV_TEST_STAT_BUSY false).setFlag F.CNV_TEST_STAT_DONE true).setReg F.CNV_TEST_STAT_FAILS
      (min 65535 bad.length)
    let s := s.log 0x0301 [(1, s.reg F.CNV_PRESET_PRESET), (4, bad.length), (1, 0)]
    let s := (bad.take 16).foldl (fun (s : State) (x : Nat × Nat) =>
      let (cg, b, m) := convPlace x.1
      s.log 0x0302 [(2, cg), (1, b), (1, m), (1, x.2)]) s
    let s := (Cfg.sparesOf s.regs).foldl (fun (s : State) (x : Nat × Nat × Nat) =>
      if s.cnv.fails.contains (spareConv x.1 x.2.1) then s.logSpareFail (spareConv x.1 x.2.1) else s) s
    s.propose
  else s

def execSelftestDone (codes : List (Nat × List (List Bool) × List (List Bool) × List (List Bool))) (s : State) : Res :=
  .next (s.testDone codes)

end Sys2Proof.Machine
end

