-- ==== Sys2Proof/Machine/Filter.lean ====
section
/-! DEFINITION. The line filters, the level-event detectors and the EVT pins (05_line_filters_and_level_events.md). -/

namespace Sys2Proof.Machine

/-! ### The window of a filter (R153, R165, R166) -/

/-- A right shift that rounds (R153). -/
def rsh (v k : Nat) : Nat := if k = 0 then v else (v + 2 ^ (k - 1)) / 2 ^ k

/-- The clamp of R153: the value, whether the upper and whether the lower limit acted. -/
def clamp22 (v : Int) : Nat × Bool × Bool :=
  if v < 0 then (0, false, true) else if 0x3FFFFF < v then (0x3FFFFF, true, false) else (v.toNat, false, false)

/-- Column `pc` of a line. -/
def GroupLine.col (l : GroupLine) (pc : Nat) : ColVal := (l.cols.find? (fun x => x.pc == pc)).getD ⟨pc, 0, false, false⟩

/-- The line whose value stands for the input of line `ln`, in a history that is newest first (R165): the newest
captured one at or before it, or else the oldest captured one after it. -/
def inputLine (h : List GroupLine) (ln : LineNo) : Option GroupLine :=
  match h.find? (fun l => l.captured && decide (signedDiff l.ln ln ≤ 0)) with
  | some l => some l
  | none => h.reverse.find? (fun l => l.captured)

/-- The input of line `ln`, column `pc` (R165). -/
def inputAt (h : List GroupLine) (ln : LineNo) (pc : Nat) : ColVal :=
  match inputLine h ln with
  | some l => l.col pc
  | none => ⟨pc, 0, false, false⟩

/-- The captured line `ln` of a history. -/
def capturedAt (h : List GroupLine) (ln : LineNo) : Option GroupLine := h.find? (fun l => l.captured && l.ln == ln)

/-- The LNs of a window of `n` lines, newest first. -/
def windowLns (ln : LineNo) (n : Nat) : List LineNo := (List.range n).map (fun i => ln - BitVec.ofNat 48 i)

/-- Every input of a window of `n` lines is a captured and settled line (R165, R166). -/
def windowSettled (h : List GroupLine) (ln : LineNo) (n : Nat) : Bool :=
  (windowLns ln n).all (fun l =>
    match capturedAt h l with
    | some x => !x.unsettled
    | none => false)

/-- A value put into a list in ascending order, after its equals: newer inputs come later (R155). -/
def insertRank : List ColVal → ColVal → List ColVal
  | [], x => [x]
  | y :: r, x => if x.v < y.v then x :: y :: r else y :: insertRank r x

/-- The rank output for line `ln` (R153, R155). -/
def Cfg.rankAt (c : Cfg) (g : Nat) (h : List GroupLine) (ln : LineNo) (pc : Nat) : ColVal :=
  let xs := (windowLns ln (c.rankTaps g)).map (fun l => inputAt h l pc)
  let x := (xs.reverse.foldl insertRank [])[c.rankPlace g]?.getD ⟨pc, 0, false, false⟩
  { x with v := rsh x.v (c.get (F.LFL_GRP_RSHIFT g)), neg := false }

/-- The FIR output for line `ln` (R153, R154, R156). -/
def Cfg.firAt (c : Cfg) (g : Nat) (h : List GroupLine) (ln : LineNo) (pc : Nat) : ColVal :=
  let terms := ((c.coefs g).zip (windowLns ln (c.firTaps g))).map (fun x => (x.1, c.rankAt g h x.2 pc))
  let acc := sumInt (terms.map (fun x => x.1 * Int.ofNat x.2.v))
  let (v, hi, lo) := clamp22 (shiftRoundUp acc (c.fshift g) + Int.ofNat (c.firOffset g))
  ⟨pc, v, hi || terms.any (fun x => x.1 != 0 && x.2.sat), lo⟩

/-- The chain output for a selected line `ln` (R153, R154). -/
def Cfg.chainAt (c : Cfg) (g : Nat) (h : List GroupLine) (ln : LineNo) (pc : Nat) : ColVal :=
  let ys := (windowLns ln c.decim).map (fun l => c.firAt g h l pc)
  let sum := ys.foldl (fun n y => n + y.v) 0
  let (v, hi, _) := clamp22 (Int.ofNat (rsh sum (c.get F.LFL_CTL_DSHIFT)))
  ⟨pc, v, hi || ys.any (fun y => y.sat), ys.any (fun y => y.neg)⟩

/-- The window of FIR outputs: nr + kf − 1 lines (R167). -/
def Cfg.firSpan (c : Cfg) (g : Nat) : Nat := c.rankTaps g + c.firTaps g - 1

/-! ### Timestamps (R163) -/

/-- The press time at line `x` on the straight line through two captured lines, rounded down. -/
def linePt (x : LineNo) (a b : GroupLine) : PressTime :=
  a.pt + BitVec.ofInt 64 ((signedDiff b.pt a.pt * signedDiff x a.ln).fdiv (signedDiff b.ln a.ln))

/-- The press time of line `x` of a window whose captured lines are `w`, newest first (R163). -/
def ptOfLine (w : List GroupLine) (x : LineNo) : PressTime :=
  match w.find? (fun l => l.ln == x) with
  | some l => l.pt
  | none =>
    let older := w.filter (fun l => decide (signedDiff l.ln x < 0))
    let newer := (w.filter (fun l => decide (0 < signedDiff l.ln x))).reverse
    match older, newer with
    | o :: _, n :: _ => linePt x o n
    | o :: o' :: _, [] => linePt x o o'
    | [], n :: n' :: _ => linePt x n n'
    | [o], [] => o.pt
    | [], [n] => n.pt
    | [], [] => 0

/-- The timestamp of an output at line `ln` with span `n` (R163). A restart has discarded what was captured before it
(R164): such a line counts as not captured (notes/assumptions/60.md). -/
def tapPt (h : List GroupLine) (ln : LineNo) (n : Nat) : PressTime :=
  let w := (windowLns ln n).filterMap (capturedAt h)
  if n % 2 = 1 then ptOfLine w (ln - BitVec.ofNat 48 ((n - 1) / 2))
  else meanPt (ptOfLine w (ln - BitVec.ofNat 48 (n / 2)))
    [ptOfLine w (ln - BitVec.ofNat 48 ((n - 2) / 2)), ptOfLine w (ln - BitVec.ofNat 48 (n / 2))]

/-! ### The close of a segment (R154, R173, R176, R491) -/

/-- LVL_LOST of one detector. -/
def State.closeDet (s : State) (sn : SegNo) (d : Nat) : State :=
  match s.lfl.dets[d]? with
  | none => s
  | some x =>
    if x.lostSeg = 0 then s
    else
      { s with lfl := { s.lfl with dets := s.lfl.dets.set d { x with lostSeg := 0 } } }.logClose 0x0401 sn
        [(1, d), (4, sn.toNat), (4, x.lostSeg)]

/-- FIR_CLAMP and LVL_LOST at the close of segment `sn`. -/
def State.closeFilters (s : State) (sn : SegNo) : State :=
  let n := s.lfl.clampSeg
  let s := if n = 0 then s
    else { s with lfl := { s.lfl with clampSeg := 0 } }.logClose 0x0402 sn [(4, sn.toNat), (4, n)]
  (List.range 64).foldl (fun s d => s.closeDet sn d) s

/-- The filters handle a line of segment `sn` (R491). -/
def State.lflHandles (s : State) (sn : SegNo) : State :=
  let s := match s.lfl.seg with
    | some old => if old = sn then s else s.closeFilters old
    | none => s
  { s with lfl := { s.lfl with seg := some sn } }

/-- The next line of the chain of group `g`: the oldest one of the ledger that enables the group and that the chain
has not taken. -/
def State.nextChainLine (s : State) (g : Nat) : Option LineInfo :=
  let last := ((s.lfl.hist[g]?.getD []).head?).map (fun l => l.ln)
  s.lines.find? (fun i => Cfg.grpEn i.cfg g &&
    (match last with
      | some l => decide (0 < signedDiff i.ln l)
      | none => true))

/-- Every chain has taken every line. -/
def State.chainsDone (s : State) : Bool := (List.range 6).all (fun g => (s.nextChainLine g).isNone)

/-- After a stop with no line left, the open segment closes (R491). -/
def State.lflDrained (s : State) : State :=
  if s.isRunning || s.arr.unconverted.isSome || !s.arr.frames.isEmpty || !s.chainsDone then s
  else
    match s.lfl.seg with
    | some old => let s := s.closeFilters old; { s with lfl := { s.lfl with seg := none } }
    | none => s

/-! ### The chain (R152, R157, R158, R162, R164) -/

/-- A history kept to the lines a window can need: 32, and the newest captured one before them (R165). -/
def trimHistory (h : List GroupLine) : List GroupLine :=
  h.take 32 ++ ((h.drop 32).find? (fun l => l.captured)).toList

/-- The output of group `g` at a selected line, with the context and the substitutions of its newest stage, and the
restart that any of its D lines made (R157, R158, R163, R178, R206, R218, R220). -/
def Cfg.chainLine (c : Cfg) (g : Nat) (h : List GroupLine) (x : GroupLine) : GroupLine :=
  let parts := (windowLns x.ln c.decim).filterMap (fun l => h.find? (fun y => y.ln == l))
  let x := { x with restart := parts.any (fun y => y.restart) }
  match parts.find? (fun y => y.captured) with
  | some newest =>
    let span := c.chainSpan g
    let cols := match inputLine h x.ln with
      | some l => l.cols.map (fun y => c.chainAt g h x.ln y.pc)
      | none => []
    { x with captured := true, unsettled := !windowSettled h x.ln span, pt := tapPt h x.ln span, cols := cols,
             stale := ((windowLns x.ln span).filterMap (inputLine h)).flatMap (fun l => l.stale),
             ctx := newest.ctx, spares := newest.spares }
  | none => { x with captured := false, unsettled := false, cols := [], stale := [] }

/-- The columns that detector `d` reduces from a line of values (R167), and SAT of its record: set by any of them, also
where REDUCE takes its value from another one (notes/assumptions/60.md). -/
def State.detCols (s : State) (c : Cfg) (i : LineInfo) (d : Nat) (vals : List ColVal) : List (Nat × Nat) × Bool :=
  let b := bankOf (c.get (F.LFL_DET_CTL_GROUP d))
  let lo := c.get (F.LFL_DET_COLS_FIRST_COL d)
  let hi := c.get (F.LFL_DET_COLS_LAST_COL d)
  let kept := vals.filter (fun x =>
    decide (lo + 64 ≤ x.pc) && decide (x.pc ≤ hi + 64) && !s.convDefective i.spares x.pc b)
  (kept.map (fun x => (x.pc - 64, x.v)), kept.any (fun x => x.sat))

/-- The tap output of a line goes to detector `d`, where it watches the group (R167, R169). At TAP 0 a line that was not
captured gives none, with D > 1 and `EVAL_UNSETTLED` too (notes/assumptions/60.md). -/
def State.tapLine (s : State) (c : Cfg) (i : LineInfo) (g d : Nat) (h : List GroupLine) (out : Option GroupLine)
    (x : GroupLine) : State :=
  if c.get (F.LFL_DET_CTL_EN d) = 1 ∧ c.get (F.LFL_DET_CTL_GROUP d) = g then
    let fresh := i.detFresh.contains d
    let push (t : TapLine) : State :=
      { s with lfl := { s.lfl with dets := modAt s.lfl.dets d (fun y => { y with inq := y.inq ++ [t] }) } }
    let none_ : TapLine := ⟨i.ln, i.sn, 0, false, false, false, [], 1, fresh⟩
    if c.get (F.LFL_DET_CTL_TAP d) = 0 then
      if x.captured then
        let vals := x.cols.map (fun y => c.firAt g h x.ln y.pc)
        let (cols, sat) := s.detCols c i d vals
        push ⟨i.ln, i.sn, tapPt h x.ln (c.firSpan g), true, !windowSettled h x.ln (c.firSpan g), sat, cols, 1, fresh⟩
      else if fresh then push none_ else s
    else
      match out with
      | some o =>
        if o.captured then
          let (cols, sat) := s.detCols c i d o.cols
          push ⟨i.ln, i.sn, o.pt, true, o.unsettled, sat, cols, c.decim, fresh⟩
        else if fresh then push none_ else s
      | none => if fresh then push none_ else s
  else s

/-! ### The sources of a line record (R215, R216, R218) -/

/-- ⌊x_g⌋ of the record with LN `r` (R215, R216). -/
def Cfg.sourceLn (c : Cfg) (g : Nat) (r : LineNo) : LineNo :=
  r - BitVec.ofNat 48 c.alignMax + BitVec.ofNat 48 (c.ag2 g / 2)

/-- The record takes the mean of two outputs of group `g` (R216). -/
def Cfg.halved (c : Cfg) (g : Nat) : Bool := c.get F.PIP_CTL_HALF == 1 && c.decim == 1 && c.ag2 g % 2 == 1

/-- Column `pc` is in line records: inside the array window, which no dark column is (R52). -/
def Cfg.inRecords (c : Cfg) (pc : Nat) : Bool := decide (c.winFirst ≤ pc) && decide (pc ≤ c.winLast)

/-- The outputs `all` that stand at or before line `r`, the last 32 of them, and those after it. -/
def heldFor (r : LineNo) (all : List GroupLine) : List GroupLine :=
  all.filter (fun o => decide (0 < signedDiff o.ln r)) ++ (all.filter (fun o => decide (signedDiff o.ln r ≤ 0))).take 32

/-- The newest line up to `r` of the ledger at which the chain of group `g` restarted (R164). -/
def State.restartLine (s : State) (g : Nat) (r : LineNo) : Option LineNo :=
  (s.lines.reverse.find? (fun i => decide (signedDiff i.ln r ≤ 0) && i.restarts.contains g)).map (fun i => i.ln)

/-- The output of group `g` for source position `x` of record `r`, from the outputs `all` of late, newest first, and
whether it stands in for it (R218): no output from before the most recent restart up to `r` is available, whether that
restart stands in the ledger or an output carries its mark. -/
def State.sourceOf (s : State) (all : List GroupLine) (g : Nat) (x r : LineNo) : Option (GroupLine × Bool) :=
  let held := (all.filter (fun o => decide (signedDiff o.ln r ≤ 0))).take 32
  let from_ (b : Option LineNo) (o : GroupLine) : Bool :=
    match b with
    | some l => decide (0 ≤ signedDiff o.ln l)
    | none => true
  let marked := (held.find? (fun o => o.restart)).map (fun o => o.ln)
  let avail := held.filter (fun o => from_ marked o && from_ (s.restartLine g r) o && o.captured)
  match avail.find? (fun o => o.ln == x) with
  | some o => some (o, false)
  | none =>
    match avail.find? (fun o => decide (signedDiff o.ln x < 0)) with
    | some o => some (o, true)
    | none => (avail.reverse.find? (fun o => decide (0 < signedDiff o.ln x))).map (fun o => (o, true))

/-- The plane of group `g` in the record of line `i` holds an output that the lower clamp limited: of its source, of
the one that stands in for it, or of the upper one of two (R154, R215, R216, R218). -/
def State.clampedPlane (s : State) (i : LineInfo) (g : Nat) : Bool :=
  let c := i.cfg
  let all := s.lfl.outs[g]?.getD []
  let x := c.sourceLn g i.ln
  (s.sourceOf all g x i.ln :: (if c.halved g then [s.sourceOf all g (x + 1) i.ln] else [])).any (fun o =>
    match o with
    | some (o, _) => o.cols.any (fun y => c.inRecords y.pc)
    | none => false)

/-- The chains of all enabled groups have taken line `i`, the last of them just now: the line record that it brings, if
one, is counted where it holds an output that the lower clamp limited (R154, R217, R219). -/
def State.countClamp (s : State) (i : LineInfo) : State :=
  let c := i.cfg
  if c.enabledGroups.all (fun g =>
      match s.nextChainLine g with
      | some j => decide (0 < signedDiff j.ln i.ln)
      | none => true) then
    let s := { s with lfl := { s.lfl with outs := s.lfl.outs.map (heldFor i.ln) } }
    if i.launched && c.recordAt i.ln && c.enabledGroups.any (s.clampedPlane i) then
      { s with lfl := { s.lfl with clampSeg := s.lfl.clampSeg + 1 } }.addReg F.LFL_CLAMP_LO_V 1
    else s
  else s

/-! ### Capture of chain sums (06_calibration_and_redundancy.md R211) -/

/-- Where the sum of column `pc` of group `g` stands in memory. -/
def captureAddr (g pc : Nat) : Nat := dramBase + 0x1000000 + 4 * (16512 * g + pc)

/-- One value put into the sum of a column; the first one begins it. -/
def addSum (m : List Host.Cell) (a v : Nat) (first : Bool) : List Host.Cell :=
  writeBytes m a (leBytes 4 (if first then v else ofLeBytes (readBytes m a 4) + v))

/-- A capture ends (R211). -/
def State.captureEnds (s : State) (kind lines : Nat) : State :=
  ((({ s with cal := { s.cal with capture := none } }.setFlag F.CAL_STAT_CAPT_BUSY false).setReg F.CAL_CAPT_START
    0).setFlag F.CAL_CAPT_DONE true).log 0x0506 [(1, kind), (4, lines)]

/-- The active column groups whose values hold a stage of a self-calibration visit; a visit to a dark group gives no
STALE (R206). -/
def GroupLine.staleCgs (o : GroupLine) : List Nat := o.stale.filter (fun cg => decide (0 < cg) && decide (cg < 257))

/-- A chain output is summed while a capture of its group runs: it is captured, settled and not stale, and comes after
the line executed when START was written (R211). -/
def State.captureSums (s : State) (c : Cfg) (g : Nat) (o : GroupLine) : State :=
  match s.cal.capture with
  | none => s
  | some k =>
    let n := k.counts[g]?.getD 0
    let after := match k.after with
      | some l => decide (0 < signedDiff o.ln l)
      | none => true
    if k.kind == 1 && bitAt k.groups g && decide (n < 2 ^ k.log2n) && after && o.captured && !o.unsettled
        && o.staleCgs.isEmpty then
      let k := { k with counts := k.counts.set g (n + 1) }
      let s := { s with
        mem := o.cols.foldl (fun m (x : ColVal) => addSum m (captureAddr g x.pc) x.v (n == 0)) s.mem
        cal := { s.cal with capture := some k } }
      let s := s.setReg F.CAL_CAPT_LINES_V (k.counts.foldl max 0)
      if (c.enabledGroups.filter (fun x => bitAt k.groups x)).all (fun x => decide (2 ^ k.log2n ≤ k.counts[x]?.getD 0))
      then s.captureEnds 1 (2 ^ k.log2n)
      else s
    else s

/-! ### The state of a detector (R169) -/

/-- Detector `d`. -/
def State.det (s : State) (d : Nat) : Det := s.lfl.dets[d]?.getD Det.reset

/-- Detector `d` replaced. -/
def State.setDet (s : State) (d : Nat) (x : Det) : State :=
  { s with lfl := { s.lfl with dets := s.lfl.dets.set d x } }

/-- The state of detector `d` becomes UNKNOWN (R169). -/
def State.detUnknown (s : State) (d : Nat) : State :=
  (s.setDet d { s.det d with run := none, prev := none, reported := none, offAt := none }).setReg
    (F.LFL_DET_STAT_STATE d) 0

/-- A detector that a boundary has disabled becomes UNKNOWN once it has decided every line from before it (R169). -/
def State.detRests (s : State) (d : Nat) : State :=
  match (s.det d).offAt with
  | none => s
  | some (b, g) =>
    let more := match s.nextChainLine g with
      | some i => decide (signedDiff i.ln b < 0)
      | none => false
    if more || !(s.det d).inq.isEmpty then s else s.detUnknown d

/-- A boundary at line `b` from configuration `old` changes detector `d`: one that it leaves enabled becomes UNKNOWN
with its first tap output from there on, one that it disables when the lines before it are decided (R169). -/
def State.detChanges (s : State) (old : Cfg) (b : LineNo) (d : Nat) : State :=
  if s.flag (F.LFL_DET_CTL_EN d) then s.setDet d { s.det d with offAt := none }
  else if old.get (F.LFL_DET_CTL_EN d) = 1 then
    (s.setDet d { s.det d with offAt := some (b, old.get (F.LFL_DET_CTL_GROUP d)) }).detRests d
  else if (s.det d).offAt.isNone then s.detUnknown d
  else s

/-! ### The chain takes a line -/

/-- The chain of group `g` takes line `x` (R152 to R166). -/
def State.chainTakes (s : State) (i : LineInfo) (g : Nat) (x : GroupLine) : State :=
  let c := i.cfg
  let s := s.lflHandles i.sn
  let old := if i.restarts.contains g then [] else s.lfl.hist[g]?.getD []
  let h := trimHistory (x :: old)
  let s := { s with lfl := { s.lfl with hist := s.lfl.hist.set g h } }
  let out := if c.selected g x.ln then some (c.chainLine g h x) else none
  let s := (List.range 64).foldl (fun s d => s.tapLine c i g d h out x) s
  let s := match out with
    | some o =>
      { s with lfl := { s.lfl with
        out := modAt s.lfl.out g (fun q => q ++ [o]),
        outs := modAt s.lfl.outs g (fun q => { o with cols := o.cols.filter (fun y => y.neg), stale := [], spares := [] } :: q)
        } }.captureSums c g o
    | none => s
  ((List.range 64).foldl State.detRests (s.countClamp i)).lflDrained

/-- The input of a line that was not captured. -/
def LineInfo.missing (i : LineInfo) (g : Nat) : GroupLine :=
  { ln := i.ln, sn := i.sn, ctx := i.ctx, restart := i.restarts.contains g, captured := false, unsettled := false,
    pt := 0, cols := [], stale := [], calExtrap := false, spares := i.spares }

/-- The next line of group `g` goes through its chain: its line sample, or its gap where it was not captured. -/
def State.chainOutput (s : State) (g : Nat) : State :=
  match s.nextChainLine g with
  | none => s
  | some i =>
    if i.launched then
      match (s.cnv.out[g]?.getD []).find? (fun x => x.ln == i.ln) with
      | none => s
      | some x =>
        { s with cnv := { s.cnv with
          out := modAt s.cnv.out g (fun q => q.filter (fun y => decide (0 < signedDiff y.ln i.ln))) } }.chainTakes i g x
    else s.chainTakes i g (i.missing g)

/-! ### Level-event detectors (R167 to R173) -/

/-- The value of a range in level mode: mean, minimum or maximum (R169). -/
def reduceCols (how : Nat) (cols : List (Nat × Nat)) : Nat :=
  let v := cols.map (fun x => x.2)
  match how with
  | 0 => meanDown v
  | 1 => v.foldl min (v.head?.getD 0)
  | _ => v.foldl max 0

/-- The first crossing in scan order, in 1/256 column (R170); a half of the fraction rounds up in either direction
(notes/assumptions/60.md). -/
def scanEdge (fall east : Bool) (th : Nat) : List (Nat × Nat) → Option Nat
  | (p, vp) :: (q, vc) :: r =>
    if (if fall then decide (vc ≤ th) && decide (th < vp) else decide (th ≤ vc) && decide (vp < th)) then
      let d := Int.natAbs (Int.ofNat th - Int.ofNat vp)
      let h := Int.natAbs (Int.ofNat vc - Int.ofNat vp)
      let frac := divRoundUpHalf (256 * d) h
      some (if east then 256 * p + frac else 256 * p - frac)
    else scanEdge fall east th ((q, vc) :: r)
  | _ => none

/-- XFRAC, PT_CROSS and NO_INTERP of a level event (R172). -/
def crossing (r : DetRun) (th stepLines : Nat) : Int × PressTime × Bool :=
  match r.prev with
  | none => (0, r.ptC, true)
  | some (l, vp, ptP) =>
    if Int.ofNat stepLines < signedDiff r.first l then (0, r.ptC, true)
    else
      let h := Int.natAbs (Int.ofNat vp - Int.ofNat r.vc)
      let x := - Int.ofNat ((256 * Int.natAbs (Int.ofNat th - Int.ofNat r.vc) + h / 2) / h)
      (x, r.ptC + BitVec.ofInt 64 (shiftDown (x * signedDiff r.ptC ptP) 8), false)

/-- A level-event record (Table LFL-2). -/
def State.levelRecord (s : State) (c : Cfg) (d : Nat) (r : DetRun) (last : LineNo) (xfrac : Int) (pt : PressTime)
    (noInterp : Bool) (value : Nat) : List Byte :=
  let spanLines := min 65535 (last - r.first).toNat
  leBytes 2 0x0410 ++ leBytes 1 d ++
    leBytes 1 (r.kind + 8 * c.get (F.LFL_DET_CTL_GROUP d) + 64 * boolBit r.sat + 128 * boolBit noInterp) ++
    leBytes 4 r.sn.toNat ++ leBytes 6 r.first.toNat ++ leBytes 2 (codeOf 16 xfrac) ++ leBytes 8 pt.toNat ++
    leBytes 4 value ++ leBytes 1 s.posNow ++ leBytes 1 0 ++ leBytes 2 spanLines

/-- A level-event record is queued: into the event FIFO while it has room, else into the detector's queue, else it is
discarded (R173). -/
def State.queueLevel (s : State) (d : Nat) (rec_ : List Byte) : State :=
  let x := s.det d
  if x.queue = [] ∧ s.fifo.length < 256 then { (s.attend 4) with fifo := s.fifo ++ [.level rec_] }
  else if x.queue.length < 4 then s.setDet d { x with queue := x.queue ++ [rec_] }
  else (s.setDet d { x with lostSeg := x.lostSeg + 1 }).addReg (F.LFL_DET_STAT_LOST d) 1

/-- A pulse of every EVT pin in pulse mode whose mask holds detector `d` (R174). -/
def State.pulseEvt (s : State) (d : Nat) : State :=
  let hit (k : Nat) : Bool := s.reg (F.LFL_EVT_CTL_MODE k) == 1 && bitAt (s.reg (F.LFL_EVT_SRC_V k)) d
  let pins := List.zipWith (fun (k : Nat) (p : EvtPin) => { p with pulse := p.pulse || hit k })
    (List.range s.lfl.pins.length) s.lfl.pins
  { s with lfl := { s.lfl with pins := pins } }

/-- `EDGES` admits an event of a kind (Table LFL-10). -/
def Cfg.admits (c : Cfg) (d kind : Nat) : Bool :=
  bitAt (c.get (F.LFL_DET_CTL_EDGES d)) (match kind with | 0 => 0 | 1 => 1 | 2 => 0 | 3 => 0 | _ => 1)

/-- What an event that `EDGES` admits does (R171); it counts for no counter in debug halt (R83). -/
def State.levelEvent (s : State) (c : Cfg) (d : Nat) (rec_ : List Byte) : State :=
  let s := if s.isHead && s.flag F.THY_SEG_SRC_LVL && s.reg F.THY_SEG_LVL_SEL == d then
      { s with thy := { s.thy with reqLvl := true } }
    else s
  let s := if s.clk.halted then s
    else (s.raiseInput 9 (fun k => k == d) false).captureBy 5 (fun k => k == d) s.pt
  let s := s.pulseEvt d
  if c.get (F.LFL_DET_CTL_REC_EN d) = 1 then s.queueLevel d rec_ else s

/-- An event is decided (R169 to R172). -/
def State.detEvent (s : State) (c : Cfg) (d : Nat) (r : DetRun) (t : TapLine) (th value : Nat) : State :=
  let s := s.setFlag (F.LFL_DET_STAT_FIRED d) true
  if c.admits d r.kind then
    let rec_ :=
      if r.kind < 2 then
        let (x, pt, no) := crossing r th t.stepLines
        s.levelRecord c d r t.ln x pt no value
      else s.levelRecord c d r t.ln 0 t.pt false value
    s.levelEvent c d rec_
  else s

/-- The run of a detector with line `t` in it. -/
def extendRun (old : Option DetRun) (kind : Nat) (t : TapLine) (v : Nat)
    (prev : Option (LineNo × Nat × PressTime)) : DetRun :=
  let new : DetRun := ⟨kind, 1, t.ln, t.sn, v, t.pt, prev, t.sat⟩
  match old with
  | some r => if r.kind = kind then { r with lines := r.lines + 1, sat := r.sat || t.sat } else new
  | none => new

/-- One evaluated line in level mode (R169). -/
def State.detLevel (s : State) (c : Cfg) (d : Nat) (t : TapLine) : State :=
  let v := reduceCols (c.get (F.LFL_DET_CTL_REDUCE d)) t.cols
  let lo := c.get (F.LFL_DET_TH_LO_TH d)
  let hi := c.get (F.LFL_DET_TH_HI_TH d)
  let s := s.setReg (F.LFL_DET_VALUE_V d) v
  let x := s.det d
  let prev := some (t.ln, v, t.pt)
  let run (kind state th : Nat) : State :=
    let r := extendRun x.run kind t v x.prev
    if c.get (F.LFL_DET_CTL_QUAL d) ≤ r.lines then
      ((s.setDet d { x with run := none, prev := prev }).setReg (F.LFL_DET_STAT_STATE d) state).detEvent c d r t th r.vc
    else s.setDet d { x with run := some r, prev := prev }
  match s.reg (F.LFL_DET_STAT_STATE d) with
  | 2 => if v < lo then run 0 1 lo else s.setDet d { x with run := none, prev := prev }
  | 1 => if hi < v then run 1 2 hi else s.setDet d { x with run := none, prev := prev }
  | _ => (s.setDet d { x with run := none, prev := prev }).setReg (F.LFL_DET_STAT_STATE d) (if hi < v then 2 else 1)

/-- One evaluated line in edge mode (R170). -/
def State.detEdge (s : State) (c : Cfg) (d : Nat) (t : TapLine) : State :=
  let east := c.get (F.LFL_DET_CTL_MODE d) == 2
  let fall := c.get (F.LFL_DET_CTL_POL d) == 1
  let th := if fall then c.get (F.LFL_DET_TH_LO_TH d) else c.get (F.LFL_DET_TH_HI_TH d)
  let pos := scanEdge fall east th (if east then t.cols else t.cols.reverse)
  let s := match pos with
    | some p => s.setReg (F.LFL_DET_VALUE_V d) p
    | none => s
  let x := s.det d
  let state := s.reg (F.LFL_DET_STAT_STATE d)
  let kind : Option Nat := match pos with
    | none => if state = 2 then some 3 else none
    | some p =>
      if state = 2 then
        if c.get (F.LFL_DET_EDGE_TOL d) < Int.natAbs (Int.ofNat p - Int.ofNat (x.reported.getD 0)) then some 4 else none
      else some 2
  match kind with
  | none => s.setDet d { x with run := none }
  | some k =>
    let r := extendRun x.run k t (pos.getD 0) none
    if c.get (F.LFL_DET_CTL_QUAL d) ≤ r.lines then
      ((s.setDet d { x with run := none, reported := if k = 3 then x.reported else pos }).setReg
        (F.LFL_DET_STAT_STATE d) (if k = 3 then 1 else 2)).detEvent c d r t th (pos.getD 0)
    else s.setDet d { x with run := some r }

/-- DETECTOR_DECISION: the oldest tap output of detector `d` is evaluated and decided (R168 to R171). -/
def State.decide_ (s : State) (d : Nat) : State :=
  match (s.det d).inq with
  | [] => s.detRests d
  | t :: rest =>
    let s := s.setDet d { s.det d with inq := rest }
    let c := s.lineCfg t.ln
    let s := if t.fresh then s.detUnknown d else s
    if !t.captured || t.cols.isEmpty || (t.unsettled && c.get (F.LFL_DET_CTL_EVAL_UNSETTLED d) == 0) then s
    else if c.get (F.LFL_DET_CTL_MODE d) = 1 then s.detLevel c d t
    else s.detEdge c d t

def execDetectorDecision (d : Nat) (s : State) : Res := .next (s.decide_ d)

/-- LEVEL_RECORD_DEQUEUE (R173). -/
def State.dequeueLevel (s : State) (d : Nat) : State :=
  match (s.det d).queue with
  | [] => s
  | r :: rest =>
    if s.fifo.length < 256 then
      let s := s.setDet d { s.det d with queue := rest }
      { (s.attend 4) with fifo := s.fifo ++ [.level r] }
    else s

def execLevelRecordDequeue (d : Nat) (s : State) : Res := .next (s.dequeueLevel d)

/-! ### EVT pins (R174, R175) -/

/-- The detectors of a mask are in state `st` (1 LOW or LOST, 2 HIGH or FOUND). -/
def State.anyDet (s : State) (mask st : Nat) : Bool :=
  (List.range 64).any (fun d => bitAt mask d && s.reg (F.LFL_DET_STAT_STATE d) == st)

/-- What EVT pin `k` shows: none is high-impedance (R174, R175). -/
def State.evtPin (s : State) (k : Nat) : Option Bool :=
  match s.lfl.pins[k]? with
  | none => none
  | some p =>
    if !p.driven then none
    else
      let pol := s.flag (F.LFL_EVT_CTL_POL k)
      if p.inactive then some pol
      else
        let level := match s.reg (F.LFL_EVT_CTL_MODE k) with
          | 0 => false
          | 1 => p.pulse
          | 2 => s.anyDet (s.reg (F.LFL_EVT_SRC_V k)) 1
          | _ => s.anyDet (s.reg (F.LFL_EVT_SRC_V k)) 2
        some (level != pol)

/-- EVT_PULSE_END (R174). -/
def execEvtPulseEnd (k : Nat) (s : State) : Res :=
  .next { s with lfl := { s.lfl with pins := modAt s.lfl.pins k (fun p => { p with pulse := false }) } }

/-- Every EVT pin driven or not, and held at its inactive level or not (R174, R175). -/
def State.evtDrive (s : State) (driven inactive : Bool) : State :=
  { s with lfl := { s.lfl with pins := s.lfl.pins.map (fun p => { p with driven := driven, inactive := inactive }) } }

end Sys2Proof.Machine
end

