-- ==== Sys2Proof/Machine/Calibration.lean ====
section
/-! DEFINITION. Calibration: temperature sets, working sets, the apply unit, dark tracking, fill, converter
self-calibration and captures (06_calibration_and_redundancy.md). -/

namespace Sys2Proof.Machine

/-! ### Set slots (R189 to R193) -/

/-- Where slot `k` stands in memory. -/
def slotBase (k : Nat) : Nat := dramBase + 0x200000 * k

/-- TAU of slot `k` (Table CAL-2). -/
def State.slotTau (s : State) (k : Nat) : Int := signedOf 16 (ofLeBytes (readBytes s.mem (slotBase k + 8) 2))

/-- The check of slot `k` against the slots of mask `valid`: the reason it fails for, if any (R191). -/
def State.slotFails (s : State) (valid k : Nat) : Option Nat :=
  let b := slotBase k
  if readBytes s.mem b 6 != [0x56, 0x4C, 0x43, 0x53, 0x01, 0x00] then some 1
  else if (crc32 (readBytes s.mem b 4092 ++ readBytes s.mem (b + 0x1000) 0x1E5430)).toNat
      != ofLeBytes (readBytes s.mem (b + 4092) 4) then some 2
  else if (List.range 8).any (fun j => bitAt valid j && decide ((s.slotTau j - s.slotTau k).natAbs ≤ 32)) then some 3
  else none

/-- Slot `k` is checked: it becomes enabled and valid, or it is rejected, with an event where `log` (R191, R193). -/
def State.checkSlot (s : State) (log : Bool) (k : Nat) : State :=
  match s.slotFails (s.reg F.CAL_SETS_VALID) k with
  | none => ((s.setBitOf F.CAL_SETS_EN k).setBitOf F.CAL_SETS_VALID k)
  | some r =>
    let s := (s.setReg F.CAL_SETS_EN (withBit (s.reg F.CAL_SETS_EN) k false)).setBitOf F.CAL_SETS_REJECTED k
    if log then s.log 0x0503 [(1, k), (1, r)] else s

/-- A write to slot `k` of store DRAM is locked out (R192): the slot that offset `d` lies in. -/
def State.lockedSlot (s : State) (d : Nat) : Option Nat :=
  if d < 0x1000000 then
    if bitAt (s.reg F.CAL_SETS_EN) (d / 0x200000) then some (d / 0x200000) else none
  else none

/-! ### Working sets (R194 to R197) -/

/-- The temperature of physical column `p`, in 1/16 °C (R194). -/
def WorkSet.theta (w : WorkSet) (p : Nat) : Int :=
  if p < 1088 then w.zones[0]?.getD 0
  else if 15424 < p then w.zones[7]?.getD 0
  else
    let k := min ((p - 1088) / 2048) 6
    let t := w.zones[k]?.getD 0
    t + shiftDown (((w.zones[k + 1]?.getD 0) - t) * Int.ofNat (p - (1088 + 2048 * k)) + 1024) 11

/-- The bracketing sets of a temperature, in a list with TAU rising, and the weight of the upper one (R195). -/
def bracket (th : Int) : List TempSet → Option (TempSet × TempSet × Nat)
  | [] => none
  | [a] => some (a, a, 0)
  | a :: b :: r =>
    if th < a.tau then some (a, a, 0)
    else if th ≤ b.tau then
      let d := (b.tau - a.tau).toNat
      some (a, b, ((th - a.tau).toNat * 1024 + d / 2) / d)
    else bracket th (b :: r)

/-- A coefficient interpolated by weight `w` (R195). -/
def interpolate (a b : Int) (w : Nat) : Int := a + shiftDown ((b - a) * Int.ofNat w + 512) 10

/-- A signed and an unsigned 16-bit field of a set. -/
def TempSet.s16 (x : TempSet) (o : Nat) : Int := signedOf 16 (ofLeBytes (readBytes x.bytes o 2))
def TempSet.u16 (x : TempSet) (o : Nat) : Nat := ofLeBytes (readBytes x.bytes o 2)

/-- DS, PG and LIN of a pixel entry at slot offset `o` for the gain `h` (Table CAL-3, R190). -/
def TempSet.pixel (x : TempSet) (o h : Nat) : Int × Nat × Int :=
  let bad := bitAt (x.u16 (o + 12)) 0
  (x.s16 (o + 6 * h), if bad then 0 else x.u16 (o + 6 * h + 2), x.s16 (o + 6 * h + 4))

/-- The last seed record of a kind that covers column `p`, as its entry bytes (R372). -/
def seedEntry (kind sel p : Nat) : Nat → List Byte → Option (List Byte) → Option (List Byte)
  | 0, _, a => a
  | n + 1, bs, a =>
    let hit := leAt bs 4 1 == kind && leAt bs 5 1 == sel && decide (leAt bs 0 2 ≤ p) && decide (p ≤ leAt bs 2 2)
    seedEntry kind sel p n (bs.drop 24) (if hit then some ((bs.drop 8).take 16) else a)

/-- The seed's entry, from its records (R372). -/
def seedFind (seed : Option (List Byte)) (kind sel p : Nat) : Option (List Byte) :=
  match seed with
  | none => none
  | some bs => seedEntry kind sel p (bs.length / 24) bs none

/-- The pixel entry of group `g`, column `p` at gain `h` (R195, R197). -/
def WorkSet.pixel (w : WorkSet) (g p h : Nat) : Int × Nat × Int :=
  let o := 0x1000 + 16 * (16512 * g + p)
  match bracket (w.theta p) w.sets with
  | some (a, b, k) =>
    let x := a.pixel o h
    let y := b.pixel o h
    (interpolate x.1 y.1 k,
      if x.2.1 = 0 ∨ y.2.1 = 0 then 0 else (interpolate (Int.ofNat x.2.1) (Int.ofNat y.2.1) k).toNat,
      interpolate x.2.2 y.2.2 k)
  | none =>
    match seedFind w.seed 0 g p with
    | some e =>
      let bad := bitAt (leAt e 12 2) 0
      (signedOf 16 (leAt e (6 * h) 2), if bad then 0 else leAt e (6 * h + 2) 2, signedOf 16 (leAt e (6 * h + 4) 2))
    | none => (0, 0x8000, 0)

/-- OFS and GAIN of converter `i` (R195, R197). -/
def WorkSet.conv (w : WorkSet) (i : Nat) : Int × Nat :=
  let (cg, b, m) := convPlace i
  let p := if m = 64 then 64 * cg + 32 else i / 3
  let o := 0x184000 + 8 * i
  match bracket (w.theta p) w.sets with
  | some (x, y, k) =>
    (interpolate (x.s16 o) (y.s16 o) k, (interpolate (Int.ofNat (x.u16 (o + 2))) (Int.ofNat (y.u16 (o + 2))) k).toNat)
  | none =>
    match (if m = 64 then seedFind w.seed 2 b cg else seedFind w.seed 1 b p) with
    | some e => (signedOf 16 (leAt e 0 2), leAt e 2 2)
    | none => (0, 0x8000)

/-- A working set counts as extrapolated over a list of columns (R196, R197). -/
def WorkSet.outside (w : WorkSet) (tol : Nat) (cols : List Nat) : Bool :=
  match w.sets.head?, w.sets.getLast? with
  | some lo, some hi =>
    cols.any (fun p => decide (w.theta p < lo.tau - Int.ofNat tol) || decide (hi.tau + Int.ofNat tol < w.theta p))
  | _, _ => true

/-- The columns of the array window and of both dark groups (R51, R52). -/
def Cfg.columns (c : Cfg) : List Nat :=
  (List.range 16512).filter (fun p =>
    decide (p < 64) || decide (16448 ≤ p) || (decide (c.winFirst ≤ p) && decide (p ≤ c.winLast)))

/-- The slot of memory as a set. -/
def State.takeSet (s : State) (k : Nat) : TempSet :=
  let b := slotBase k
  ⟨k, s.slotTau k, (s.mem.filter (fun x => decide (b ≤ x.1) && decide (x.1 < b + 0x200000))).map (fun x => (x.1 - b, x.2))⟩

/-- A set put into a list with TAU rising. -/
def insertSet : List TempSet → TempSet → List TempSet
  | [], x => [x]
  | y :: r, x => if x.tau < y.tau then x :: y :: r else y :: insertSet r x

/-- The slots enabled and valid. -/
def State.validSets (s : State) : List Nat :=
  (List.range 8).filter (fun k => bitAt (s.reg F.CAL_SETS_EN) k && bitAt (s.reg F.CAL_SETS_VALID) k)

/-- The working set for some zone readings (R194 to R197). -/
def State.buildSet (s : State) (zones : List Int) : WorkSet :=
  let w : WorkSet := ⟨zones, (s.validSets.map s.takeSet).foldl insertSet [], s.cal.seed, true⟩
  { w with extrap := w.outside (s.reg F.CAL_TEMP_EXT_TOL) (Cfg.columns s.regs) }

/-! ### Rebuild and swap (R198 to R201) -/

/-- The zone readings of the last completed round; an invalid one keeps the value of the working set (R427). -/
def State.zonesNow (s : State) : List Int :=
  (List.range 8).map (fun k =>
    if s.flag (F.HKP_CH_VALID k) then signedOf 16 (s.reg (F.HKP_CH_VALUE k)) else s.cal.work.zones[k]?.getD 0)

/-- A trigger of a rebuild (R198, R199). -/
def State.triggerRebuild (s : State) : State :=
  if s.flag F.CAL_STAT_BUILDING || s.cal.shadow.isSome then { s with cal := { s.cal with again := true } }
  else { s with cal := { s.cal with building := some s.zonesNow } }.setFlag F.CAL_STAT_BUILDING true

/-- REBUILD (R5, R198, R199): the bit reads 1 until the rebuild that answers it is complete. -/
def State.requestRebuild (s : State) : State :=
  let waits := s.flag F.CAL_STAT_BUILDING || s.cal.shadow.isSome
  let s := s.triggerRebuild
  if waits then { s with cal := { s.cal with askedAgain := true } } else { s with cal := { s.cal with asked := true } }

def execRebuild (s : State) : Res := .next (s.hostAction 0x60000 State.requestRebuild)

/-- The remembered trigger starts its rebuild (R199). -/
def State.rebuildAgain (s : State) : State :=
  if s.cal.again then
    { s with cal := { s.cal with again := false, asked := s.cal.askedAgain, askedAgain := false } }.triggerRebuild
  else s

/-- CAL_ZONEk for a working set (Table CAL-15). -/
def State.showZone (s : State) (w : WorkSet) (k : Nat) : State :=
  let t := w.zones[k]?.getD 0
  let tol := Int.ofNat (s.reg F.CAL_TEMP_EXT_TOL)
  let (lo, hi) := match bracket t w.sets with
    | some (a, b, _) => (a.slot, b.slot)
    | none => (0, 0)
  let clamped := match w.sets.head?, w.sets.getLast? with
    | some a, some b => decide (t < a.tau - tol) || decide (b.tau + tol < t)
    | _, _ => true
  (((s.setReg (F.CAL_ZONE_TEMP k) (codeOf 16 t)).setReg (F.CAL_ZONE_LO_SET k) lo).setReg (F.CAL_ZONE_HI_SET k)
    hi).setFlag (F.CAL_ZONE_CLAMPED k) clamped

/-- The tables and sets kept for lines before the ones in force: those that some line of the ledger still needs. -/
def State.keepFor {α : Type} (s : State) (l : List (LineNo × α)) : List (LineNo × α) :=
  l.filter (fun x => s.lines.any (fun i => decide (signedDiff i.ln x.1 < 0)))

/-- The built set comes into force for every output from line `b` on (R200, R201). -/
def State.swapSet (s : State) (b : LineNo) (sn : SegNo) : State :=
  match s.cal.shadow with
  | none => s
  | some (w, _) =>
    let old := s.cal.work
    let s := { s with cal := { s.cal with
      work := w, prevWork := s.keepFor (s.cal.prevWork ++ [(b, old, s.cal.epoch)]), shadow := none, epoch := s.cal.epoch + 1 } }
    let s := (s.setFlag F.CAL_STAT_PENDING false).addReg F.CAL_SWAPS_V 1
    let s := (s.setReg F.CAL_SWAP_SN_V sn.toNat).setReg F.CAL_SWAP_PT_V s.pt.toNat
    let s := (List.range 8).foldl (fun s k => s.showZone w k) s
    let s := (s.setFlag F.CAL_STAT_SEED w.sets.isEmpty).setFlag F.CAL_STAT_EXTRAP w.extrap
    let s := s.setReg F.CAL_STAT_SETS_USED w.sets.length
    let s := s.log 0x0501 [(4, sn.toNat), (1, w.sets.foldl (fun m x => m + 2 ^ x.slot) 0), (1, boolBit w.extrap)]
    let s := if w.extrap = old.extrap then s else s.log 0x0502 [(1, boolBit w.extrap), (4, sn.toNat)]
    s.rebuildAgain

/-- The line after the last one executed. -/
def State.nextLn (s : State) : LineNo := (s.chv.lastExec.map (fun l => l + 1)).getD 0

/-- A built set is swapped in at once while Thyme is stopped (R200). -/
def State.swapStopped (s : State) : State := if s.isRunning then s else s.swapSet s.nextLn s.snNow

/-- REBUILD_COMPLETE (R197, R198, R200). -/
def State.rebuilt (s : State) : State :=
  match s.cal.building with
  | none => s
  | some zones =>
    let w := s.buildSet zones
    let s := { s with cal := { s.cal with building := none, asked := false, shadow := some (w, s.pt) } }
    let s := (s.setFlag F.CAL_STAT_BUILDING false).setFlag F.CAL_STAT_PENDING true
    let s := if w.sets.isEmpty then s.log 0x0507 [] else s
    s.swapStopped

def execRebuildComplete (s : State) : Res := .next s.rebuilt

/-- The EN bits take the value `en`: cleared bits invalidate their slots, and set ones have theirs checked in ascending
order (R191); a change of the valid sets triggers a rebuild (R198). -/
def State.setSets (s : State) (en : Nat) : State :=
  let old := s.reg F.CAL_SETS_EN
  let before := s.validSets
  let bits (f : Nat → Bool) (v : Nat) : Nat := (List.range 8).foldl (fun n k => if f k then withBit n k false else n) v
  let cleared (k : Nat) : Bool := bitAt old k && !bitAt en k
  let s := (s.setReg F.CAL_SETS_EN (bits cleared old)).setReg F.CAL_SETS_VALID (bits cleared (s.reg F.CAL_SETS_VALID))
  let s := (List.range 8).foldl (fun s k => if bitAt en k && !bitAt old k then s.checkSlot true k else s) s
  if s.validSets = before then s else s.triggerRebuild

/-- CAL_SETS_WRITE (R191); class L: while Thyme runs, it waits for the line boundary (R9, R12). -/
def execCalSetsWrite (en : Nat) (s : State) : Res :=
  .next (s.hostLive F.CAL_SETS_EN.off (fun s =>
    if s.isRunning then { s with live := Assoc.insert s.live F.CAL_SETS_EN.key (en % 256) }
    else s.setSets (en % 256)))

/-! ### Self-calibration (R202 to R208) -/

/-- The measured OFS and GAIN of a converter in a table, or those of the working set that the table began with (R204).
-/
def measured (t : Assoc (Int × Nat) × WorkSet) (i : Nat) : Int × Nat := (Assoc.find t.1 i).getD (t.2.conv i)

/-- The pending OFS and GAIN of a converter. -/
def State.pending_ (s : State) (i : Nat) : Int × Nat :=
  match Assoc.find s.cal.pend i with
  | some (o, g, _) => (o, g)
  | none => s.cal.measBase.conv i

/-- The visit estimate of OFS and GAIN; none where it is out of range (R204). -/
def estimateConv (fs m0 m2 : Nat) : Option (Int × Nat) :=
  let ofs := ((Int.ofNat m0 - Int.ofNat (fs / 16)) * 1048576).tdiv (Int.ofNat fs)
  if m2 ≤ m0 then none
  else
    let gain := 14 * fs * 2048 / (m2 - m0)
    if 41943 < ofs.natAbs ∨ gain < 29491 ∨ 36044 < gain then none else some (ofs, gain)

/-- SC_RANGE for a converter (R204). -/
def State.logScRange (s : State) (i : Nat) : State :=
  let (cg, b, m) := convPlace i
  s.log 0x0505 [(2, cg), (1, b), (2, m)]

/-- One converter's visit updates its pending values, or its estimate is discarded (R204). -/
def State.visitConv (s : State) (fs i m0 m2 : Nat) : State :=
  match estimateConv fs m0 m2 with
  | none => s.logScRange i
  | some (o, g) =>
    let (po, pg) := s.pending_ i
    let k := s.reg F.CAL_SC_SHIFT
    let no := po + shiftDown (o - po) k
    let ng := (Int.ofNat pg + shiftDown (Int.ofNat g - Int.ofNat pg) k).toNat
    { s with cal := { s.cal with pend := Assoc.insert s.cal.pend i (no, ng, s.pt) } }

/-- SC_VISIT_END: the codes of each converter of the visited pair, those at TL0 and those at TL2; a visit that updates
the pair goes into the log (R203 to R207). -/
def State.visitEnd (s : State) (codes : List (Nat × List Nat × List Nat)) : State :=
  match s.cal.visit with
  | none => s
  | some (cg, b, at0, at2, fs) =>
    let pair := 3 * cg + b
    let mine := codes.filter (fun x => (convPlace x.1).1 == cg && (convPlace x.1).2.1 == b)
    let s := { s with cal := { s.cal with visit := none } }
    let s := if at0 then
        let m : Assoc Nat := mine.foldl (fun m x => Assoc.insert m x.1 (meanDown x.2.1)) []
        { s with cal := { s.cal with tl0 := Assoc.insert s.cal.tl0 pair m } }
      else s
    if at2 then
      let m0 := (Assoc.find s.cal.tl0 pair).getD []
      let updates := mine.any (fun (x : Nat × List Nat × List Nat) =>
        match Assoc.find m0 x.1 with
        | some v => (estimateConv fs v (meanDown x.2.2)).isSome
        | none => false)
      let s := mine.foldl (fun (s : State) (x : Nat × List Nat × List Nat) =>
        match Assoc.find m0 x.1 with
        | some v => s.visitConv fs x.1 v (meanDown x.2.2)
        | none => s) s
      let (so, sg) := s.pending_ (spareConv cg b)
      let n := match Assoc.find s.cal.scLog pair with
        | some (_, n, _, _) => n
        | none => 0
      if updates then { s with cal := { s.cal with scLog := Assoc.insert s.cal.scLog pair (s.pt, (n + 1) % 2 ^ 32, so, sg) } }
      else s
    else s

def execScVisitEnd (codes : List (Nat × List Nat × List Nat)) (s : State) : Res := .next (s.visitEnd codes)

/-- SC_FULL (R208). -/
def State.scFull (s : State) : State :=
  if s.isRunning then s.writeIgnored 0x60300 5 else (s.setFlag F.CAL_STAT_FULL_BUSY true).setReg F.CAL_SC_FULL 1

def execScFull (s : State) : Res := .next (s.hostAction 0x60300 State.scFull)

/-- One converter of a full measurement (R208). -/
def State.fullConv (s : State) (fs : Nat) (x : Nat × Nat × Nat) : State :=
  match estimateConv fs x.2.1 x.2.2 with
  | none => s.logScRange x.1
  | some (o, g) =>
    { s with cal := { s.cal with
      pend := Assoc.insert s.cal.pend x.1 (o, g, s.pt), active := Assoc.insert s.cal.active x.1 (o, g) } }

/-- The converter table of slot `k` written from the measured table (R211, KIND 2). -/
def State.writeConvTable (s : State) (k : Nat) : State :=
  { s with mem := (List.range 50310).foldl (fun m i =>
      let (o, g) := measured (s.cal.active, s.cal.measBase) i
      writeBytes m (slotBase k + 0x184000 + 8 * i)
        (leBytes 2 (codeOf 16 o) ++ leBytes 2 g ++ leBytes 1 (boolBit (s.cnv.fails.contains i)) ++ leBytes 3 0)) s.mem }

/-- SC_FULL_DONE: the means of each converter at TL0 and TL2 (R208, R211). -/
def State.fullDone (s : State) (means : List (Nat × Nat × Nat)) : State :=
  if s.flag F.CAL_STAT_FULL_BUSY then
    let s := means.foldl (fun s x => s.fullConv (Cfg.fs s.regs) x) s
    let s := (s.setFlag F.CAL_STAT_FULL_BUSY false).setReg F.CAL_SC_FULL 0
    match s.cal.capture with
    | some k => if k.kind = 2 then (s.writeConvTable k.slot).captureEnds 2 0 else s
    | none => s
  else s

def execScFullDone (means : List (Nat × Nat × Nat)) (s : State) : Res := .next (s.fullDone means)

/-- CAPT_START (R211). -/
def State.startCapture (s : State) : State :=
  let k : Capture := ⟨s.reg F.CAL_CAPT_KIND, s.reg F.CAL_CAPT_LOG2N, s.reg F.CAL_CAPT_GROUPS, s.reg F.CAL_CAPT_SLOT,
    s.chv.lastExec, List.replicate 6 0⟩
  let begin_ (s : State) : State :=
    (({ s with cal := { s.cal with capture := some k } }.setFlag F.CAL_STAT_CAPT_BUSY true).setReg F.CAL_CAPT_START
      1).setReg F.CAL_CAPT_LINES_V 0
  match k.kind with
  | 1 => begin_ s
  | 2 =>
    if s.isRunning || bitAt (s.reg F.CAL_SETS_EN) k.slot then s.writeIgnored 0x60500 5
    else (begin_ s).setFlag F.CAL_STAT_FULL_BUSY true
  | _ => s

def execCaptStart (s : State) : Res := .next (s.hostAction 0x60500 (fun s => s.startCapture))

/-- The active table as it stands is kept for the lines before `b` (R205). -/
def State.keepActive (s : State) (b : LineNo) : State :=
  { s with cal := { s.cal with prevActive := s.keepFor (s.cal.prevActive ++ [(b, s.cal.active, s.cal.measBase)]) } }

/-- At a START with line `ln` the measured tables take the values of the working set in force, and the visits begin anew
(R203 to R205); dark references begin at the next output (R185). -/
def State.calStart (s : State) (ln : LineNo) : State :=
  let s := s.keepActive ln
  { s with cal := { s.cal with
    measBase := s.cal.work, active := [], pend := [], tl0 := [], visited := [],
    dark := s.cal.dark.map (fun x => (x.1, x.2.1, none)) } }

/-- At a boundary at line `b` with launch tick `t`: ripe pending values become active, and a ripe built set is swapped
in (R200, R205). -/
def State.calBoundary (s : State) (b : LineNo) (t : PressTime) (sn : SegNo) : State :=
  let ripe (p : PressTime) : Bool := decide (0 ≤ signedDiff t (p + 256))
  let act := s.cal.pend.foldl (fun (a : Assoc (Int × Nat)) x =>
    if ripe x.2.2.2 then Assoc.insert a x.1 (x.2.1, x.2.2.1) else a) s.cal.active
  let s := s.keepActive b
  let s := { s with cal := { s.cal with active := act } }
  match s.cal.shadow with
  | some (_, p) => if ripe p then s.swapSet b sn else s
  | none => s

/-! ### The apply unit (R178 to R187) -/

/-- What is kept for line `l` in a list whose entries serve the lines before their own, oldest first. -/
def keptFor {α : Type} (l : LineNo) (kept : List (LineNo × α)) : Option α :=
  (kept.find? (fun x => decide (signedDiff l x.1 < 0))).map (fun x => x.2)

/-- The working set for line `l`, and its number (R200). -/
def State.workFor (s : State) (l : LineNo) : WorkSet × Nat :=
  (keptFor l s.cal.prevWork).getD (s.cal.work, s.cal.epoch)

/-- The active measured table for line `l`, and the working set that it began with (R205). -/
def State.activeFor (s : State) (l : LineNo) : Assoc (Int × Nat) × WorkSet :=
  (keptFor l s.cal.prevActive).getD (s.cal.active, s.cal.measBase)

/-- hf (R179). -/
def Cfg.hf (c : Cfg) (g : Nat) : Nat :=
  ((c.coefs g).foldl (fun (n : Int) x => if c.zeroSum g && decide (x < 0) then n else n + x) 0).toNat * c.decim

/-- hs (R179). -/
def Cfg.hs (c : Cfg) (g : Nat) : Nat := c.get (F.LFL_GRP_RSHIFT g) + c.fshift g + c.get F.LFL_CTL_DSHIFT

/-- K (R179). -/
def Cfg.kRows (c : Cfg) (g : Nat) : Nat := c.abin g * c.tdi g

/-- The conversion gain in µV/e⁻ and the full well in electrons (R179). -/
def Cfg.gainAndWell (c : Cfg) (g : Nat) : Nat × Nat :=
  if c.get (F.ARR_GRP_HCG g) = 1 then (48, 15500) else (12, 62000)

/-- eg (R179). -/
def Cfg.eg (c : Cfg) (g : Nat) : Nat :=
  divRoundUpHalf (2 ^ 32 * c.get (F.CAL_SCALE_SCALE g) * 832000 * 2 ^ c.hs g)
    (65536 * c.hf g * c.fs * (c.gainAndWell g).1)

/-- iw (R179). -/
def Cfg.iw (c : Cfg) (g : Nat) : Nat :=
  divRoundUpHalf (2 ^ 32 * 65536) (c.kRows g * (c.gainAndWell g).2 * c.get (F.CAL_SCALE_SCALE g))

/-- z0: the dark level that the entries predict (R180). -/
def Cfg.z0 (c : Cfg) (g : Nat) (ofs ds : Int) : Int :=
  shiftRoundUp (Int.ofNat (c.hf g * c.kRows g * c.fs) * (65536 + ofs + ds)) (20 + c.hs g)

/-- The converter and pixel entries of a column: OFS, GAIN, DS, PG, LIN; `spares` are the substitutions under which the
newest stage was converted (R178, R205). -/
def State.entries (s : State) (c : Cfg) (i : LineInfo) (g : Nat) (spares : List (Nat × Nat × Nat)) (pc : Nat) :
    Int × Nat × Int × Nat × Int :=
  let conv := convOf spares pc (bankOf g)
  let w := (s.workFor i.ln).1
  let (ofs, gain) := if c.get F.CAL_SC_EN = 1 then measured (s.activeFor i.ln) conv else w.conv conv
  let (ds, pg, lin) := w.pixel g pc (c.get (F.ARR_GRP_HCG g))
  (ofs, gain, ds, pg, lin)

/-- The calibrated value of a code with dark term `dd`: value, SAT, lower clamp (R180, R181). -/
def Cfg.calValue (c : Cfg) (g z : Nat) (e : Int × Nat × Int × Nat × Int) (dd : Int) : Nat × Bool × Bool :=
  let (ofs, gain, ds, pg, lin) := e
  let out (y : Int) : Nat × Bool × Bool :=
    if y < 0 then (0, false, true) else if 0xFFFF < y then (0xFFFF, true, false) else (y.toNat, false, false)
  if c.get (F.CAL_GRP_MODE g) = 0 then out (shiftDown (Int.ofNat (z + 32)) 6)
  else
    let u := if c.zeroSum g then Int.ofNat z - 0x200000 else Int.ofNat z - c.z0 g ofs ds - dd
    let ug := shiftRoundUp (u * Int.ofNat gain * Int.ofNat pg) 30
    let y := shiftRoundUp (ug * Int.ofNat (c.eg g)) 32
    if c.zeroSum g then out (0x8000 + y)
    else if 0 < y then
      let q := shiftDown (y * y * Int.ofNat (c.iw g)) 32
      out (y + shiftDown (q * lin + 16384) 15)
    else out y

/-- A column of a group is defective (R187). -/
def State.defective (s : State) (c : Cfg) (i : LineInfo) (g pc : Nat) : Bool :=
  (((s.workFor i.ln).1.pixel g pc (c.get (F.ARR_GRP_HCG g))).2.1 == 0) || s.convDefective i.spares pc (bankOf g)

/-- The dark mean of one end over its remaining columns (R185); none where none remains. -/
def State.darkMean (s : State) (c : Cfg) (i : LineInfo) (g : Nat) (o : GroupLine) (east : Bool) : Option Int :=
  let guard := c.get F.ARR_DARK_GUARD
  let mine := o.cols.filter (fun x =>
    (if east then decide (16448 + guard ≤ x.pc) && decide (x.pc < 16512) else decide (x.pc + guard < 64))
      && !s.defective c i g x.pc)
  let ds := mine.map (fun x =>
    let e := s.entries c i g o.spares x.pc
    Int.ofNat x.v - c.z0 g e.1 e.2.2.1)
  if ds = [] then none else some ((sumInt ds).fdiv (Int.ofNat ds.length))

/-- The dark references after an output line (R185, R186). -/
def State.darkUpdate (s : State) (c : Cfg) (i : LineInfo) (g : Nat) (o : GroupLine) : Int × Int × Option Nat :=
  let old := s.cal.dark[g]?.getD (0, 0, none)
  let epoch := (s.workFor i.ln).2
  if !o.captured || o.stale.any (fun cg => cg == 0 || cg == 257) then old
  else
    let next (r v : Int) : Int := if old.2.2 = some epoch then r + shiftDown (v - r) (c.get F.CAL_DARK_ALPHA) else v
    match s.darkMean c i g o false, s.darkMean c i g o true with
    | some w, some e => (next old.1 w, next old.2.1 e, some epoch)
    | some w, none => let r := next old.1 w; (r, r, some epoch)
    | none, some e => let r := next old.2.1 e; (r, r, some epoch)
    | none, none => old

/-- dd of the active column `p` (R185). -/
def darkTerm (r : Int × Int × Option Nat) (p : Nat) : Int :=
  r.1 + divRoundAway ((r.2.1 - r.1) * (Int.ofNat p - 32)) 16447

/-- The fill value of a defective column from the window's values (R187). -/
def fillValue (reach : Nat) (ok : Nat → Option ColVal) (pc : Nat) : ColVal :=
  let west := (List.range reach).findSome? (fun k => ok (pc - (k + 1)))
  let east := (List.range reach).findSome? (fun k => ok (pc + (k + 1)))
  match west, east with
  | some a, some b => ⟨pc, (a.v + b.v + 1) / 2, a.sat || b.sat, false⟩
  | some a, none => ⟨pc, a.v, a.sat, false⟩
  | none, some b => ⟨pc, b.v, b.sat, false⟩
  | none, none => ⟨pc, 0, false, false⟩

/-- CAL_FILL at the close of segment `sn` (R188). -/
def State.closeFill (s : State) (sn : SegNo) : State :=
  match s.cal.fillCols with
  | [] => s
  | first :: _ =>
    let cols := s.cal.fillCols
    { s with cal := { s.cal with fillCols := [] } }.logClose 0x0509 sn
      [(4, sn.toNat), (4, cols.length), (2, cols.foldl min first)]

/-- The apply units handle an output of segment `sn` (R491). -/
def State.calHandles (s : State) (sn : SegNo) : State :=
  let s := match s.cal.seg with
    | some old => if old = sn then s else s.closeFill old
    | none => s
  { s with cal := { s.cal with seg := some sn } }

/-- After a stop with no output left, the open segment closes (R491). -/
def State.calDrained (s : State) : State :=
  if s.isRunning || s.arr.unconverted.isSome || !s.arr.frames.isEmpty || !s.chainsDone
      || s.lfl.out.any (fun q => !q.isEmpty) then s
  else
    match s.cal.seg with
    | some old => let s := s.closeFill old; { s with cal := { s.cal with seg := none } }
    | none => s

/-- CHAIN_OUTPUT. The last lines of a stop may give no output: the apply units have then handled their last one already
(R188, R491). -/
def execChainOutput (g : Nat) (s : State) : Res := .next (s.chainOutput g).calDrained

/-- Columns that a line has filled are counted (R188). -/
def State.countFills (s : State) (pcs : List Nat) : State :=
  { s with cal := { s.cal with fillCols := pcs.foldl (fun (l : List Nat) (pc : Nat) =>
      if l.contains (pc - 64) then l else l ++ [pc - 64]) s.cal.fillCols } }.addReg F.CAL_FILLED_V pcs.length

/-- The calibrated line of a captured chain output (R180 to R188). -/
def State.applyLine (s : State) (i : LineInfo) (g : Nat) (o : GroupLine) : State :=
  let c := i.cfg
  let track := c.get (F.CAL_GRP_DARK_TRACK g) == 1
  let r := if track then s.darkUpdate c i g o else s.cal.dark[g]?.getD (0, 0, none)
  let active := o.cols.filter (fun x => c.inRecords x.pc)
  let ys := active.map (fun x =>
    let (v, sat, neg) := c.calValue g x.v (s.entries c i g o.spares x.pc) (if track then darkTerm r x.pc else 0)
    (⟨x.pc, v, x.sat || sat, neg⟩ : ColVal))
  let fill := c.get (F.CAL_GRP_FILL g) == 1
  let bad := if fill then (ys.filter (fun y => s.defective c i g y.pc)).map (fun y => y.pc) else []
  let ok (pc : Nat) : Option ColVal := if bad.contains pc then none else ys.find? (fun y => y.pc == pc)
  let cols := ys.map (fun y =>
    if bad.contains y.pc then fillValue (c.get (F.CAL_GRP_FILL_REACH g)) ok y.pc else y)
  let extrap := c.get (F.CAL_GRP_MODE g) == 1 && (s.workFor i.ln).1.extrap
  let out : GroupLine := { o with cols := cols, calExtrap := extrap }
  let s := { s with cal := { s.cal with dark := s.cal.dark.set g r, out := modAt s.cal.out g (fun q => q ++ [out]) } }
  s.countFills bad

/-- CALIBRATED_SAMPLE: the oldest chain output of group `g` goes through its apply unit (R178, R182). -/
def State.calibrate (s : State) (g : Nat) : State :=
  match s.lfl.out[g]?.getD [] with
  | [] => s
  | o :: rest =>
    let s := { s with lfl := { s.lfl with out := s.lfl.out.set g rest } }
    match s.lineInfo o.ln with
    | none => s
    | some i =>
      let s := s.calHandles i.sn
      let s := if o.captured then s.applyLine i g o
        else { s with cal := { s.cal with out := modAt s.cal.out g (fun q => q ++ [o]) } }
      s.calDrained

def execCalibratedSample (g : Nat) (s : State) : Res := .next (s.calibrate g)

/-- What ends with a thermal shutdown (R433): measurement and capture without DONE, rebuild and waiting set; the resume
starts a rebuild in place of one discarded. -/
def State.calAbort (s : State) : State :=
  let s := { s with cal := { s.cal with
    capture := none, building := none, shadow := none, again := s.cal.building.isSome || s.cal.shadow.isSome,
    askedAgain := s.cal.asked || s.cal.askedAgain, asked := false } }
  let s := (s.setReg F.CAL_SC_FULL 0).setReg F.CAL_CAPT_START 0
  (((s.setFlag F.CAL_STAT_FULL_BUSY false).setFlag F.CAL_STAT_CAPT_BUSY false).setFlag F.CAL_STAT_BUILDING
    false).setFlag F.CAL_STAT_PENDING false

end Sys2Proof.Machine
end

