-- ==== Sys2Proof/Machine/Flags.lean ====
section
/-! DEFINITION. The flags of the records that the streams carry (00_scope.md R15 to R17, Table SCOPE-6). -/

namespace Sys2Proof.Machine

/-- The COL ranges of a plane that hold stale values: its stale column groups, and what its seam columns bring. -/
def Plane.staleCols (p : Plane) : List (Nat × Nat) :=
  (p.stale.filter (fun cg => decide (0 < cg) && decide (cg < 257))).map (fun cg => (64 * (cg - 1), 64 * (cg - 1) + 63))
    ++ p.seamStale

/-- UNSETTLED of a plane over COL `lo` up, the seam columns among them below `ovlW` (R16, R218). -/
def Plane.isUnsettled (p : Plane) (lo ovlW : Nat) : Bool := p.unsettled || p.substituted || (p.seamUns && decide (lo < ovlW))

/-- CAL_EXTRAP of a plane over COL `lo` up (R16, R243). -/
def Plane.isExtrap (p : Plane) (lo ovlW : Nat) : Bool := p.extrap || (p.seamExt && decide (lo < ovlW))

/-- The stale range of some planes within COL `lo` to `hi` (Table PIP-3). -/
def staleRange (planes : List Plane) (lo hi : Nat) : Option (Nat × Nat) :=
  let ranges := (planes.flatMap (fun p => p.staleCols)).filterMap (fun x =>
    let a := max lo x.1
    let b := min hi x.2
    if a ≤ b then some (a, b) else none)
  ranges.foldl (fun r x => match r with
    | none => some x
    | some y => some (min x.1 y.1, max x.2 y.2)) none

/-- FLAGS of a record that carries some planes over COL `lo` to `hi` (Table SCOPE-6). -/
def recFlags (a : Aligned) (planes : List Plane) (lo hi ovlW : Nat) : Nat :=
  let cols := planes.flatMap (fun p => p.cols.filter (fun x => decide (lo ≤ x.pc) && decide (x.pc ≤ hi)))
  boolBit (planes.any (fun p => p.isUnsettled lo ovlW)) + 2 * boolBit (staleRange planes lo hi).isSome
    + 16 * boolBit (a.seamDropped && decide (lo < ovlW)) + 32 * boolBit (planes.any (fun p => p.isExtrap lo ovlW))
    + 64 * boolBit (cols.any (fun x => x.sat)) + 128 * boolBit a.noRef

/-- FLAGS of a PLACEHOLDER record (R17). -/
def placeholderFlags (noRef : Bool) : Nat := 4 + 128 * boolBit noRef

/-- FLAGS of a cell row's record (R240). -/
def RowAcc.flags (r : RowAcc) : Nat :=
  if r.used = 0 then placeholderFlags r.noRef
  else boolBit r.unsettled + 2 * boolBit r.stale.isSome + 16 * boolBit r.seamDropped + 32 * boolBit r.extrap
    + 64 * boolBit r.sat + 128 * boolBit r.noRef

end Sys2Proof.Machine
end

