-- ==== Sys2Proof/Machine/Pipeline.lean ====
section
/-! DEFINITION. The pixel pipeline: plane alignment, seams, the COLOUR and INSPECT classes, records and staging
(07_pixel_pipeline_and_seams.md), with the residency test of R258 and the alarm pin of R277 and R279
(08_sorrel_reference_compare.md), and the sending of Chive packets (09_chive_chain_and_sync.md R302 to R304). -/

namespace Sys2Proof.Machine

/-! ### Sending a packet (R302 to R304) -/

/-- Port `p` is UP (Table CHV-14: STATE 3). -/
def State.portUp (s : State) (p : Nat) : Bool := s.reg (F.CHV_PORT_STAT_STATE p) == 3

/-- A packet leaves port `p` while it is UP: twice on VC0 and VC1, once on VC2 (R304). -/
def State.sendPacket (s : State) (p : Nat) (k : Packet) : State :=
  if s.portUp p then
    let s := s.emit (.packet p 0 k)
    if k.vc = 2 then s else s.emit (.packet p 1 k)
  else s

/-- A packet received on port `p` is dropped (R286, R304, Table CHV-7, LINK_ERRORS). -/
def State.dropPacket (s : State) (p : Nat) : State :=
  { s with chv := { s.chv with ports := modAt s.chv.ports p (fun x => { x with segDrops := x.segDrops + 1 }) } }.addReg
    (F.CHV_PORT_CRC_ERRS_V p) 1

/-! ### The alarm pin (R277, R279) -/

/-- ALARM_N is asserted for a source with the SN and LN of its row (Table SOR-11). -/
def State.assertAlarm (s : State) (src : Nat) (sn : SegNo) (ln : LineNo) : State :=
  let s := { s with sor := { s.sor with alarmLow := true } }
  let s := (s.setFlag F.SOR_ALARM_ACTIVE true).setFlag F.SOR_ALARM_FIRED true
  (s.attend 0).log 0x070C [(1, src), (4, sn.toNat), (6, ln.toNat)]

/-! ### Headers (R241) -/

/-- The fields of a line record header (Table PIP-3). -/
structure RecHeader where
  rtype : Nat
  flags : Nat := 0
  plen : Nat := 0
  ln : LineNo := 0
  stream : Nat := 0
  pos : Nat := 0
  ctx : Nat := 0
  sn : SegNo := 0
  planes : Nat := 0
  pack : Nat := 0
  xbin : Nat := 0
  decim : Nat := 0
  reason : Nat := 0
  seamSrc : Nat := 0
  ptNew : PressTime := 0
  ptOld : PressTime := 0
  firstCol : Nat := 0
  ncol : Nat := 0
  staleFirst : Nat := 0
  staleLast : Nat := 0
  stalePlanes : Nat := 0
  planeCtx : Nat := 0
  seamLag : Nat := 0
  count : Nat := 0
  lnAux : LineNo := 0
  deriving DecidableEq, Repr

/-- The 64 bytes of a header. -/
def RecHeader.bytes (h : RecHeader) : List Byte :=
  leBytes 1 h.rtype ++ leBytes 1 1 ++ leBytes 2 h.flags ++ leBytes 4 h.plen ++ leBytes 6 h.ln.toNat ++
    leBytes 1 h.stream ++ leBytes 1 (h.pos % 32 + 32 * (h.ctx % 4)) ++ leBytes 4 h.sn.toNat ++ leBytes 1 h.planes ++
    leBytes 1 (h.pack % 8 + 8 * (h.xbin % 4) + 32 * (h.decim % 4)) ++ leBytes 1 h.reason ++ leBytes 1 h.seamSrc ++
    leBytes 8 h.ptNew.toNat ++ leBytes 8 h.ptOld.toNat ++ leBytes 2 h.firstCol ++ leBytes 2 h.ncol ++
    leBytes 2 h.staleFirst ++ leBytes 2 h.staleLast ++ leBytes 1 h.stalePlanes ++ leBytes 1 0 ++ leBytes 2 h.planeCtx ++
    leBytes 2 h.seamLag ++ leBytes 4 h.count ++ leBytes 6 h.lnAux.toNat

/-! ### Staging (R244, R247, R248, R311, R348) -/

/-- Stream `k`. -/
def State.stream (s : State) (k : Nat) : Stream := s.pip.streams[k]?.getD Stream.reset

/-- Stream `k` replaced. -/
def State.setStream (s : State) (k : Nat) (x : Stream) : State :=
  { s with pip := { s.pip with streams := s.pip.streams.set k x } }

/-- Bytes a stream's staging holds. -/
def Stream.used (x : Stream) : Nat := x.recs.foldl (fun n r => n + (r.bytes.length - r.done)) 0

/-- The staging of stream `k`, in bytes, and its reserve (R247, R275). -/
def Cfg.staging (c : Cfg) (k : Nat) : Nat × Nat :=
  if k < 16 then (1024 * c.get (F.PIP_ROI_STG_STG_KIB k), 128)
  else if k = 16 then (1024 * c.get F.PIP_INSP_STG_STG_KIB, 128)
  else (1024 * c.get F.SOR_OUT_STG_KIB, 32)

/-- Stream `k` is enabled under a configuration (Table DMA-4, R234, R240): a region of interest by its EN alone, which
closes its segments also while the COLOUR class is off (R244). -/
def Cfg.streamOn (c : Cfg) (k : Nat) : Bool :=
  if k < 16 then c.get (F.PIP_ROI_CTL_EN k) == 1
  else if k = 16 then c.get F.PIP_INSP_HOST_EN == 1
  else c.get F.SOR_CTL_EN == 1

/-- Records of segment `sn` do not enter the stream: its ring is stopped, or has come back into use after it (R350). -/
def Stream.off (x : Stream) (sn : SegNo) : Bool := x.dead || x.from_.any (fun b => snLater b sn)

/-- A record put into the staging of stream `k` without a test of its room. -/
def State.forceStage (s : State) (k : Nat) (r : Staged) : State :=
  let x := s.stream k
  if x.off r.sn then s else s.setStream k { x with recs := x.recs ++ [r] }

/-- A gap record over lost lines (Table PIP-3). -/
def State.gapRecord (s : State) (k reason : Nat) (first last : LineNo) (sn : SegNo) (count : Nat) : Staged :=
  let h : RecHeader :=
    { rtype := 2, ln := first, stream := k, pos := s.posNow, sn := sn, reason := reason, count := count, lnAux := last }
  ⟨h.bytes, first, last, sn, 2, count, 0⟩

/-- A segment-close record (Table PIP-3, R244). -/
def State.closeRecord (s : State) (k : Nat) (sn : SegNo) (first last : LineNo) (count : Nat) (trunc : Bool) : Staged :=
  let h : RecHeader :=
    { rtype := 3, flags := 8 * boolBit trunc, ln := last, stream := k, pos := s.posNow, sn := sn, count := count,
      lnAux := first }
  ⟨h.bytes, first, last, sn, 3, count, 0⟩

/-- What a dropping stream has dropped, with `n` records more of segment `sn` over LN `first` to `last`; `wrote` is what
the segment has written so far. -/
def Dropped.more (d : Option Dropped) (first last : LineNo) (n : Nat) (sn : SegNo) (wrote : Nat) : Dropped :=
  match d with
  | none => ⟨first, last, n, sn, wrote, none, none, []⟩
  | some d =>
    if d.sn = sn then { d with last := last, count := d.count + n, excess := d.excess.map (fun o => (o.1, o.2 + n)) }
    else ⟨d.first, last, d.count + n, sn, 0, none, none, []⟩

/-- A stream drops `n` records for want of room, the first ones or more of the same segment (R248). -/
def Dropped.overflow (d : Option Dropped) (first last : LineNo) (n : Nat) (sn : SegNo) (wrote : Nat) : Dropped :=
  let e := Dropped.more d first last n sn wrote
  { e with excess := some (e.first, e.count) }

/-- The end of segment `sn` falls into what a stream has dropped (R348): its close, in stream 17 the bytes `close`, is
dropped as well, and counts as no line record (notes/assumptions/61.md). -/
def Dropped.ended (d : Option Dropped) (sn : SegNo) (first last : LineNo) (wrote : Nat) (close : List Byte) : Dropped :=
  { Dropped.more d last last 0 sn wrote with seg := some (first, last), close := close }

/-- A Sorrel close record with TRUNCATED set (Table SOR-7). -/
def truncClose (b : List Byte) : List Byte := modAt b 2 (fun x => x ||| 1)

/-- The close of a segment that a loss has cut short; in stream 17 the record of Table SOR-7 (R274, R348). -/
def State.lossClose (s : State) (k : Nat) (d : Dropped) : Staged :=
  let (first, last) := d.seg.getD (d.first, d.last)
  if k < 17 then s.closeRecord k d.sn first last d.wrote true
  else ⟨truncClose d.close, last, last, d.sn, 3, d.wrote, 0⟩

/-- The gap and the truncated close that a stream owes after a loss of the link or of the hub clocks (R348, R418). The
gap record of stream 17 has the header of Table PIP-3 too (notes/assumptions/61.md). -/
def State.payLinkDrop (s : State) (k : Nat) (d : Dropped) : State :=
  let s := s.setStream k { s.stream k with linkDrop := none, written := 0 }
  (s.forceStage k (s.gapRecord k s.dma.gapReason d.first d.last d.sn d.count)).forceStage k (s.lossClose k d)

/-- Whether stream `k` drops what segment `sn` gives it, for a loss of the link or of the hub clocks: during the loss,
and while the segment of the last record dropped lasts (R348). -/
def State.owes (s : State) (k : Nat) (sn : SegNo) : Bool :=
  s.dma.lost || (s.stream k).linkDrop.any (fun d => d.sn == sn)

/-- What a stream has dropped already when a loss takes it: for the loss before, or for want of room (R248, R348). -/
def Stream.dropped (x : Stream) : Option Dropped := x.linkDrop.or x.dropping

/-- What stream `k` owes of an earlier segment is paid before anything of the next one (R348). -/
def State.payBefore (s : State) (k : Nat) : State :=
  match (s.stream k).linkDrop with
  | some d => s.payLinkDrop k d
  | none => s

/-- A record enters the staging of stream `k`, or is dropped: under a link loss, with the rest of a truncated segment,
or where the staging has no room beside its reserve (R248, R275, R348). -/
def State.stage (s : State) (c : Cfg) (k : Nat) (bytes : List Byte) (first last : LineNo) (sn : SegNo) : State :=
  let x := s.stream k
  if x.off sn then s
  else if s.owes k sn then
    s.setStream k { x with linkDrop := some (Dropped.more x.dropped first last 1 sn x.written), dropping := none }
  else
    let s := s.payBefore k
    let x := s.stream k
    let (size, reserve) := c.staging k
    if x.dropping.isSome || decide (size < x.used + bytes.length + reserve) then
      s.setStream k { x with dropping := some (Dropped.overflow x.dropping first last 1 sn x.written) }
    else s.setStream k { x with recs := x.recs ++ [⟨bytes, first, last, sn, 1, 1, 0⟩], written := x.written + 1 }

/-- Stream `k` has dropped `n` records of segment `sn` from LN `first` on for want of room (R248). -/
def State.truncated (s : State) (k : Nat) (sn : SegNo) (first : LineNo) (n : Nat) : State :=
  let s := if k < 16 then (s.setFlag (F.PIP_ROI_STAT_TRUNC k) true).addReg (F.PIP_ROI_STAT_TRUNC_SEGS k) 1
    else (s.setFlag F.PIP_INSP_STAT_TRUNC true).addReg F.PIP_INSP_STAT_TRUNC_SEGS 1
  s.logClose 0x0603 sn [(1, k), (4, sn.toNat), (6, first.toNat), (2, min 65535 n)]

/-- The end of a segment in the staging of stream `k`: the gap of a truncated one, and its close; `lost` where the chain
lost that end (R244, R248, R311). -/
def State.closeSegment (s : State) (k : Nat) (sn : SegNo) (first last : LineNo) (lost : Bool) : State :=
  let x := s.stream k
  let n := x.written
  match x.dropping with
  | none => (s.setStream k { x with written := 0 }).forceStage k (s.closeRecord k sn first last n lost)
  | some d =>
    let s := s.setStream k { x with written := 0, dropping := none }
    ((s.forceStage k (s.gapRecord k 1 d.first d.last sn d.count)).forceStage k
      (s.closeRecord k sn first last n true)).truncated k sn d.first d.count

/-- The end of a segment in one of the streams 0 to 16: its close, or what a loss of the link makes of it; a truncation
for want of room that came before the loss is told all the same (R244, R248, R311, R348). -/
def State.closeStream (s : State) (k : Nat) (sn : SegNo) (first last : LineNo) (lost : Bool) : State :=
  let x := s.stream k
  if x.off sn then s
  else if s.owes k sn then
    let d := Dropped.ended x.dropped sn first last x.written []
    let s := s.setStream k { x with written := 0, dropping := none, linkDrop := some { d with excess := none } }
    let s := match d.excess with
      | some (l, n) => s.truncated k sn l n
      | none => s
    if s.dma.lost then s else s.payLinkDrop k d
  else (s.payBefore k).closeSegment k sn first last lost

/-- Lost lines that no placeholder accounts for, `n` of them with a record in stream `k`: a gap record with REASON 2, or
part of what the stream drops already (R248, R311, R348). -/
def State.gapStream (s : State) (k : Nat) (first last : LineNo) (n : Nat) (sn : SegNo) : State :=
  let x := s.stream k
  if x.off sn then s
  else if s.owes k sn then
    s.setStream k { x with linkDrop := some (Dropped.more x.dropped first last n sn x.written), dropping := none }
  else
    let s := s.payBefore k
    let x := s.stream k
    match x.dropping with
    | some _ => s.setStream k { x with dropping := some (Dropped.overflow x.dropping first last n sn x.written) }
    | none => s.forceStage k (s.gapRecord k 2 first last sn n)

/-! ### Linearisation, merge, matrix (R229 to R233) -/

/-- A linearisation through a table of 1,025 entries (R229). -/
def lutValue (entry : Nat → Nat) (v : Nat) : Nat :=
  let i := v / 64
  let d : Int := Int.ofNat (entry (i + 1)) - Int.ofNat (entry i)
  clampNat 0 65535 (Int.ofNat (entry i) + shiftDown (d * Int.ofNat (v % 64) + 32) 6)

/-- One column through LUT slot `k` of a context. -/
def Cfg.lut (c : Cfg) (ctx k : Nat) (x : ColVal) : ColVal :=
  { x with v := lutValue (fun i => c.get (F.PIP_LUT_L ctx k i)) x.v }

/-- h of the merge of CLS and CLL, with its SAT mark (R231). -/
def Cfg.merge (c : Cfg) (ctx r : Nat) (cls cll : ColVal) : Nat × Bool :=
  let lo := c.get (F.PIP_CTX_K_K_LO ctx)
  let hi := c.get (F.PIP_CTX_K_K_HI ctx)
  let sc := (cls.v * r + 0x8000) / 65536
  let l := cll.v
  let h :=
    if l ≤ lo then l
    else if hi ≤ l then sc
    else
      let w := ((l - lo) * 256 + (hi - lo) / 2) / (hi - lo)
      (Int.ofNat l + shiftDown ((Int.ofNat sc - Int.ofNat l) * Int.ofNat w + 128) 8).toNat
  (h, (cll.sat && decide (l < hi)) || (cls.sat && decide (lo < l)))

/-- The logarithmic code of h: the rounded value, within one code (Table PIP-1). -/
def logCode (h : Nat) : Nat :=
  let exact := (Nat.log2 ((1 + h) ^ 4096) + 1) / 2
  match (Config.logError h).toNat with
  | 1 => min 49152 (exact + 1)
  | 2 => exact - 1
  | _ => exact

/-- The binary16 code of h ÷ 256, rounded to nearest, ties to even, and whether it passes 65,504 (Table PIP-1). -/
def fp16Code (h : Nat) : Nat × Bool :=
  if h = 0 then (0, false)
  else
    let e := Nat.log2 h
    let m :=
      if e ≤ 10 then h * 2 ^ (10 - e)
      else
        let q := h / 2 ^ (e - 10)
        let r := h % 2 ^ (e - 10)
        let half := 2 ^ (e - 10) / 2
        if half < r ∨ (r = half ∧ q % 2 = 1) then q + 1 else q
    let code := (e + 7) * 1024 + (m - 1024)
    if 0x7BFF < code then (0x7BFF, true) else (code, false)

/-- CLH of one column, encoded (R231, R232). -/
def Cfg.clh (c : Cfg) (ctx r : Nat) (cls cll : ColVal) : ColVal :=
  let (h, sat) := c.merge ctx r cls cll
  match c.get (F.PIP_CTX_ENC_ENC ctx) with
  | 0 =>
    let v := rsh h (c.get (F.PIP_CTX_ENC_LSHIFT ctx))
    if 65535 < v then ⟨cll.pc, 65535, true, false⟩ else ⟨cll.pc, v, sat, false⟩
  | 1 => ⟨cll.pc, logCode h, sat, false⟩
  | _ => let (v, cut) := fp16Code h; ⟨cll.pc, v, sat || cut, false⟩

/-- The coefficients of output channel `o` of the colour matrix, and its offset (Table PIP-5). -/
def Cfg.matrixRow (c : Cfg) (ctx o : Nat) : List Int × Int :=
  let m (f : Nat → Field) : Int := signedOf 16 (c.get (f ctx))
  match o with
  | 0 => ([m F.PIP_CTX_M0_M00, m F.PIP_CTX_M0_M01, m F.PIP_CTX_M1_M02], m F.PIP_CTX_M4_O0)
  | 1 => ([m F.PIP_CTX_M1_M10, m F.PIP_CTX_M2_M11, m F.PIP_CTX_M2_M12], m F.PIP_CTX_M5_O1)
  | _ => ([m F.PIP_CTX_M3_M20, m F.PIP_CTX_M3_M21, m F.PIP_CTX_M4_M22], m F.PIP_CTX_M5_O2)

/-- One output of the colour matrix for the inputs of a column (R233). -/
def Cfg.matrix (c : Cfg) (ctx o : Nat) (ins : List ColVal) : ColVal :=
  let (ms, off) := c.matrixRow ctx o
  let terms := ms.zip ins
  let sum := sumInt (terms.map (fun x => x.1 * Int.ofNat x.2.v))
  let y := off + shiftDown (sum + 2048) 12
  ⟨(ins.head?.map (fun x => x.pc)).getD 0, clampNat 0 65535 y,
    terms.any (fun x => x.1 != 0 && x.2.sat) || decide (65535 < y), false⟩

/-- The column at COL `k` of a plane. -/
def colAt (cols : List ColVal) (k : Nat) : ColVal := (cols.find? (fun x => x.pc == k)).getD ⟨k, 0, false, false⟩

/-- The planes of the COLOUR class: bits 0 to 5 the groups, 6 CLH (R228 to R233). -/
def Cfg.colour (c : Cfg) (ctx prog : Nat) (planes : List Plane) : List Plane :=
  let pair := c.get F.ARR_HDR_PAIR_EN == 1
  let lin := planes.map (fun p =>
    if pair && (p.bit == 3 || p.bit == 4) then p else { p with cols := p.cols.map (c.lut ctx p.bit) })
  let find (b : Nat) : Option Plane := lin.find? (fun p => p.bit == b)
  let mixed :=
    if c.get (F.PIP_CTX_ENC_MATRIX_EN ctx) = 1 then
      lin.map (fun p =>
        if p.bit < 3 then
          { p with cols := p.cols.map (fun x =>
              c.matrix ctx p.bit (([0, 1, 2].map (fun b => match find b with
                | some q => colAt q.cols x.pc
                | none => ⟨x.pc, 0, false, false⟩)))) }
        else p)
    else lin
  match pair, find 3, find 4 with
  | true, some s3, some s4 =>
    let cols := s4.cols.map (fun l => c.clh ctx (c.hdrRatio prog) (colAt s3.cols l.pc) l)
    mixed ++ [{ s4 with
      bit := 6, cols := cols, substituted := s3.substituted || s4.substituted,
      unsettled := s3.unsettled || s4.unsettled, extrap := s3.extrap || s4.extrap, stale := s3.stale ++ s4.stale,
      seamUns := s3.seamUns || s4.seamUns, seamExt := s3.seamExt || s4.seamExt,
      seamStale := s3.seamStale ++ s4.seamStale }]
  | _, _, _ => mixed

/-! ### Packing (R234, R235) -/

/-- The mean of a run of columns, rounded half up, with the run's SAT marks. -/
def binRun (run : List ColVal) : ColVal :=
  let n := run.length
  ⟨(run.head?.map (fun x => x.pc)).getD 0, (2 * run.foldl (fun a x => a + x.v) 0 + n) / (2 * n),
    run.any (fun x => x.sat), false⟩

/-- Zero bytes up to a multiple of 64. -/
def pad64 (bs : List Byte) : List Byte := bs ++ List.replicate ((64 - bs.length % 64) % 64) 0

/-- Twelve-bit codes of a plane, two in three bytes (Table PIP-2). -/
def pack12 : List Nat → List Byte
  | [] => []
  | [a] => leBytes 3 a
  | a :: b :: r => leBytes 3 (a + 4096 * b) ++ pack12 r

/-- The payload of some planes of values in a packing format (Table PIP-2). -/
def packPlanes (pack : Nat) (planes : List (List Nat)) : List Byte :=
  let u8 (v : Nat) : List Byte := leBytes 1 (min ((v + 128) / 256) 255)
  let n := (planes.head?.map List.length).getD 0
  let columns (f : Nat → List Byte) : List Byte :=
    (List.range n).flatMap (fun i => planes.flatMap (fun p => f (p[i]?.getD 0)))
  pad64 (match pack with
    | 0 => planes.flatMap (fun p => p.flatMap (fun v => leBytes 2 v))
    | 1 => columns (fun v => leBytes 2 v)
    | 2 => planes.flatMap (fun p => pack12 (p.map (fun v => min ((v + 8) / 16) 4095)))
    | 3 => planes.flatMap (fun p => p.flatMap u8)
    | _ => columns u8)

/-- PLANE_CTX of a record: 2 bits per group (R220). -/
def planeCtx (planes : List Plane) : Nat := planes.foldl (fun (n : Nat) (p : Plane) => n + p.ctx % 4 * 4 ^ p.bit) 0

/-! ### The COLOUR class (R228, R234, R244) -/

/-- One aligned record in region of interest `k`. -/
def State.roiRecord (s : State) (a : Aligned) (planes : List Plane) (k : Nat) : State :=
  let c := a.info.cfg
  let base : RecHeader :=
    { rtype := 1, ln := a.info.ln, stream := k, pos := s.posNow, ctx := a.info.ctx, sn := a.info.sn,
      decim := c.get F.LFL_CTL_DECIM, staleFirst := 0xFFFF, staleLast := 0xFFFF }
  if a.placeholder then
    let h := { base with flags := placeholderFlags a.noRef, reason := a.info.reason }
    s.stage c k h.bytes a.info.ln a.info.ln a.info.sn
  else
    let lo := c.get (F.PIP_ROI_COLS_FIRST_COL k)
    let hi := c.get (F.PIP_ROI_COLS_LAST_COL k)
    let xb := c.get (F.PIP_ROI_CTL_XBIN k)
    let mine := (List.range 7).filterMap (fun b =>
      if bitAt (c.get (F.PIP_ROI_CTL_PLANES k)) b then planes.find? (fun p => p.bit == b) else none)
    let ncol := (hi + 1 - lo) / 2 ^ xb
    let data := mine.map (fun p =>
      (chunks (2 ^ xb) ncol (p.cols.filter (fun x => decide (lo ≤ x.pc) && decide (x.pc ≤ hi)))).map
        (fun r => (binRun r).v))
    let payload := packPlanes (c.get (F.PIP_ROI_CTL_PACK k)) data
    let stale := staleRange mine lo hi
    let h := { base with
      flags := recFlags a mine lo hi (c.get F.PIP_SEAM_OVL_W), plen := payload.length,
      planes := mine.foldl (fun (n : Nat) (p : Plane) => n + 2 ^ p.bit) 0, pack := c.get (F.PIP_ROI_CTL_PACK k), xbin := xb,
      seamSrc := a.seamSrc, ptNew := a.ptNew, ptOld := a.ptOld, firstCol := lo, ncol := ncol,
      staleFirst := (stale.map (fun (x : Nat × Nat) => x.1)).getD 0xFFFF,
      staleLast := (stale.map (fun (x : Nat × Nat) => x.2)).getD 0xFFFF,
      stalePlanes := mine.foldl (fun (n : Nat) (p : Plane) => n + boolBit (staleRange [p] lo hi).isSome * 2 ^ p.bit) 0,
      planeCtx := planeCtx a.planes, seamLag := c.seamLag }
    s.stage c k (h.bytes ++ payload) a.info.ln a.info.ln a.info.sn

/-- The record in every region of interest, while the COLOUR class is on (R228). -/
def State.colourClass (s : State) (a : Aligned) : State :=
  let c := a.info.cfg
  if c.get F.PIP_CTL_COLOUR_EN = 1 then
    let planes := if a.placeholder then [] else c.colour a.info.ctx a.info.prog a.planes
    (List.range 16).foldl (fun s k => if c.streamOn k then s.roiRecord a planes k else s) s
  else s

/-! ### The INSPECT class (R236 to R240) -/

/-- Columns owned and inside the window. -/
def Cfg.ownedCols (c : Cfg) (cols : List ColVal) : List ColVal :=
  cols.filter (fun x => decide (x.pc ≤ c.lastOwned))

/-- Spatial noise reduction with radius `r` and threshold `sig` (R237). -/
def spatial (r sig : Nat) (cols : List ColVal) : List ColVal :=
  cols.map (fun x =>
    let near := cols.filter (fun y => decide (Int.natAbs (Int.ofNat y.pc - Int.ofNat x.pc) ≤ r)
      && decide (Int.natAbs (Int.ofNat y.v - Int.ofNat x.v) ≤ sig))
    { binRun near with pc := x.pc })

/-- Temporal noise reduction of one column against its state (R238). -/
def temporal (tth shift : Nat) (y : Option Nat) (x : Nat) : Nat :=
  match y with
  | none => x
  | some y =>
    if tth < Int.natAbs (Int.ofNat x - Int.ofNat y) then x
    else (Int.ofNat y + shiftDown (Int.ofNat x - Int.ofNat y) shift).toNat

/-- A slot's values of a record after the stages before binning, with its new temporal state (R236). -/
def State.slotValues (s : State) (c : Cfg) (ctx k : Nat) (p : Plane) : List ColVal × Assoc Nat :=
  let own := c.ownedCols p.cols
  let snr := c.get (F.PIP_CTX_SNR_SNR ctx)
  let a := if snr = 0 then own else spatial snr (c.get (F.PIP_CTX_SNR_SIG ctx)) own
  let old := (Assoc.find s.pip.tnr (4 * k + ctx)).getD []
  let b := if c.get (F.PIP_CTX_TNR_TNR_EN ctx) = 1 then
      a.map (fun x => { x with
        v := temporal (c.get (F.PIP_CTX_TNR_TTH ctx)) (c.get (F.PIP_CTX_TNR_TSHIFT ctx)) (Assoc.find old x.pc) x.v })
    else a
  (b.map (c.lut ctx (6 + k)), b.map (fun x => (x.pc, x.v)))

/-- Sums of a slot's values over the cells (R239). -/
def Cfg.cellSums (c : Cfg) (vals : List ColVal) : List Nat :=
  (chunks c.grid c.cells (vals.filter (fun x => decide (c.cell0 ≤ x.pc)))).map
    (fun r => r.foldl (fun n x => n + x.v) 0)

/-- Two lists of sums added; the longer one's rest is kept. -/
def addSums : List Nat → List Nat → List Nat
  | [], b => b
  | a, [] => a
  | x :: a, y :: b => (x + y) :: addSums a b

/-- A new cell row under the configuration of its first record. -/
def RowAcc.start (a : Aligned) (y : Nat) : RowAcc :=
  { y := y, sn := a.info.sn, cfg := a.info.cfg, first := a.info.ln, last := a.info.ln, ctx := a.info.ctx,
    reason := a.info.reason, used := 0, total := 0, sums := [[], [], [], []], unsettled := false, extrap := false,
    sat := false, seamDropped := false, stale := none, staleSlots := 0, noRef := a.noRef, fresh := a.info.start, ptNew := 0, ptOld := 0,
    planeCtx := 0, seamSrc := 0 }

/-- The cell values of a slot of a row: means rounded half up (R239). -/
def RowAcc.cells (r : RowAcc) (k : Nat) : List Nat :=
  let d := r.cfg.grid * r.used
  (r.sums[k]?.getD []).map (fun n => if d = 0 then 0 else (2 * n + d) / (2 * d))

/-- A cell row is complete: stream 16, and Sorrel (R240, R252). -/
def State.rowOut (s : State) (r : RowAcc) : State :=
  let c := r.cfg
  let s := { s with pip := { s.pip with row := none } }
  let s := if c.get F.SOR_CTL_EN = 1 then { s with sor := { s.sor with rows := s.sor.rows ++ [SorIn.row r] } } else s
  if c.streamOn 16 then
    let base : RecHeader :=
      { rtype := 1, flags := r.flags, ln := r.last, stream := 16, pos := s.posNow, ctx := r.ctx, sn := r.sn,
        decim := c.get F.LFL_CTL_DECIM, staleFirst := 0xFFFF, staleLast := 0xFFFF, lnAux := r.first }
    if r.used = 0 then
      let h := { base with reason := r.reason }
      s.stage c 16 h.bytes r.first r.last r.sn
    else
      let slots := c.usedSlots
      let payload := packPlanes 0 (slots.map (fun k => r.cells k))
      let h := { base with
        plen := payload.length, planes := slots.foldl (fun n k => n + 2 ^ k) 0, xbin := c.get F.PIP_INSP_GRID,
        seamSrc := r.seamSrc, ptNew := r.ptNew, ptOld := r.ptOld, firstCol := c.cell0, ncol := c.cells,
        staleFirst := (r.stale.map (fun (x : Nat × Nat) => x.1)).getD 0xFFFF,
        staleLast := (r.stale.map (fun (x : Nat × Nat) => x.2)).getD 0xFFFF,
        stalePlanes := r.staleSlots, planeCtx := r.planeCtx, seamLag := c.seamLag, count := r.used }
      s.stage c 16 (h.bytes ++ payload) r.first r.last r.sn
  else s

/-- The row in progress completes, where there is one. -/
def State.rowFlush (s : State) : State :=
  match s.pip.row with
  | some r => s.rowOut r
  | none => s

/-- A used slot takes its plane of an aligned record: the temporal state and the row's sums (R236 to R239). -/
def State.slotTakes (s : State) (a : Aligned) (r : RowAcc) (k : Nat) : State × RowAcc :=
  let c := a.info.cfg
  match a.planes.find? (fun p => p.bit == c.slotSrc k) with
  | none => (s, r)
  | some p =>
    let (vals, tnr) := s.slotValues c a.info.ctx k p
    let key := 4 * k + a.info.ctx
    let s := { s with pip := { s.pip with
      tnr := if p.substituted then Assoc.erase s.pip.tnr key else Assoc.insert s.pip.tnr key tnr } }
    let lo := c.cell0
    let hi := c.cell0 + c.grid * c.cells - 1
    let st := staleRange [p] lo hi
    let inCells := vals.filter (fun x => decide (lo ≤ x.pc) && decide (x.pc ≤ hi))
    (s, { r with
      sums := modAt r.sums k (fun old => addSums old (c.cellSums vals)),
      unsettled := r.unsettled || p.isUnsettled lo (c.get F.PIP_SEAM_OVL_W),
      extrap := r.extrap || p.isExtrap lo (c.get F.PIP_SEAM_OVL_W),
      sat := r.sat || inCells.any (fun x => x.sat),
      stale := match st, r.stale with
        | none, o => o
        | some x, none => some x
        | some x, some y => some (min x.1 y.1, max x.2 y.2),
      staleSlots := if st.isSome then withBit r.staleSlots k true else r.staleSlots })

/-- The cell row of a record and whether the record is its last (R239, R310). -/
def Aligned.rowPlace (a : Aligned) : Nat × Bool :=
  let m := max 1 (Cfg.cellRows a.info.cfg)
  (a.nth / m, a.nth % m == m - 1)

/-- One aligned record in the INSPECT class (R236 to R240). -/
def State.inspectClass (s : State) (a : Aligned) : State :=
  let c := a.info.cfg
  if c.get F.PIP_CTL_INSP_EN = 1 then
    let (y, last) := a.rowPlace
    let s := match s.pip.row with
      | some r => if r.y = y ∧ r.sn = a.info.sn then s else s.rowOut r
      | none => s
    let r := s.pip.row.getD (RowAcc.start a y)
    let r := { r with last := a.info.ln, ctx := a.info.ctx, total := r.total + 1, noRef := r.noRef || a.noRef,
                       fresh := r.fresh || a.info.start }
    let (s, r) :=
      if a.placeholder then
        let tnr := (List.range 4).foldl (fun (t : Assoc (Assoc Nat)) k => Assoc.erase t (4 * k + a.info.ctx)) s.pip.tnr
        ({ s with pip := { s.pip with tnr := tnr } }, { r with reason := a.info.reason })
      else
        let r := { r with
          used := r.used + 1, ptNew := a.ptNew, ptOld := if r.used = 0 then a.ptOld else r.ptOld,
          planeCtx := planeCtx a.planes, seamSrc := a.seamSrc,
          seamDropped := r.seamDropped || (a.seamDropped && decide (c.cell0 < c.get F.PIP_SEAM_OVL_W)) }
        c.usedSlots.foldl (fun (x : State × RowAcc) k => x.1.slotTakes a x.2 k) (s, r)
    if last then s.rowOut r else { s with pip := { s.pip with row := some r } }
  else s

/-! ### Smoothed offsets that a boundary makes invalid (R273) -/

/-- The transform of every context: matrix, offsets and tables (R273). -/
def Cfg.sorTransforms (c : Cfg) : Bank := c.filter (fun x => decide (0x2A0000 * 8 ≤ x.1) && decide (x.1 < 0x2E0000 * 8))

/-- The smoothed states of the windows of which `p` holds become invalid (R273). -/
def State.regForget (s : State) (p : Nat → Bool) : State :=
  (List.range 16).foldl (fun s w =>
    if p w then
      (List.range 4).foldl (fun (s : State) p =>
        (s.setReg (F.SOR_REG_SM_SX w p) 0x8000).setReg (F.SOR_REG_SM_SY w p) 0x8000) s
    else s) s

/-- Smoothed states that a boundary to configuration `c`, or the first row after a start, makes invalid (R273). -/
def State.regInvalidate (s : State) (c : Cfg) (fresh : Bool) : State :=
  let same (f : Field) : Bool := match s.sor.lastCfg with
    | none => true
    | some o => Bank.get o f == c.get f
  let allNew := fresh || !(same F.SOR_REG_CTL_SHIFT && same F.SOR_REG_CTL_CH && same F.SOR_REG_CTL_INV
    && same F.SOR_REG_CTL_MIN_CON) || (s.sor.lastCfg.any (fun o => Cfg.sorTransforms o != c.sorTransforms))
  s.regForget (fun w => allNew || !(same (F.SOR_REGW_CTL_EN w) && same (F.SOR_REGW_CTL_PLANES w)
    && same (F.SOR_REGW_CTL_REPEAT w) && same (F.SOR_REGW_POS_X0 w) && same (F.SOR_REGW_POS_Y0 w)))

/-- A segment under configuration `c` opens: what it makes invalid goes, and its fields are those that the next boundary
compares with (R273). -/
def State.regOpens (s : State) (c : Cfg) (fresh : Bool) : State :=
  let s := s.regInvalidate c fresh
  { s with sor := { s.sor with lastCfg := some c } }

/-- A segment that is not compared has closed: the bands of it and of those before it are discarded (R256, Table SOR-2).
-/
def State.sorSkip (s : State) (sn : SegNo) : State :=
  let gone := (s.sor.bands.filter (fun b => !snLater b.sn sn)).length
  { s with sor := { s.sor with
    bands := s.sor.bands.filter (fun b => snLater b.sn sn), closed := some (sn, 0) } }.addReg F.SOR_REF_DISCARD_V gone

/-- The end of a segment that is not compared: at once, or behind the rows that wait. -/
def State.sorSkips (s : State) (sn : SegNo) : State :=
  if s.sor.rows.isEmpty then s.sorSkip sn else { s with sor := { s.sor with rows := s.sor.rows ++ [SorIn.skips sn] } }

/-- A segment opens behind one that Sorrel does not compare, or is none itself: at once, or behind the rows that wait
(R273). -/
def State.sorOpens (s : State) (c : Cfg) (fresh : Bool) : State :=
  if s.sor.rows.isEmpty then s.regOpens c fresh
  else { s with sor := { s.sor with rows := s.sor.rows ++ [SorIn.opens c fresh] } }

/-! ### The end of a segment (R218, R226, R244, R311, R491) -/

/-- Streams 0 to 16 close segment `sn`, its close events are logged, and Sorrel learns of it; `lost` where the chain
lost the segment's end, `next` the configuration of the segment that opens. -/
def State.pipClose (s : State) (sn : SegNo) (first last : LineNo) (c : Cfg) (lost : Bool) (next : Option Cfg) : State :=
  let s := s.rowFlush
  let s := (List.range 17).foldl (fun s k => if c.streamOn k then s.closeStream k sn first last lost else s) s
  let s := if s.pip.substSeg = 0 then s
    else { s with pip := { s.pip with substSeg := 0 } }.logClose 0x0604 sn [(4, sn.toNat), (4, s.pip.substSeg)]
  let s := if s.pip.lateSeg = 0 then s
    else { s with pip := { s.pip with lateSeg := 0 } }.logClose 0x0602 sn [(4, sn.toNat), (4, s.pip.lateSeg)]
  let s := if c.get F.SOR_CTL_EN = 1 then
      { s with sor := { s.sor with rows := s.sor.rows ++ [SorIn.close sn last c lost next] } }
    else match next with
      | some n => (s.sorSkips sn).sorOpens n false
      | none => s.sorSkips sn
  { s with pip := { s.pip with seg := none, closed := some (sn, first) } }

/-- Records of a stream that lines `a` to `b` would have given: one for each LN at which a record is formed (R217). -/
def Cfg.recordsIn (c : Cfg) (a b : LineNo) : Nat :=
  let m := BitVec.ofNat 48 c.alignMax
  let d := Int.ofNat c.decim
  ((signedDiff (b + 1) m).fdiv d - (signedDiff a m).fdiv d).toNat

/-- The gap records of lost lines that no placeholder accounts for (R311); the rows of stream 16 among them are not
counted by the spec, so its COUNT is a free value. -/
def State.gapOut (s : State) (c : Cfg) (first last : LineNo) (sn : SegNo) : State :=
  let s := s.rowFlush
  let (free, s) := s.drawFree 32
  (List.range 17).foldl (fun s k =>
    if c.streamOn k then s.gapStream k first last (if k = 16 then free else c.recordsIn first last) sn else s) s

/-- The first LN of the segment of a line (R310). -/
def LineInfo.segFirst (i : LineInfo) : LineNo := i.ln - BitVec.ofNat 48 i.idx

/-- The last LN of a segment whose end the chain lost before line `i`: known where `i` opens the very next one, and
otherwise a free value (R311). -/
def State.lostEnd (s : State) (i : LineInfo) (sn : SegNo) : LineNo × State :=
  let (free, s) := s.drawFree 48
  (if i.sn = sn + 1 then i.segFirst - 1 else BitVec.ofNat 48 free, s)

/-- Lines were lost since the stop that closed segment `sn`: the gap, and a truncated close of that segment where the
line received opens another one (R311, notes/assumptions/61.md). -/
def State.gapAfterStop (s : State) (i : LineInfo) (a b : LineNo) (sn : SegNo) : State :=
  let s := s.gapOut i.cfg a b sn
  if i.sn = sn then s
  else
    let (free, s) := s.drawFree 48
    let first := match s.pip.closed with
      | some (q, f) => if q = sn then f else BitVec.ofNat 48 free
      | none => BitVec.ofNat 48 free
    let (last, s) := s.lostEnd i sn
    (List.range 17).foldl (fun s k => if i.cfg.streamOn k then s.closeStream k sn first last true else s) s

/-- The segment of a line opens in the streams; the one before closes first (R244). A segment that the chain lost the
end of closes as truncated, in stream 17 as well (R311, notes/assumptions/61.md). A START makes the smoothed offsets
invalid also where Sorrel compares nothing (R273). -/
def State.pipSegment (s : State) (i : LineInfo) : State :=
  let s := match s.pip.seg, i.gap with
    | some (sn, first, c), some (a, b, snG) =>
      let s := s.gapOut c a b snG
      if i.sn = sn then s
      else
        let (last, s) := s.lostEnd i sn
        s.pipClose sn first last c true (some i.cfg)
    | some (sn, first, c), none => if i.sn = sn then s else s.pipClose sn first (i.segFirst - 1) c false (some i.cfg)
    | none, some (a, b, snG) => s.gapAfterStop i a b snG
    | none, none => s
  match s.pip.seg with
  | some _ => s
  | none =>
    let s := if i.start && i.cfg.get F.SOR_CTL_EN == 0 then s.sorOpens i.cfg true else s
    { s with pip := { s.pip with seg := some (i.sn, i.segFirst, i.cfg) } }

/-! ### A record leaves for the classes -/

/-- A record with its seam settled passes the COLOUR and INSPECT classes. -/
def State.recordOut (s : State) (a : Aligned) : State :=
  let subst := a.planes.any (fun p => p.substituted)
  let s := if subst then { s with pip := { s.pip with substSeg := s.pip.substSeg + 1 } }.addReg F.PIP_SUBST_V 1 else s
  let s := (s.colourClass a).inspectClass a
  { s with pip := { s.pip with lastOut := some a.info.ln } }

/-! ### Seams (R222 to R227) -/

/-- The line of the west module that record `r` blends, and the local one (R224). -/
def Cfg.seamLines (c : Cfg) (r : LineNo) : LineNo × LineNo :=
  let local_ := r - BitVec.ofNat 48 c.seamLag
  (local_ + BitVec.ofInt 48 c.stagger, local_)

/-- x of R225 for seam column `i`, and whether it passed 0xFFFF. -/
def seamX (xfrac gm : Nat) (wv : List Nat) (i : Nat) : Nat × Bool :=
  let a := Int.ofNat (wv[i + 1]?.getD 0)
  let b := Int.ofNat (wv[i]?.getD 0)
  let x := a + shiftDown ((b - a) * Int.ofNat xfrac + 128) 8
  let x := (x.toNat * gm + 0x2000) / 0x4000
  if 0xFFFF < x then (0xFFFF, true) else (x, false)

/-- The local weight of seam column `i` (R225). -/
def seamWeight (ovl ramp i : Nat) : Nat :=
  if ramp = 1 then (if ovl ≤ 2 * i then 256 else 0) else (2 * i + 1) * 128 / ovl

/-- Seam column `i` of one plane for a seam of `ovl` columns under the SEAM-W parameters of `c` (R225, R226): blended,
local only or west only. -/
def seamCol (c : Cfg) (ovl g i : Nat) (loc : Option ColVal) (west : Option (List Nat × Bool)) : Option ColVal :=
  let xv (wv : List Nat) := seamX (c.get F.PIP_SEAMW_XFRAC) (c.get (F.PIP_SEAMW_GM_GM g)) wv i
  match loc, west with
  | some l, some (wv, wsat) =>
    let (x, cut) := xv wv
    let w := seamWeight ovl (c.get F.PIP_SEAMW_RAMP) i
    some ⟨i, (w * l.v + (256 - w) * x + 128) / 256,
      cut || (decide (0 < w) && l.sat) || (decide (w < 256) && wsat), false⟩
  | some l, none => some l
  | none, some (wv, wsat) => let (x, cut) := xv wv; some ⟨i, x, cut || wsat, false⟩
  | none, none => none

/-- The configuration of the seam's local line, which gives the SEAM-W parameters (R221): as its record or the line
ledger has it; before the first line of the module's launching, that of the record. -/
def State.seamCfg (s : State) (a : Aligned) : Cfg :=
  let l := (Cfg.seamLines a.info.cfg a.info.ln).2
  match s.pip.localSeam.find? (fun x => x.ln == l), s.lines.find? (fun i => i.ln == l) with
  | some x, _ => x.cfg
  | none, some i => i.cfg
  | none, none => a.info.cfg

/-- The plane of a record with the flags that its seam columns bring: those of the local line's plane, and those of the
west line's packet (R16, R224, notes/assumptions/61.md). -/
def Plane.seamFlags (p : Plane) (ovl : Nat) (loc : Option Plane) (west : Option WestLine) : Plane :=
  { p with
    seamUns := loc.any (fun l => l.unsettled || l.substituted) || west.any (fun w => w.unsettled),
    seamExt := loc.any (fun l => l.extrap) || west.any (fun w => w.extrap),
    seamStale := (((loc.map (fun l => l.staleCols)).getD []).filter (fun x => decide (x.1 < ovl))).map
        (fun x => (x.1, min x.2 (ovl - 1)))
      ++ (if west.any (fun w => w.stale) then [(0, ovl - 1)] else []) }

/-- The record with its seam columns set from the local line and the west line, where each is there (R225, R226), under
the SEAM-W parameters of `c`. Where neither is, the spec gives the columns no content, and they are free values. -/
def State.blend (s : State) (a : Aligned) (c : Cfg) (loc : Option SeamLocal) (west : Option WestLine) : Aligned × State :=
  let ovl := a.info.cfg.get F.PIP_SEAM_OVL_W
  let src := match loc, west with
    | some _, some _ => 1
    | some _, none => 2
    | none, some _ => 3
    | none, none => 2
  let plane (p : Plane) : Plane :=
    let mine := loc.bind (fun l => l.planes.find? (fun (y : Plane) => y.bit == p.bit))
    { p.seamFlags ovl mine west with cols := p.cols.map (fun x =>
        if x.pc < ovl then
          let l := mine.bind (fun y => y.cols.find? (fun z => z.pc == x.pc))
          let w := match west with
            | some w => (w.planes.find? (fun y => y.1 == p.bit)).map (fun y => (y.2, w.sat))
            | none => none
          match seamCol c ovl p.bit x.pc l w with
          | some y => y
          | none => ⟨x.pc, Config.freeValue (s.freeCtr + 256 * p.bit + x.pc) 16 % 65536, false, false⟩
        else x) }
  let s := match loc, west with
    | none, none => { s with freeCtr := s.freeCtr + 2048 }
    | _, _ => s
  ({ a with planes := a.planes.map plane, seamSrc := src }, s)

/-- What a record's seam needs of the west neighbour: nothing is missing, or the record must still wait. -/
def State.seamReady (s : State) (a : Aligned) : Option (Option WestLine) :=
  let c := a.info.cfg
  if a.mark || a.placeholder || c.get F.PIP_SEAM_OVL_W == 0 then some none
  else
    match s.pip.west.find? (fun w => w.ln == (c.seamLines a.info.ln).1) with
    | some w => some (some w)
    | none => if a.expired then some none else none

/-- The buffered lines that no later record needs are released. -/
def State.releaseSeam (s : State) (a : Aligned) : State :=
  let (w, l) := Cfg.seamLines a.info.cfg a.info.ln
  { s with pip := { s.pip with
    west := s.pip.west.filter (fun x => decide (0 < signedDiff x.ln w)),
    localSeam := s.pip.localSeam.filter (fun x => decide (0 < signedDiff x.ln l)) } }

/-- Temporal state that a line invalidates: every slot whose source group's chain restarts, at a START all, and the
contexts whose noise-reduction fields change (R238). -/
def State.tnrRestart (s : State) (i : LineInfo) : State :=
  let c := i.cfg
  let old : Cfg := match s.pip.seg with
    | some (_, _, c) => c
    | none => c
  let nr (c : Cfg) (x : Nat) : List Nat :=
    [c.get (F.PIP_CTX_SNR_SNR x), c.get (F.PIP_CTX_SNR_SIG x), c.get (F.PIP_CTX_TNR_TNR_EN x),
      c.get (F.PIP_CTX_TNR_TSHIFT x), c.get (F.PIP_CTX_TNR_TTH x)]
  let stale (k ctx : Nat) : Bool :=
    i.start || i.restarts.contains (c.slotSrc k) || nr c ctx != nr old ctx
  { s with pip := { s.pip with tnr := s.pip.tnr.filter (fun x => !stale (x.1 / 4) (x.1 % 4)) } }

/-- What a line does to the class stages before its record: the segment before it closes, and temporal state that it
invalidates goes (R238, R244, R311). -/
def State.lineEnters (s : State) (i : LineInfo) : State := (s.tnrRestart i).pipSegment i

/-- SEAM_MISMATCH of segment `sn`, once for each (R223); the last 16 segments logged are known. -/
def State.logMismatch (s : State) (width ovl : Nat) (sn : SegNo) : State :=
  if s.pip.mismatched.contains sn then s
  else { s with pip := { s.pip with mismatched := (sn :: s.pip.mismatched).take 16 } }.log 0x0605
    [(2, width), (2, ovl), (4, sn.toNat)]

/-- A record whose seam can be settled leaves; its wait may have expired (R226), and a west line of another width than
its own seam is not available (R223). It belongs to its own segment, which is open from here on. -/
def State.settle (s : State) (a : Aligned) (w : Option WestLine) : State :=
  let c := a.info.cfg
  let s := s.lineEnters a.info
  if a.mark then s
  else if a.placeholder || c.get F.PIP_SEAM_OVL_W == 0 then (s.recordOut a).releaseSeam a
  else
    let late := w.isNone
    let s := if late then
        ({ s with pip := { s.pip with lateSeg := s.pip.lateSeg + 1 } }.setFlag F.PIP_SEAM_STAT_LATE true).addReg
          F.PIP_SEAM_STAT_LATE_LINES 1
      else s
    let loc := (s.pip.localSeam.find? (fun x => x.ln == (c.seamLines a.info.ln).2)).filter (fun x => x.captured)
    let bad := w.filter (fun x => x.available && x.width != c.get F.PIP_SEAM_OVL_W)
    let s := match bad with
      | some x => s.logMismatch x.width (c.get F.PIP_SEAM_OVL_W) a.info.sn
      | none => s
    let west := if bad.isSome then none else w.filter (fun x => x.available)
    let (b, s) := s.blend { a with seamDropped := (w.map (fun x => x.dropped)).getD false } (s.seamCfg a) loc west
    (s.recordOut b).releaseSeam a

/-- The records at the front of the wait that can leave, leave. -/
def State.flushSeams : List Aligned → State → State
  | [], s => { s with pip := { s.pip with waiting := [] } }
  | a :: r, s =>
    match s.seamReady a with
    | some w => flushSeams r (s.settle a w)
    | none => { s with pip := { s.pip with waiting := a :: r } }

/-- The waiting records, as far as they can leave. -/
def State.flushWaiting (s : State) : State := State.flushSeams s.pip.waiting s

/-- The east seam columns of a record are sent, or a marker (R223, R313). -/
def State.sendSeam (s : State) (a : Aligned) : State :=
  let c := a.info.cfg
  let ovl := c.get F.PIP_SEAM_OVL_E
  if ovl = 0 then s
  else
    let w0 := BitVec.ofNat 64 (a.info.ln.toNat + 2 ^ 48 * ovl)
    if a.placeholder then
      let w1 := BitVec.ofNat 64 (a.info.sn.toNat + 2 ^ 32 * placeholderFlags a.noRef)
      s.sendPacket 1 ⟨0x21, 2, s.posNow, s.posNow + 1, [w0, w1]⟩
    else
      let flags := recFlags a a.planes 0 16383 0
      let mask := a.planes.foldl (fun n p => n + 2 ^ p.bit) 0
      let w1 := BitVec.ofNat 64 (a.info.sn.toNat + 2 ^ 32 * flags + 2 ^ 48 * mask)
      let vals := a.planes.flatMap (fun p =>
        (p.cols.filter (fun x => decide (16383 - ovl ≤ x.pc))).map (fun x => x.v))
      let words := (chunks 4 ((vals.length + 3) / 4) vals).map (fun q =>
        BitVec.ofNat 64 (ofLeBytes (q.flatMap (fun v => leBytes 2 v))))
      s.sendPacket 1 ⟨0x20, 2, s.posNow, s.posNow + 1, w0 :: w1 :: words⟩

/-! ### Alignment (R215 to R221) -/

/-- The calibrated outputs of every group move into the hub. For the next record it holds the last 32 up to the record's
LN (R215); what stands behind that LN has not reached the hub yet, and is kept for later records. -/
def State.takeOutputs (s : State) : State :=
  let held := (List.range 6).map (fun g =>
    let all := ((s.cal.out[g]?.getD []).reverse) ++ (s.pip.held[g]?.getD [])
    match s.pip.lastLn with
    | some l => heldFor l all
    | none => all)
  { s with cal := { s.cal with out := List.replicate 6 [] }, pip := { s.pip with held := held } }

/-- The chain and the apply unit of group `g` have handled every line up to `r`. -/
def State.groupReady (s : State) (g : Nat) (r : LineNo) : Bool :=
  (match s.nextChainLine g with
    | some i => decide (0 < signedDiff i.ln r)
    | none => true)
  && (s.lfl.out[g]?.getD []).all (fun o => decide (0 < signedDiff o.ln r))

/-- The calibrated output of group `g` for source position `x` of record `r`, and whether it stands in for it (R218). -/
def State.source (s : State) (g : Nat) (x r : LineNo) : Option (GroupLine × Bool) :=
  s.sourceOf (s.pip.held[g]?.getD []) g x r

/-- The mean of two outputs, rounded half up (R216). -/
def meanCols (a b : List ColVal) : List ColVal :=
  List.zipWith (fun x y => ⟨x.pc, (x.v + y.v + 1) / 2, x.sat || y.sat, x.neg || y.neg⟩) a b

/-- The plane of group `g` in record `i` (R215, R216, R218). -/
def State.plane (s : State) (i : LineInfo) (g : Nat) : Option Plane :=
  let c := i.cfg
  let x := c.sourceLn g i.ln
  let make (o : GroupLine) (cols : List ColVal) (sub uns ext : Bool) (ctx : Nat) (stale : List Nat) : Plane :=
    ⟨g, (cols.filter (fun y => decide (c.winFirst ≤ y.pc) && decide (y.pc ≤ c.winLast))).map
      (fun y => { y with pc := y.pc - 64 }), o.pt, ctx, sub, uns, ext, stale, false, false, []⟩
  match s.source g x i.ln with
  | none => none
  | some (a, sa) =>
    if c.halved g then
      match s.source g (x + 1) i.ln with
      | none => none
      | some (b, sb) =>
        some (make a (meanCols a.cols b.cols) (sa || sb) (a.unsettled || b.unsettled) (a.calExtrap || b.calExtrap) b.ctx
          (a.staleCgs ++ b.staleCgs))
    else some (make a a.cols sa a.unsettled a.calExtrap a.ctx a.staleCgs)

/-- A plane for which the spec gives no source at all: free values, substituted (R218). -/
def State.freePlane (s : State) (i : LineInfo) (g : Nat) : Plane :=
  let c := i.cfg
  ⟨g, (List.range (c.winLast + 1 - c.winFirst)).map (fun k =>
    ⟨c.winFirst - 64 + k, Config.freeValue (s.freeCtr + 16384 * g + k) 16 % 65536, false, false⟩), 0, i.ctx, true, true,
    false, [], false, false, []⟩

/-- Records that the segment of line `i` has before it (R239, R310). -/
def LineInfo.nth (i : LineInfo) : Nat :=
  let c := i.cfg
  if c.decim = 1 then i.idx else c.recordsIn i.segFirst i.ln - 1

/-- A TILES or SOLID band that covers row `y` of segment `sn` is resident, or a SKIP band covers it (R257, R258). A
SOLID band has no payload to wait for, and the cache holds it when its rows come (notes/assumptions/31.md). -/
def State.referenced (s : State) (sn : SegNo) (y : Nat) : Bool :=
  s.sor.bands.any (fun b =>
    b.sn == sn && decide (b.y0 ≤ y) && decide (y < b.y0 + b.nrows) && (b.btype != 1 || b.resident))

/-- The test of R258 at the first record of a cell row; the outcome holds for every record of the row. -/
def State.testReference (s : State) (i : LineInfo) (nth : Nat) : Bool × State :=
  let c := i.cfg
  if c.get F.SOR_CTL_EN = 1 ∧ c.get F.PIP_CTL_INSP_EN = 1 then
    let y := nth / max 1 c.cellRows
    match s.pip.refRow with
    | some (sn, y', miss) =>
      if sn = i.sn ∧ y' = y then (miss, s) else tested s i y
    | none => tested s i y
  else (false, s)
where
  /-- The test itself. -/
  tested (s : State) (i : LineInfo) (y : Nat) : Bool × State :=
    let miss := !s.referenced i.sn y
    let s := { s with pip := { s.pip with refRow := some (i.sn, y, miss) } }
    if miss then
      let s := s.setFlag F.SOR_STAT_NOREF true
      (true, if s.flag F.SOR_ALARM_SRC_NOREF then s.assertAlarm 3 i.sn i.ln else s)
    else (false, s)

/-- The position of group `g`'s source that orders PT_NEW and PT_OLD: lag of the group in half lines. -/
def newestPlane (c : Cfg) (planes : List Plane) : Option Plane :=
  planes.foldl (fun b p => match b with
    | none => some p
    | some q => if c.ag2 q.bit < c.ag2 p.bit then some p else b) none

/-- The plane with the oldest source. -/
def oldestPlane (c : Cfg) (planes : List Plane) : Option Plane :=
  planes.foldl (fun b p => match b with
    | none => some p
    | some q => if c.ag2 p.bit < c.ag2 q.bit then some p else b) none

/-- The aligned record of line `i` (R215 to R220, R258); where an output in it is limited by the lower clamp of R180, it
counts in CAL_NEG (R181). -/
def State.formRecord (s : State) (i : LineInfo) : State :=
  let c := i.cfg
  let nth := i.nth
  let (noRef, s) := s.testReference i nth
  let placeholder := !i.launched
  let planes := if placeholder then []
    else c.enabledGroups.map (fun g => (s.plane i g).getD (s.freePlane i g))
  let s := if !placeholder && c.enabledGroups.any (fun g => (s.plane i g).isNone) then
      { s with freeCtr := s.freeCtr + 6 * 16384 }
    else s
  let s := if planes.any (fun (p : Plane) => p.cols.any (fun y => y.neg)) then s.addReg F.CAL_NEG_V 1 else s
  let a : Aligned :=
    { info := i, mark := false, nth := nth, placeholder := placeholder, planes := planes,
      ptNew := ((newestPlane c planes).map (fun p => p.pt)).getD 0,
      ptOld := ((oldestPlane c planes).map (fun p => p.pt)).getD 0, noRef := noRef, expired := false, seamSrc := 0,
      seamDropped := false }
  let s := s.sendSeam a
  let l : SeamLocal := ⟨i.ln, !placeholder,
    planes.map (fun (p : Plane) => { p with cols := p.cols.filter (fun x => decide (x.pc < 256)) }), c⟩
  { s with pip := { s.pip with localSeam := l :: s.pip.localSeam, waiting := s.pip.waiting ++ [a] } }.flushWaiting

/-- The ledger keeps the lines not yet aligned and the last 64 before them. -/
def trimLedger (lines : List LineInfo) (done : LineNo) : List LineInfo :=
  let old := lines.filter (fun i => decide (signedDiff i.ln done ≤ 0))
  lastN 64 old ++ lines.filter (fun i => decide (0 < signedDiff i.ln done))

/-- Lines that alignment has not passed. -/
def State.unaligned (s : State) : List LineInfo :=
  match s.pip.lastLn with
  | none => s.lines
  | some l => s.lines.filter (fun i => decide (0 < signedDiff i.ln l))

/-- After a stop, with every line aligned and no record waiting, the open segment closes (R244, R491); a segment whose
lines gave no record closes as well. -/
def State.pipDrained (s : State) : State :=
  let rest := s.unaligned
  if s.isRunning || !s.pip.waiting.isEmpty || rest.any (fun i => Cfg.recordAt i.cfg i.ln) then s
  else
    let s := rest.foldl (fun s i => s.lineEnters i) s
    let s := match s.lines.getLast? with
      | some i => { s with pip := { s.pip with lastLn := some i.ln } }
      | none => s
    match s.pip.seg with
    | some (sn, first, c) =>
      let last := match s.lines.getLast? with
        | some i => i.ln
        | none => s.pip.lastLn.getD 0
      s.pipClose sn first last c false none
    | none => s

/-- A line of which the hub gets no data: a placeholder for the classes. -/
def LineInfo.blank (i : LineInfo) (mark : Bool) : Aligned :=
  { info := i, mark := mark, nth := i.nth, placeholder := true, planes := [], ptNew := 0, ptOld := 0, noRef := false,
    expired := false, seamSrc := 0, seamDropped := false }

/-- The lines before line `i` at which no record is formed, and that close or restart something, in the wait behind the
records before them (R217). -/
def State.passMarks (s : State) (i : LineInfo) : State :=
  let old := s.unaligned.filter (fun j => decide (signedDiff j.ln i.ln < 0))
  let marks := (old.filter (fun j => j.gap.isSome || j.boundary || j.start || !j.restarts.isEmpty)).map
    (fun j => j.blank true)
  { s with pip := { s.pip with waiting := s.pip.waiting ++ marks } }.flushWaiting

/-- A line falls into a gate of PLL-H or PLL-B: it crosses the bridge no more, its seam columns are not sent, and its
record is dropped with the streams (R418, notes/assumptions/66.md). -/
def State.loseRecord (s : State) (i : LineInfo) : State :=
  { s with
    cal := { s.cal with out := s.cal.out.map (fun (l : List GroupLine) =>
      l.filter (fun o => decide (0 < signedDiff o.ln i.ln))) },
    pip := { s.pip with waiting := s.pip.waiting ++ [i.blank false] } }.flushWaiting

/-- The records that wait for their seam when PLL-H is gated, and HCLK with it, are dropped with the streams (R348,
R418). -/
def State.dropWaiting (s : State) : State :=
  s.pip.waiting.foldl (fun (s : State) a =>
    let s := s.lineEnters a.info
    if a.mark then s else s.recordOut { a with placeholder := true, planes := [] })
    { s with pip := { s.pip with waiting := [] } } |>.pipDrained

/-- ALIGNED_RECORD: the next line at which a record is formed, once every enabled group has handled it (R215, R217). -/
def State.align (s : State) : State :=
  let s := if s.dma.hub then s else s.takeOutputs
  match s.unaligned.find? (fun i => Cfg.recordAt i.cfg i.ln) with
  | none => s.pipDrained
  | some i =>
    if i.launched && !(Cfg.enabledGroups i.cfg).all (fun g => s.groupReady g i.ln) then s
    else
      let s := s.passMarks i
      let s := if s.dma.hub then s.loseRecord i else s.formRecord i
      { s with pip := { s.pip with lastLn := some i.ln }, lines := trimLedger s.lines i.ln }.pipDrained

def execAlignedRecord (s : State) : Res := .next s.align

/-! ### West seam lines (R223, R226, R227) -/

/-- A line of the west neighbour has come too late: its record has left (R226). -/
def State.westPassed (s : State) (ln : LineNo) : Bool :=
  match s.pip.lastOut with
  | none => false
  | some o => decide (signedDiff ln (Cfg.seamLines s.regs o).1 ≤ 0)

/-- Slots of the stagger buffer in use (R224). -/
def State.seamSlots (s : State) : Nat :=
  (s.pip.west.filter (fun w => !w.dropped)).length +
    (if Cfg.seamLag s.regs = 0 then 0
    else (s.pip.localSeam.filter (fun l => l.cfg.get F.PIP_SEAM_OVL_W != 0)).length)

/-- A west line enters the stagger buffer, or is dropped with the rest of its SN (R227); the hub takes none while HCLK
is gated (R418). -/
def State.takeWest (s : State) (w : WestLine) : State :=
  if s.westPassed w.ln || s.gated 1 then s
  else
    let dropping := s.pip.westDropping == some w.sn
    let d : WestLine := ⟨w.ln, w.sn, w.width, false, true, false, false, false, false, []⟩
    let s := if dropping then s
      else { s with pip := { s.pip with westDropping := none } }.setFlag F.PIP_SEAM_STAT_DROPPING false
    if dropping then
      { s with pip := { s.pip with west := s.pip.west ++ [d] } }.flushWaiting
    else if 4096 ≤ s.seamSlots then
      let s := { s with pip := { s.pip with
        westDropping := some w.sn, west := s.pip.west ++ [d] } }
      let s := (s.setFlag F.PIP_SEAM_STAT_DROPPING true).setFlag F.PIP_SEAM_STAT_OVF true
      (s.log 0x0601 [(4, w.sn.toNat), (6, w.ln.toNat)]).flushWaiting
    else { s with pip := { s.pip with west := s.pip.west ++ [w] } }.flushWaiting

/-- OVL_W of segment `sn`: as a line of it has it, or the confirmed commit that it waits for, else the one in force
(R223, notes/assumptions/61.md). -/
def State.overlapOf (s : State) (sn : SegNo) : Nat :=
  match s.lines.find? (fun i => i.sn == sn) with
  | some i => i.cfg.get F.PIP_SEAM_OVL_W
  | none =>
    if s.commit.busy && s.reg F.CFG_STAT_STATE == 3 && !snLater s.commit.target sn then
      Bank.get s.target F.PIP_SEAM_OVL_W
    else s.reg F.PIP_SEAM_OVL_W

/-- The samples of a SEAM packet's words. -/
def seamSamples (words : List Word64) : List Nat :=
  words.flatMap (fun w => (List.range 4).map (fun k => w.toNat / 2 ^ (16 * k) % 65536))

/-- The planes of a SEAM packet: `n` samples for each group of the mask. -/
def seamPlanes (n : Nat) : List Nat → List Nat → List (Nat × List Nat)
  | [], _ => []
  | g :: gs, vs => (g, vs.take n) :: seamPlanes n gs (vs.drop n)

/-- A SEAM or SEAM_MARK packet from the west, with its LEN checked (Table CHV-7, Table CHV-10). After a stop, the record
that it releases may be the last of its segment (R244, R491). -/
def State.seamPacket (s : State) (mark : Bool) (words : List Word64) : State :=
  if !s.portUp 0 || s.chv.cwIgnored then s
  else
    match words with
    | w0 :: w1 :: data =>
      let ln := BitVec.ofNat 48 w0.toNat
      let width := w0.toNat / 2 ^ 48 % 512
      let sn := BitVec.ofNat 32 w1.toNat
      let flags := w1.toNat / 2 ^ 32 % 65536
      let groups := (List.range 6).filter (fun g => bitAt (w1.toNat / 2 ^ 48) g)
      let n := (width + 1) * groups.length
      if data.length != (if mark then 0 else (n + 3) / 4) then s.dropPacket 0
      else
        let s := if width = s.overlapOf sn then s else s.logMismatch width (s.overlapOf sn) sn
        (if mark then s.takeWest ⟨ln, sn, width, false, false, false, false, false, false, []⟩
        else s.takeWest ⟨ln, sn, width, true, false, bitAt flags 6, bitAt flags 0, bitAt flags 1, bitAt flags 5,
          seamPlanes (width + 1) groups (seamSamples data)⟩).pipDrained
    | _ => s.dropPacket 0

/-- SEAM (R224). -/
def execSeam (words : List Word64) (s : State) : Res := .next (s.seamPacket false words)

/-- SEAM_MARK (R223). -/
def execSeamMark (words : List Word64) (s : State) : Res := .next (s.seamPacket true words)

/-- SEAM_WAIT_EXPIRY (R226): the wait of the oldest record that waits for its west line expires. -/
def execSeamWaitExpiry (s : State) : Res :=
  .next (match s.pip.waiting with
    | [] => s
    | a :: r => { s with pip := { s.pip with waiting := { a with expired := true } :: r } }.flushWaiting.pipDrained)

end Sys2Proof.Machine
end

