-- ==== Sys2Proof/Machine/Sorrel.lean ====
section
/-! DEFINITION. Sorrel: the expected image, the region table, the compare, clustering, registration, its records and
the release of ALARM_N (08_sorrel_reference_compare.md). -/

namespace Sys2Proof.Machine

/-! ### The expected image (R255 to R257) -/

/-- The number of `k` bytes at byte `i` of a band header (Table SOR-1). -/
def hdrField (h : List Byte) (i k : Nat) : Nat := leAt h i k

/-- Offset of the first header field of a band at fault, the CRC apart (R256, Table SOR-1). -/
def bandFault (nt : Nat) (h : List Byte) : Option Nat :=
  let f := hdrField h
  let t := f 0 1
  let n := f 10 2
  let zero (a k : Nat) : Bool := f a k == 0
  if !(t == 1 || t == 2 || t == 3) then some 0
  else if f 1 1 != 1 then some 1
  else if !zero 2 2 then some 2
  else if f 8 2 % 16 != 0 then some 8
  else if !(if t == 3 then n % 16 == 0 && decide (16 ≤ n) else n == 16) then some 10
  else if f 12 2 != (if t == 1 then nt else 0) then some 12
  else if !zero 14 2 then some 14
  else if t != 2 && !zero 16 4 then some 16
  else if f 20 4 != (if t == 1 then 4096 * nt else 0) then some 20
  else if !zero 24 36 then some 24
  else none

/-- Bytes of a band in the backlog. -/
def Band.size (b : Band) : Nat := 64 + b.payload.length

/-- Bytes of the backlog in use, those not yet parsed included (R256). -/
def State.backlogUsed (s : State) : Nat :=
  s.sor.bands.foldl (fun n b => n + b.size) (s.sor.parse.foldl (fun (n : Nat) (p : Bool × List Byte) => n + p.2.length) 0)

/-- The backlog is full: it holds 64 MiB, or bytes that it has had no room for wait (R256). -/
def State.backlogFull (s : State) : Bool := decide (0x4000000 ≤ s.backlogUsed) || !s.dma.spill.isEmpty

/-- A band is discarded and counted; the error cases set REF_ERR (R256). -/
def State.discardBand (s : State) (err : Bool) : State :=
  let s := s.addReg F.SOR_REF_DISCARD_V 1
  if err then s.setFlag F.SOR_STAT_REF_ERR true else s

/-- The bytes that wait for the parser. -/
def Sor.waiting (x : Sor) : List Byte := x.parse.flatMap (fun p => p.2)

/-- The first `n` waiting bytes are used up. -/
def dropRuns : Nat → List (Bool × List Byte) → List (Bool × List Byte)
  | _, [] => []
  | n, (b, r) :: rest =>
    if r.length ≤ n then dropRuns (n - r.length) rest
    else if n = 0 then (b, r) :: rest
    else (false, r.drop n) :: rest

/-- The runs from the next one that begins a record, after the run in hand. -/
def seekRuns (l : List (Bool × List Byte)) : List (Bool × List Byte) := l.dropWhile (fun p => !p.1)

/-- The parser skips to the next record that FIRST_REC gives (R256). -/
def State.seekRecord (s : State) (keep : List (Bool × List Byte)) : State :=
  let rest := seekRuns keep
  { s with sor := { s.sor with parse := rest, seeking := rest.isEmpty } }

/-- The first `n` bytes of some runs. -/
def takeRuns : Nat → List (Bool × List Byte) → List (Bool × List Byte)
  | _, [] => []
  | n, (b, r) :: rest => if n = 0 then [] else (b, r.take n) :: takeRuns (n - r.length) rest

/-- What has been read of the buffer in hand moves into the backlog as space allows, and so to the parser, which may
seek a record first (R256). -/
def State.refMove (s : State) : State :=
  let runs := if s.sor.seeking then seekRuns s.dma.spill else s.dma.spill
  let n := 0x4000000 - s.backlogUsed
  { s with
    sor := { s.sor with parse := s.sor.parse ++ takeRuns n runs, seeking := s.sor.seeking && runs.isEmpty },
    dma := { s.dma with spill := dropRuns n runs } }

/-- Bytes of the reference ring have been read; `first` is FIRST_REC (R340). -/
def State.refFeed (s : State) (bytes : List Byte) (first : Nat) : State :=
  let runs : List (Bool × List Byte) :=
    if first < bytes.length then [(false, bytes.take first), (true, bytes.drop first)] else [(false, bytes)]
  { s with dma := { s.dma with spill := runs.filter (fun p => !p.2.isEmpty) } }.refMove

/-- Every row of a band has passed the residency test (R258, Table SOR-2). -/
def State.bandLate (s : State) (sn : SegNo) (y0 n : Nat) : Bool :=
  match s.pip.refRow with
  | none => false
  | some (cur, y, _) => snLater cur sn || (sn == cur && decide (y0 + n ≤ y + 1))

/-- Its SN has closed (Table SOR-2). -/
def State.bandClosed (s : State) (sn : SegNo) : Bool :=
  match s.sor.closed with
  | none => false
  | some (c, _) => !snLater sn c

/-- A band whose header is valid is put into the backlog or discarded (R256, Table SOR-2). -/
def State.takeBand (s : State) (h payload : List Byte) : State :=
  let sn := BitVec.ofNat 32 (hdrField h 4 4)
  let y0 := hdrField h 8 2
  let n := hdrField h 10 2
  if hdrField h 60 4 ≠ (crc32 (h.take 60 ++ payload)).toNat then
    (s.discardBand true).log 0x0701 [(4, sn.toNat), (2, y0), (1, 60)]
  else
    let ordered := match s.sor.lastBand with
      | none => true
      | some (l, row) => snLater sn l || (sn == l && decide (row < y0))
    if !ordered then (s.discardBand true).log 0x0702 [(4, sn.toNat), (2, y0)]
    else if s.bandClosed sn then s.discardBand false
    else if s.bandLate sn y0 n then (s.discardBand false).log 0x0703 [(4, sn.toNat), (2, y0)]
    else
      let b : Band := ⟨hdrField h 0 1, sn, y0, n, (h.drop 16 |>.take 4).map BitVec.toNat, payload, false⟩
      { s with sor := { s.sor with bands := s.sor.bands ++ [b], lastBand := some (sn, y0 + n - 1) } }

/-- BAND_RECORD: the next band record is parsed, once its bytes are there (R256). -/
def State.parseBand (s : State) : State :=
  let w := s.sor.waiting
  if w.length < 64 then s
  else
    let h := w.take 64
    match bandFault (Cfg.tiles s.regs) h with
    | some off =>
      let s := (s.discardBand true).log 0x0701 [(4, hdrField h 4 4), (2, hdrField h 8 2), (1, off)]
      match s.sor.parse with
      | [] => s
      | _ :: rest => s.seekRecord rest
    | none =>
      let n := 64 + hdrField h 20 4
      if w.length < n then s
      else
        { s with sor := { s.sor with parse := dropRuns n s.sor.parse } }.takeBand h ((w.drop 64).take (n - 64))

def execBandRecord (s : State) : Res := .next s.parseBand

/-- At most `n` band records that wait as a whole are parsed. -/
def State.parseBands : Nat → State → State
  | 0, s => s
  | n + 1, s => State.parseBands n s.parseBand

/-- The stream of the reference ring ends: the bands that have come whole are parsed, and what is left of one is dropped
with the bytes that the backlog has had no room for (R256, R333, notes/assumptions/62.md). -/
def State.refOver (s : State) : State :=
  let s := State.parseBands (s.sor.waiting.length / 64) s
  { s with sor := { s.sor with parse := [], seeking := true }, dma := { s.dma with spill := [], readsDue := [] } }

/-- The band in progress is discarded because its buffer could not be read (R340, R348, Table SOR-11); the bands
before it that have come whole are parsed. Where its header had not come far enough to give SN or Y0, they are free
values. -/
def State.refAbort (s : State) : State :=
  let s := { State.parseBands (s.sor.waiting.length / 64) s with dma := { s.dma with readsDue := [] } }
  let w := s.sor.waiting
  if w.isEmpty then { s with sor := { s.sor with seeking := true } }
  else
    let (f4, s) := s.drawFree 32
    let (f8, s) := s.drawFree 16
    let sn := if w.length < 8 then f4 else hdrField w 4 4
    let y0 := if w.length < 10 then f8 else hdrField w 8 2
    let s := s.discardBand true
    { s with sor := { s.sor with parse := [], seeking := true } }.log 0x0701 [(4, sn), (2, y0), (1, 0xFF)]

/-- The tile cache holds band `b`: rows Y_cur − 48 to Y_cur + 47 of the current segment, and the first two bands of the
next SN in the backlog (R257). -/
def State.cacheHolds (s : State) (b : Band) : Bool :=
  let cur := s.pip.refRow
  let near := match cur with
    | none => false
    | some (sn, y, _) => b.sn == sn && decide (y < b.y0 + b.nrows + 48) && decide (b.y0 ≤ y + 47)
  let later := s.sor.bands.filter (fun x => match cur with
    | none => true
    | some (sn, _, _) => snLater x.sn sn)
  let next := match later.head? with
    | none => ([] : List Band)
    | some x => (later.filter (fun (y : Band) => y.sn == x.sn)).take 2
  near || next.any (fun x => x.sn == b.sn && x.y0 == b.y0)

/-- BAND_RESIDENT (R257). -/
def State.bandResident (s : State) (sn : SegNo) (y0 : Nat) : State :=
  { s with sor := { s.sor with bands := s.sor.bands.map (fun b =>
      if b.sn == sn && b.y0 == y0 && s.cacheHolds b then { b with resident := true } else b) } }

def execBandResident (sn : SegNo) (y0 : Nat) (s : State) : Res := .next (s.bandResident sn y0)

/-- The bands of which no row can be needed again leave (R257, R271). -/
def State.releaseBands (s : State) (sn : SegNo) (y : Nat) : State :=
  { s with sor := { s.sor with
    bands := s.sor.bands.filter (fun b => !(b.sn == sn && decide (b.y0 + b.nrows + 48 ≤ y))) } }

/-- The band that covers a row. -/
def State.bandAt (s : State) (sn : SegNo) (y : Nat) : Option Band :=
  s.sor.bands.find? (fun b => b.sn == sn && decide (b.y0 ≤ y) && decide (y < b.y0 + b.nrows))

/-- The expected codes of a row: four channels for each cell column (R255). -/
def Band.row (b : Band) (nt y : Nat) : List (List Nat) :=
  if b.btype = 2 then List.replicate (64 * nt) b.solid
  else (List.range nt).flatMap (fun t =>
    chunks 4 64 (((b.payload.drop (4096 * t + 256 * (y - b.y0))).take 256).map BitVec.toNat))

/-- The expected codes of row `y` where a TILES or SOLID band that covers it is resident. -/
def State.expected (s : State) (c : Cfg) (sn : SegNo) (y : Nat) : Option (List (List Nat)) :=
  match s.bandAt sn y with
  | some b => if b.btype = 3 || (b.btype = 1 && !b.resident) then none else some (b.row c.tiles y)
  | none => none

/-! ### The transform and the metric (R259, R260) -/

/-- Row `j` of the matrix of context `x`, and its offset (Table SOR-10). -/
def Cfg.sorRow (c : Cfg) (x j : Nat) : List Int × Int :=
  ([c.get (F.SOR_CTX_M_LO x j 0), c.get (F.SOR_CTX_M_HI x j 0), c.get (F.SOR_CTX_M_LO x j 1),
      c.get (F.SOR_CTX_M_HI x j 1)].map (signedOf 16),
    signedOf 16 (if j % 2 = 0 then c.get (F.SOR_CTX_O_LO x (j / 2)) else c.get (F.SOR_CTX_O_HI x (j / 2))))

/-- t0 to t3 of a cell (R259). -/
def Cfg.transform (c : Cfg) (x : Nat) (v : List Nat) : List Nat :=
  (List.range 4).map (fun j =>
    let (m, o) := c.sorRow x j
    let sum := sumInt (List.zipWith (fun a b => a * Int.ofNat b) m v)
    lutValue (fun i => c.get (F.SOR_LUT_L x j i)) (clampNat 0 65535 (o + shiftDown (sum + 2048) 12)))

/-- w_j of class `k`. -/
def Cfg.weight (c : Cfg) (k j : Nat) : Nat := bitsAt (c.get (F.SOR_CLASS_CTL_W k)) (4 * j) 4

/-- The metric m, sg, and whether the cell is out of tolerance (R260). -/
def Cfg.judgeCell (c : Cfg) (k : Nat) (t e : List Nat) : Nat × Int × Bool :=
  let mode := c.get (F.SOR_CLASS_CTL_MODE k)
  let pol := c.get (F.SOR_CLASS_CTL_POL k)
  let d (j : Nat) : Int := Int.ofNat (t[j]?.getD 0) - 256 * Int.ofNat (e[j]?.getD 0)
  let a (j : Nat) : Nat := c.weight k j * (d j).natAbs
  let raw := if mode = 1 then (List.range 4).foldl (fun m j => max m (a j)) 0
    else (List.range 4).foldl (fun m j => m + a j) 0
  let m := min 0xFFFF (raw / 4)
  let sg := (List.range 4).foldl (fun (n : Int) j => n + Int.ofNat (c.weight k j) * d j) 0
  (m, sg, mode != 0 && decide (c.get (F.SOR_CLASS_TH_TH k) < m)
    && (pol == 0 || (pol == 1 && decide (0 < sg)) || (pol == 2 && decide (sg < 0))))

/-! ### The region table (R261 to R265) -/

/-- BAR2 offset of region bank `b` (Table DMA-2). -/
def bankBase (b : Nat) : Nat := 0x9000000 + 0x100000 * b

/-- One region entry (Table SOR-3). -/
structure Region where
  index : Nat
  x0 : Nat
  x1 : Nat
  y0 : Nat
  y1 : Nat
  cls : Nat
  noreg : Bool
  prio : Nat
  tag : Nat
  maxdef : Nat
  /-- Its reserved fields are 0. -/
  clean : Bool
  deriving DecidableEq, Repr

/-- Entry `i` of a bank whose first byte stands at `base` of memory `m`. -/
def regionAt (m : List Host.Cell) (base i : Nat) : Region :=
  let b := readBytes m (base + 16 * i) 16
  let f := hdrField b
  ⟨i, f 0 2, f 2 2, f 4 2, f 6 2, bitsAt (f 8 1) 0 4, bitAt (f 8 1) 4, f 9 1, f 10 2, f 12 2,
    bitsAt (f 8 1) 5 3 == 0 && f 14 2 == 0⟩

/-- The bytes of a bank, by offset from its base. -/
def bankCells (m : List Host.Cell) (base : Nat) : List Host.Cell :=
  (m.filter (fun x => decide (base ≤ x.1) && decide (x.1 < base + 0x100000))).map (fun x => (x.1 - base, x.2))

/-- The bank that judges segment `sn`: memory and base, COUNT and GEN (R265). -/
def State.bankFor (s : State) (sn : SegNo) : List Host.Cell × Nat × Nat × Nat :=
  let now := (s.mem, bankBase (s.reg F.SOR_RT_STAT_IN_FORCE), s.sor.count, s.reg F.SOR_RT_STAT_GEN_IN_FORCE)
  match s.sor.oldBanks.find? (fun b => snLater b.1 sn) with
  | none => now
  | some (_, cells, count, gen) => (cells, 0, count, gen)

/-- The region entries that cover row `y`, in index order. -/
def State.rowRegions (s : State) (sn : SegNo) (y : Nat) : List Region :=
  let (m, base, count, _) := s.bankFor sn
  ((List.range count).map (regionAt m base)).filter (fun r => decide (r.y0 ≤ y) && decide (y ≤ r.y1))

/-- The entry that a cell takes: the highest PRIO, then the lowest index (R262). -/
def pickRegion (rs : List Region) (x : Nat) : Option Region :=
  rs.foldl (fun best r =>
    if r.x0 ≤ x ∧ x ≤ r.x1 then
      match best with
      | none => some r
      | some b => if b.prio < r.prio then some r else best
    else best) none

/-- The reason an entry breaks a rule of Table SOR-4; `lasts` holds the last rows of the entries before it, the one
before it first, with that entry's Y0. -/
def State.entryReason (s : State) (prevY0 : Option Nat) (lasts : List Nat) (r : Region) : Option Nat :=
  if r.x1 < r.x0 ∨ 8192 ≤ r.x1 then some 2
  else if r.y1 < r.y0 then some 3
  else if prevY0.any (fun p => decide (r.y0 < p)) then some 4
  else if 256 ≤ (lasts.filter (fun y => decide (r.y0 ≤ y))).length then some 5
  else if !r.clean || (s.reg (F.SOR_CLASS_CTL_MIN_CELLS r.cls) == 0 && s.reg (F.SOR_CLASS_CTL_MODE r.cls) != 0) then
    some 6
  else none

/-- The first entry that breaks a rule, with its reason (R264): `n` entries from entry `i`. -/
def State.firstBad (s : State) (base : Nat) : Nat → Nat → Option Nat → List Nat → Option (Nat × Nat)
  | 0, _, _, _ => none
  | n + 1, i, prev, lasts =>
    let r := regionAt s.mem base i
    match s.entryReason prev lasts r with
    | some x => some (x, i)
    | none =>
      State.firstBad s base n (i + 1) (some r.y0) (r.y1 :: lasts.filter (fun y => decide (r.y0 ≤ y)))

/-- The inactive bank. -/
def State.idleBank (s : State) : Nat := 1 - s.reg F.SOR_RT_STAT_IN_FORCE

/-- Library slot `k` is copied into the inactive bank (R263). -/
def State.copySlot (s : State) (k : Nat) : State :=
  let src := dramBase + 0x3000000 + 0x100000 * k
  let dst := bankBase s.idleBank
  let copy := (bankCells s.mem src).map (fun x => (x.1 + dst, x.2))
  { s with mem := s.mem.filter (fun x => decide (x.1 < dst)) ++ copy
      ++ s.mem.filter (fun x => decide (dst + 0x100000 ≤ x.1)) }

/-- RT_ARM (R10, R263). -/
def State.rtArm (s : State) : State :=
  match s.sor.arm with
  | .idle =>
    let src := s.reg F.SOR_RT_CTL_SRC
    let s := if 1 ≤ src ∧ src ≤ 16 then s.copySlot (src - 1) else s
    { s with sor := { s.sor with
      arm := .validating (s.reg F.SOR_RT_COUNT_V) (s.reg F.SOR_RT_CTL_GEN) src
        (BitVec.ofNat 32 (s.reg F.SOR_RT_SWAP_SN_V)) } }.setFlag F.SOR_RT_STAT_VALIDATING true
  | _ => s.writeIgnored 0xA0030 5

def execRtArm (s : State) : Res := .next (s.hostAction 0xA0030 (fun s => s.rtArm))

/-- The arming ends (R263 to R265). -/
def State.disarm (s : State) : State :=
  ({ s with sor := { s.sor with arm := .idle } }.setFlag F.SOR_RT_STAT_VALIDATING false).setFlag F.SOR_RT_STAT_READY
    false

/-- RT_DISARM (R263). -/
def execRtDisarm (s : State) : Res := .next (s.hostAction 0xA0030 (fun s => s.disarm))

/-- Some cell row that the pipeline or Sorrel has not finished may belong to an earlier segment. -/
def State.sorBusy (s : State) : Bool :=
  !s.sor.rows.isEmpty || s.sor.seg.isSome || s.pip.seg.isSome || !s.unaligned.isEmpty

/-- The READY bank comes into force for segment `sn` (R265). -/
def State.swapBank (s : State) (sn : SegNo) (count gen : Nat) : State :=
  let (m, base, oldCount, oldGen) := (s.mem, bankBase (s.reg F.SOR_RT_STAT_IN_FORCE), s.sor.count,
    s.reg F.SOR_RT_STAT_GEN_IN_FORCE)
  let olds := if s.sorBusy then s.sor.oldBanks ++ [(sn, bankCells m base, oldCount, oldGen)] else []
  let s := { s with sor := { s.sor with oldBanks := olds, count := count } }.disarm
  ((s.setReg F.SOR_RT_STAT_IN_FORCE s.idleBank).setReg F.SOR_RT_STAT_GEN_IN_FORCE gen).log 0x0708
    [(4, sn.toNat), (1, gen)]

/-- While Thyme is stopped, a READY bank comes into force at once (R265). -/
def State.swapIdle (s : State) : State :=
  match s.sor.arm with
  | .ready count gen _ _ => if s.isRunning then s else s.swapBank (s.snNow + 1) count gen
  | _ => s

/-- What the boundary at press time `t` that opens segment `sn` does to the region table (R265). -/
def State.rtBoundary (s : State) (t : PressTime) (sn : SegNo) : State :=
  let miss (want : SegNo) : State :=
    if want = sn then
      ({ s with sor := { s.sor with missedSn := s.sor.missedSn ++ [sn] } }.setFlag F.SOR_RT_STAT_MISSED true).log 0x0709
        [(4, want.toNat)]
    else s
  match s.sor.arm with
  | .idle => s
  | .validating _ _ _ want => miss want
  | .ready count gen want since =>
    if snLater want sn then s
    else if 256 ≤ signedDiff t since then s.swapBank sn count gen
    else miss want

/-- RT_VALIDATION_DONE (R264). For COUNT above 65,536 and SRC above 16 the spec names no entry: it is a free value. -/
def State.rtValidated (s : State) : State :=
  match s.sor.arm with
  | .validating count gen src swap =>
    let bad (s : State) (reason entry : Nat) : State :=
      let s := (s.disarm.setFlag F.SOR_RT_STAT_INVALID true).setReg F.SOR_RT_STAT_REASON reason
      (s.setReg F.SOR_RT_STAT_BAD_ENTRY entry).log 0x0707 [(1, reason), (2, entry)]
    if 16 < src ∨ 65536 < count then
      let (free, s) := s.drawFree 16
      bad s (if 16 < src then 6 else 1) free
    else
      match s.firstBad (bankBase s.idleBank) count 0 none [] with
      | some (reason, entry) => bad s reason entry
      | none =>
        let s := { s with sor := { s.sor with arm := .ready count gen swap s.pt } }
        ((s.setFlag F.SOR_RT_STAT_VALIDATING false).setFlag F.SOR_RT_STAT_READY true).swapIdle
  | _ => s

def execRtValidationDone (s : State) : Res := .next s.rtValidated

/-! ### Stream 17 (R274 to R276) -/

/-- SOR_TRUNC: stream 17 drops the rest of the segment (R275). -/
def State.truncate17 (s : State) (sn : SegNo) : State :=
  let s := { s with sor := { s.sor with truncSeg := true } }
  (s.setFlag F.SOR_STAT_TRUNC true).log 0x070B [(4, sn.toNat)]

/-- A defect or registration record enters stream 17, or is dropped; true where it entered. -/
def State.stage17 (s : State) (c : Cfg) (bytes : List Byte) (ln : LineNo) (sn : SegNo) : Bool × State :=
  let before := (s.stream 17).recs.length
  let wasDropping := (s.stream 17).dropping.isSome
  let s := s.stage c 17 bytes ln ln sn
  if before < (s.stream 17).recs.length then (true, s)
  else if (s.stream 17).dropping.isSome then
    let s := if wasDropping then s else s.truncate17 sn
    (false, { s with sor := { s.sor with lost := s.sor.lost + 1 } })
  else (false, s)

/-- Entry into flood (R276, R277). -/
def State.enterFlood (s : State) (c : Cfg) (sn : SegNo) (ln : LineNo) : State :=
  let s := { s with sor := { s.sor with floodSeg := true } }
  let s := (s.setFlag F.SOR_STAT_FLOOD true).setFlag F.SOR_STAT_FLOODED true
  let s := s.log 0x0705 [(4, sn.toNat), (6, ln.toNat)]
  if c.get F.SOR_ALARM_SRC_FLOOD = 1 then s.assertAlarm 2 sn ln else s

/-- FLOOD_TOKEN (R276). -/
def execFloodToken (s : State) : Res :=
  .next { s with sor := { s.sor with tokens := min 1024 (s.sor.tokens + 1) } }

/-! ### Defects (R266 to R269, R277) -/

/-- An out-of-tolerance cell. -/
structure OutCell where
  x : Nat
  m : Nat
  pos : Bool
  cls : Nat
  region : Option Region
  stale : Bool
  deriving DecidableEq, Repr

/-- The class of a defect: the highest SEV among its cells, then the lowest number (R269). -/
def Cfg.defectClass (c : Cfg) (d : Defect) : Nat :=
  ((List.range 16).filter (fun k => decide (0 < d.byClass[k]?.getD 0))).foldl (fun (b : Option Nat) k => match b with
    | none => some k
    | some j => if c.get (F.SOR_CLASS_CTL_SEV j) < c.get (F.SOR_CLASS_CTL_SEV k) then some k else b) none |>.getD 0

/-- A defect record (Table SOR-5). -/
def State.defectRecord (s : State) (c : Cfg) (d : Defect) (sn : SegNo) (split segend : Bool) : List Byte :=
  let k := c.defectClass d
  let (_, _, _, gen) := s.bankFor sn
  leBytes 2 0x0710 ++
    leBytes 1 (k + 16 * c.get (F.SOR_CLASS_CTL_SEV k) + 64 * boolBit d.peakSign + 128 * boolBit d.crit) ++
    leBytes 1 (boolBit d.edgeW + 2 * boolBit d.edgeE + 4 * boolBit split + 8 * boolBit d.cont + 16 * boolBit segend
      + 32 * boolBit d.sat + 64 * boolBit d.flagged) ++
    leBytes 4 sn.toNat ++ leBytes 6 d.lnFirst.toNat ++ leBytes 2 (min 65535 d.cells) ++ leBytes 2 d.x0 ++
    leBytes 2 d.x1 ++ leBytes 2 d.y0 ++ leBytes 2 d.y1 ++ leBytes 2 d.peak ++ leBytes 2 d.peakTag ++
    leBytes 1 s.posNow ++ leBytes 1 gen ++ leBytes 2 s.sor.defSeq

/-- The entry of the peak cell has not reached its MAXDEF in this segment (R269). -/
def State.belowMax (s : State) (d : Defect) (sn : SegNo) : Bool :=
  match d.peakEntry with
  | none => true
  | some i =>
    let (m, base, _, _) := s.bankFor sn
    let r := regionAt m base i
    r.maxdef == 0 || decide ((Assoc.find s.sor.perEntry i).getD 0 < r.maxdef)

/-- A decided defect that would be written (R269, R276). -/
def State.writeDefect (s : State) (c : Cfg) (d : Defect) (sn : SegNo) (ln : LineNo) (split segend : Bool) : State :=
  if s.sor.tokens = 0 then s.enterFlood c sn ln
  else
    let (ok, s) := s.stage17 c (s.defectRecord c d sn split segend) d.lnFirst sn
    if ok then
      let x := s.sor
      { s with sor := { x with
        tokens := x.tokens - 1, written := x.written + 1, defSeq := (x.defSeq + 1) % 65536,
        perEntry := match d.peakEntry with
          | none => x.perEntry
          | some i => Assoc.insert x.perEntry i ((Assoc.find x.perEntry i).getD 0 + 1) } }.addReg F.SOR_WRITTEN_V 1
    else s

/-- A defect closes (R267, R269). -/
def State.closeDefect (s : State) (c : Cfg) (d : Defect) (sn : SegNo) (ln : LineNo) (split segend : Bool) : State :=
  if c.get (F.SOR_CLASS_CTL_MIN_CELLS (c.defectClass d)) ≤ d.cells then
    let s := { s with sor := { s.sor with decided := s.sor.decided + 1 } }.addReg F.SOR_DEFECTS_V 1
    if c.get F.SOR_OUT_DEF_EN = 1 ∧ s.sor.floodSeg = false ∧ s.belowMax d sn then s.writeDefect c d sn ln split segend
    else s
  else { s with sor := { s.sor with small := s.sor.small + 1 } }

/-- Two cells connect (R266). -/
def connects (gap x k : Nat) (cell : Nat × Nat) : Bool :=
  decide (Int.natAbs (Int.ofNat x - Int.ofNat cell.1) ≤ gap + 1) && decide (k ≤ cell.2 + gap + 1)

/-- Two defects merged into the earlier one (R266). -/
def mergeDefects (a b : Defect) : Defect :=
  let earlier := decide (b.peakAt.1 < a.peakAt.1) || (b.peakAt.1 == a.peakAt.1 && decide (b.peakAt.2 < a.peakAt.2))
  let peakB := decide (a.peak < b.peak) || (a.peak == b.peak && earlier)
  { a with
    edge := a.edge ++ b.edge, lastRow := max a.lastRow b.lastRow, cells := a.cells + b.cells,
    byClass := List.zipWith (· + ·) a.byClass b.byClass, x0 := min a.x0 b.x0, x1 := max a.x1 b.x1,
    y0 := min a.y0 b.y0, y1 := max a.y1 b.y1, lnFirst := if b.y0 < a.y0 then b.lnFirst else a.lnFirst,
    peak := if peakB then b.peak else a.peak, peakAt := if peakB then b.peakAt else a.peakAt,
    peakSign := if peakB then b.peakSign else a.peakSign,
    peakTag := if peakB then b.peakTag else a.peakTag, peakEntry := if peakB then b.peakEntry else a.peakEntry,
    edgeW := a.edgeW || b.edgeW, edgeE := a.edgeE || b.edgeE, cont := a.cont || b.cont, sat := a.sat || b.sat,
    flagged := a.flagged || b.flagged, crit := a.crit || b.crit }

/-- A defect of one cell. -/
def oneCell (r : RowAcc) (k cx : Nat) (o : OutCell) (cont : Bool) : Defect :=
  { edge := [(o.x, k)], lastRow := k, cells := 1, byClass := (List.range 16).map (fun c => boolBit (c == o.cls)),
    x0 := o.x, x1 := o.x, y0 := r.y, y1 := r.y, lnFirst := r.first, peak := o.m, peakAt := (r.y, o.x), peakSign := o.pos,
    peakTag := (o.region.map (fun g => g.tag)).getD 0xFFFF, peakEntry := o.region.map (fun g => g.index),
    edgeW := o.x == 0, edgeE := o.x + 1 == cx, cont := cont, sat := r.sat,
    flagged := r.unsettled || r.extrap || o.stale, crit := false }

/-- One out-of-tolerance cell of compared row `k` is clustered (R266 to R268). A defect that this row has opened is
marked CONT where any of its cells connects to a defect closed with SPLIT. -/
def State.clusterCell (s : State) (r : RowAcc) (k : Nat) (o : OutCell) : State :=
  let c := r.cfg
  let gap := c.get F.SOR_CLU_GAP
  let cont := s.sor.splitEdge.any (connects gap o.x k)
  let hit (d : Defect) : Bool := d.edge.any (connects gap o.x k)
  match s.sor.open_.filter hit with
  | d :: ds =>
    let one := oneCell r k c.cells o (cont && d.y0 == r.y)
    let joined := mergeDefects (ds.foldl mergeDefects d) one
    let open_ := s.sor.open_.filterMap (fun x => if x == d then some joined else if hit x then none else some x)
    { s with sor := { s.sor with open_ := open_ } }
  | [] =>
    if 1024 ≤ s.sor.open_.length then
      let s := if s.sor.cluOvf then s else s.log 0x0706 [(4, r.sn.toNat)]
      { s with sor := { s.sor with cluOvf := true, cluLost := s.sor.cluLost + 1 } }.setFlag F.SOR_STAT_CLU_OVF true
    else
      { s with sor := { s.sor with open_ := s.sor.open_ ++ [oneCell r k c.cells o cont] } }

/-- A defect reaches the MIN_CELLS of a critical class (R277). -/
def Cfg.critical (c : Cfg) (d : Defect) : Bool :=
  (List.range 16).any (fun k => c.get (F.SOR_CLASS_CTL_SEV k) == 3
    && decide (0 < d.byClass[k]?.getD 0) && decide (c.get (F.SOR_CLASS_CTL_MIN_CELLS k) ≤ d.byClass[k]?.getD 0))

/-- The critical decisions of a row (R277). -/
def State.decideCritical (s : State) (r : RowAcc) : State :=
  let new := s.sor.open_.filter (fun d => !d.crit && Cfg.critical r.cfg d)
  let s := { s with sor := { s.sor with
    open_ := s.sor.open_.map (fun d => { d with crit := d.crit || Cfg.critical r.cfg d }) } }
  new.foldl (fun (s : State) _ => s.assertAlarm 1 r.sn r.last) s

/-- The defects that close after compared row `k` (R267). -/
def State.closeAged (s : State) (r : RowAcc) (k : Nat) : State :=
  let c := r.cfg
  let gap := c.get F.SOR_CLU_GAP
  let aged (d : Defect) : Bool := decide (d.lastRow + gap + 1 ≤ k)
  let tall (d : Defect) : Bool := decide (c.get F.SOR_CLU_MAX_ROWS ≤ d.y1 + 1 - d.y0)
  let gone := s.sor.open_.filter (fun d => aged d || tall d)
  let trim (d : Defect) : Defect := { d with edge := d.edge.filter (fun e => decide (k ≤ e.2 + gap)) }
  let s := { s with sor := { s.sor with
    open_ := (s.sor.open_.filter (fun d => !(aged d || tall d))).map trim,
    splitEdge := (gone.filter tall).flatMap (fun d => d.edge) } }
  gone.foldl (fun (s : State) d => s.closeDefect c d r.sn r.last (tall d) false) s

/-! ### The compare (R252, R253) -/

/-- Cell `x` meets the stale range of its row. -/
def RowAcc.staleCell (r : RowAcc) (x : Nat) : Bool :=
  let lo := Cfg.cell0 r.cfg + Cfg.grid r.cfg * x
  match r.stale with
  | none => false
  | some (a, b) => decide (a ≤ lo + Cfg.grid r.cfg - 1) && decide (lo ≤ b)

/-- A SKIP band covers the row. -/
def State.skipped (s : State) (r : RowAcc) : Bool :=
  match s.bandAt r.sn r.y with
  | some b => b.btype == 3
  | none => false

/-- The row is compared (R253). -/
def State.isCompared (s : State) (r : RowAcc) : Bool :=
  decide (0 < r.used) && !r.noRef && !s.skipped r && !(Bank.get r.cfg F.SOR_CTL_EVAL_FLAGGED == 0 && r.unsettled)

/-- The slot values of each cell of a row (R259). -/
def RowAcc.slotCells (r : RowAcc) : List (List Nat) :=
  let slots := (List.range 4).map (fun k => if Cfg.slotSrc r.cfg k < 6 then r.cells k else [])
  (List.range (Cfg.cells r.cfg)).map (fun x => slots.map (fun v => v[x]?.getD 0))

/-- The transformed values of each cell of a row. -/
def RowAcc.transformed (r : RowAcc) : List (List Nat) :=
  r.slotCells.map (Cfg.transform r.cfg r.ctx)

/-- The out-of-tolerance cells of a row, in X order (R260, R262). -/
def State.outCells (s : State) (r : RowAcc) (t : List (List Nat)) : List OutCell :=
  let c := r.cfg
  let rs := s.rowRegions r.sn r.y
  let es := (s.expected c r.sn r.y).getD []
  (List.range c.cells).filterMap (fun x =>
    let stale := r.staleCell x
    let g := pickRegion rs x
    let k := (g.map (fun g => g.cls)).getD (c.get F.SOR_CTL_DEF_CLASS)
    let (m, sg, out) := c.judgeCell k (t[x]?.getD []) (es[x]?.getD [])
    if out && !(stale && c.get F.SOR_CTL_EVAL_FLAGGED == 0) then some ⟨x, m, decide (0 < sg), k, g, stale⟩ else none)

/-- A compared row (R253, R266 to R268, R277). -/
def State.compareRow (s : State) (r : RowAcc) (t : List (List Nat)) : State :=
  let k := s.sor.compared + 1
  let s := { s with sor := { s.sor with compared := k } }
  let s := (s.outCells r t).foldl (fun s o => s.clusterCell r k o) s
  (s.decideCritical r).closeAged r k

/-! ### Registration (R270 to R273) -/

/-- First rows of the instances of window `w` whose last row is `y` (R270). -/
def Cfg.windowEnds (c : Cfg) (w y : Nat) : Bool :=
  let y0 := c.get (F.SOR_REGW_POS_Y0 w)
  let rep := c.get (F.SOR_REGW_CTL_REPEAT w)
  c.get (F.SOR_REGW_CTL_EN w) == 1 && decide (y0 + 31 ≤ y)
    && (y - 31 == y0 || (decide (0 < rep) && (y - 31 - y0) % rep == 0))

/-- The cells of a window that count: (x, y, a) for the compared rows and regions with NOREG = 0 (R271). -/
def State.regCells (s : State) (c : Cfg) (sn : SegNo) (w p y : Nat) : List (Nat × Nat × Nat) :=
  let x0 := c.get (F.SOR_REGW_POS_X0 w)
  (s.sor.kept.filter (fun r => r.compared && decide (y ≤ r.y + 31) && decide (r.y ≤ y))).flatMap (fun r =>
    let rs := s.rowRegions sn r.y
    (List.range 32).filterMap (fun i =>
      let x := x0 + i
      if ((pickRegion rs x).map (fun g => g.noreg)).getD false then none
      else
        let t := ((r.t[x]?.getD [])[p]?).getD 0
        some (x, r.y, if bitAt (c.get F.SOR_REG_CTL_INV) p then 65535 - t else t)))

/-- S at one offset, where it is evaluated (R271); `es` gives the expected rows. -/
def regSum (es : Nat → Option (List (List Nat))) (cx ch : Nat) (cells : List (Nat × Nat × Nat)) (dx dy : Int) :
    Option Nat :=
  cells.foldl (fun (n : Option Nat) (q : Nat × Nat × Nat) =>
    let x := Int.ofNat q.1 - dx
    let y := Int.ofNat q.2.1 - dy
    if x < 0 ∨ y < 0 ∨ Int.ofNat cx ≤ x then none
    else
      match n, es y.toNat with
      | some n, some row =>
        let e := ((row[x.toNat]?.getD [])[ch]?).getD 0
        some (n + Int.natAbs (Int.ofNat q.2.2 - 256 * Int.ofNat e))
      | _, _ => none) (some 0)

/-- The offsets, in the order in which ties go: |dy|, |dx|, dy, dx rising (R271). -/
def regOffsets : List (Int × Int) :=
  let signed (n : Nat) : List Int := if n = 0 then [0] else [-Int.ofNat n, Int.ofNat n]
  (List.range 9).flatMap (fun ady => (List.range 9).flatMap (fun adx =>
    (signed ady).flatMap (fun dy => (signed adx).map (fun dx => (dx, dy)))))

/-- The quarter-cell refinement along one axis; none where a neighbour was not evaluated (R272). -/
def refine (sm sp : Option Nat) (s0 : Nat) : Option Int :=
  match sm, sp with
  | some a, some b =>
    let den : Int := Int.ofNat a + Int.ofNat b - 2 * Int.ofNat s0
    if den ≤ 0 then some 0
    else
      let num : Int := 4 * (Int.ofNat a - Int.ofNat b)
      some (clampInt (-2) 2 ((num + (if 0 ≤ num then den else -den)).tdiv (2 * den)))
  | _, _ => none

/-- What a measurement found. -/
structure RegResult where
  evaluated : Nat
  /-- S_min with its offset, and C. -/
  best : Option (Nat × Int × Int × Nat)
  dx : Int
  dy : Int
  edge : Bool
  deriving DecidableEq, Repr

/-- The search over the offsets (R271, R272). -/
def searchOffsets (sums : List ((Int × Int) × Nat)) : RegResult :=
  let at_ (dx dy : Int) : Option Nat := (sums.find? (fun x => x.1 == (dx, dy))).map (fun x => x.2)
  let best := sums.foldl (fun (b : Option ((Int × Int) × Nat)) x => match b with
    | none => some x
    | some y => if x.2 < y.2 then some x else b) none
  match best with
  | none => ⟨0, none, 0, 0, false⟩
  | some ((dx, dy), m) =>
    let qx := refine (at_ (dx - 1) dy) (at_ (dx + 1) dy) m
    let qy := refine (at_ dx (dy - 1)) (at_ dx (dy + 1)) m
    let con := sums.foldl (fun n x => n + x.2) 0 / sums.length - m
    ⟨sums.length, some (m, dx, dy, con), 4 * dx + qx.getD 0, 4 * dy + qy.getD 0, qx.isNone || qy.isNone⟩

/-- The smoothed offset of one axis (R273); 0x8000 is no valid state. -/
def smooth (shift old : Nat) (d : Int) : Nat :=
  if old = 0x8000 then codeOf 16 (64 * d)
  else
    let o := signedOf 16 old
    codeOf 16 (o + shiftDown (64 * d - o) shift)

/-- One measurement of window `w` and plane `p` after row `r` (R271 to R273, Table SOR-6). -/
def State.measure (s : State) (r : RowAcc) (w p : Nat) : State :=
  let c := r.cfg
  let sn := r.sn
  let cells := s.regCells c sn w p r.y
  let rows := s.sor.kept.filter (fun k => decide (r.y ≤ k.y + 31) && decide (k.y ≤ r.y))
  let ch := bitsAt (c.get F.SOR_REG_CTL_CH) (2 * p) 2
  let sums := regOffsets.filterMap (fun o =>
    (regSum (fun y => s.expected c sn y) c.cells ch cells o.1 o.2).map (fun n => (o, n)))
  let q := searchOffsets sums
  let all := rows.all (fun k => k.compared) && decide (32 ≤ rows.length)
  let con := match q.best with
    | some (_, _, _, con) => con
    | none => 0
  let enough := decide (1024 * c.get F.SOR_REG_CTL_MIN_CON ≤ con)
  let valid := all && decide (9 ≤ q.evaluated) && enough && q.best.isSome
  let fx := F.SOR_REG_SM_SX w p
  let fy := F.SOR_REG_SM_SY w p
  let shift := c.get F.SOR_REG_CTL_SHIFT
  let s := if valid then
      (s.setReg fx (smooth shift (s.reg fx) q.dx)).setReg fy (smooth shift (s.reg fy) q.dy)
    else s
  if c.get F.SOR_OUT_REG_EN = 1 then
    let (free, s) := s.drawFree 50
    let (smin, conField, edge, low) := match q.best with
      | some (m, _, _, con) => (min m 0xFFFFFFFF, min (con / 1024) 65535, q.edge, !enough)
      | none => (free % 2 ^ 32, free / 2 ^ 32 % 2 ^ 16, bitAt free 48, bitAt free 49)
    let noRef := rows.any (fun k => k.noRef)
    let part := rows.any (fun k => !k.compared && !k.noRef) || decide (q.evaluated < 9) || decide (rows.length < 32)
    let bytes := leBytes 2 0x0720 ++
      leBytes 1 (w + 16 * p + 64 * boolBit valid + 128 * boolBit edge) ++
      leBytes 1 (boolBit low + 2 * boolBit noRef + 4 * boolBit part) ++ leBytes 4 sn.toNat ++
      leBytes 6 r.last.toNat ++ leBytes 2 conField ++ leBytes 2 (if valid then codeOf 16 q.dx else 0) ++
      leBytes 2 (if valid then codeOf 16 q.dy else 0) ++ leBytes 2 (s.reg fx) ++ leBytes 2 (s.reg fy) ++
      leBytes 4 smin ++ leBytes 1 s.posNow ++ leBytes 1 0 ++ leBytes 2 s.sor.regSeq
    let (ok, s) := s.stage17 c bytes r.last sn
    if ok then { s with sor := { s.sor with regSeq := (s.sor.regSeq + 1) % 65536 } } else s
  else s

/-- The measurements that end with a row. -/
def State.measureRow (s : State) (r : RowAcc) : State :=
  let c := r.cfg
  (List.range 16).foldl (fun s w =>
    if c.windowEnds w r.y then
      (List.range 4).foldl (fun (s : State) p =>
        if bitAt (c.get (F.SOR_REGW_CTL_PLANES w)) p then s.measure r w p else s) s
    else s) s

/-! ### Rows and segments -/

/-- The Sorrel close record (Table SOR-7). -/
def State.sorClose (s : State) (sn : SegNo) (last : LineNo) (trunc : Bool) : List Byte :=
  let x := s.sor
  let (_, _, _, gen) := s.bankFor sn
  leBytes 2 0x0730 ++
    leBytes 1 (boolBit (x.truncSeg || trunc) + 2 * boolBit x.floodSeg + 4 * boolBit (decide (0 < x.norefRows))
      + 8 * boolBit x.cluOvf + 16 * boolBit (x.missedSn.contains sn)) ++
    leBytes 1 gen ++ leBytes 4 sn.toNat ++ leBytes 6 last.toNat ++ leBytes 2 0 ++ leBytes 4 x.decided ++
    leBytes 4 x.written ++ leBytes 2 (min 65535 x.norefRows) ++ leBytes 2 (min 65535 x.small) ++ leBytes 1 s.posNow ++
    leBytes 1 0 ++ leBytes 2 (min 65535 x.lost)

/-- The close record enters stream 17 from its reserve, or into what a link loss makes of it (R275, R311, R348). -/
def State.stageClose17 (s : State) (sn : SegNo) (last : LineNo) (lost : Bool) : State :=
  let x := s.stream 17
  let bytes := s.sorClose sn last lost
  if x.off sn then s
  else if s.owes 17 sn then
    let d := Dropped.ended x.dropped sn last last x.written bytes
    let s := s.setStream 17 { x with written := 0, dropping := none, linkDrop := some d }
    if s.dma.lost then s else s.payLinkDrop 17 d
  else
    let s := s.payBefore 17
    (s.setStream 17 { s.stream 17 with written := 0, dropping := none }).forceStage 17
      ⟨bytes, last, last, sn, 3, s.sor.written, 0⟩

/-- The end of a segment in Sorrel (R265, R267, R274, R276, Table SOR-2). -/
def State.sorSegClose (s : State) (sn : SegNo) (last : LineNo) (c : Cfg) (lost : Bool) (next : Option Cfg) : State :=
  let gone := s.sor.open_
  let s := { s with sor := { s.sor with open_ := [] } }
  let s := gone.foldl (fun (s : State) d => s.closeDefect c d sn last false true) s
  let s := if s.sor.norefRows = 0 then s else s.logClose 0x0704 sn [(4, sn.toNat), (4, s.sor.norefRows)]
  let s := s.stageClose17 sn last lost
  let rows := match s.sor.seg with
    | some (q, n) => if q = sn then n else 0
    | none => 0
  let beyond := (s.sor.bands.filter (fun b => !snLater b.sn sn && (b.sn != sn || decide (rows ≤ b.y0)))).length
  let s := match next with
    | some d => s.regOpens d false
    | none => s
  let s := s.addReg F.SOR_REF_DISCARD_V beyond
  let x := s.sor
  { s with sor := { x with
    bands := x.bands.filter (fun b => snLater b.sn sn), closed := some (sn, rows), seg := none, compared := 0,
    oldBanks := x.oldBanks.filter (fun b => snLater b.1 (sn + 1)),
    cluLost := 0, perEntry := [], tokens := 1024, decided := 0,
    written := 0, norefRows := 0, small := 0, lost := 0, cluOvf := false,
    floodSeg := false, truncSeg := false, splitEdge := [], kept := [],
    missedSn := x.missedSn.filter (fun q => q != sn) } }.setFlag F.SOR_STAT_FLOOD false

/-- A cell row is taken (R252, R253, R258). -/
def State.sorRow (s : State) (r : RowAcc) : State :=
  let first := match s.sor.seg with
    | some (q, _) => q != r.sn
    | none => true
  let s := if first then s.regOpens r.cfg r.fresh else s
  let s := { s with sor := { s.sor with seg := some (r.sn, r.y + 1) } }
  let s := if r.noRef then
      { s with sor := { s.sor with norefRows := s.sor.norefRows + 1 } }.addReg F.SOR_NOREF_ROWS_V 1
    else s
  let cmp := s.isCompared r
  let t := if cmp then r.transformed else []
  let row : RegRowKept := ⟨r.y, cmp, r.noRef, r.last, t⟩
  let s := { s with sor := { s.sor with kept := lastN 32 (s.sor.kept ++ [row]) } }
  let s := if cmp then s.compareRow r t else s
  (s.measureRow r).releaseBands r.sn r.y

/-- Segments that end at the front of the rows close. -/
def State.sorCloses : List SorIn → State → State
  | SorIn.close sn last c lost next :: r, s => State.sorCloses r (s.sorSegClose sn last c lost next)
  | SorIn.opens c fresh :: r, s => State.sorCloses r (s.regOpens c fresh)
  | SorIn.skips sn :: r, s => State.sorCloses r (s.sorSkip sn)
  | rest, s => { s with sor := { s.sor with rows := rest } }

/-- CELL_ROW (R252): the ends of segments at the front, the next cell row, and the ends behind it; in the thermal hold
none is compared (R431, R432). -/
def State.cellRow (s : State) : State :=
  if s.flag F.HKP_THERM_HOLD then s else
  let s := State.sorCloses s.sor.rows s
  match s.sor.rows with
  | SorIn.row r :: rest =>
    let s := { s with sor := { s.sor with rows := rest } }.sorRow r
    State.sorCloses s.sor.rows s
  | _ => s

/-! ### The release of ALARM_N (R279) -/

/-- ALARM_N is released. -/
def State.releaseAlarm (s : State) : State :=
  { s with sor := { s.sor with alarmLow := false } }.setFlag F.SOR_ALARM_ACTIVE false

/-- ALARM_WIDTH_END (R279): in pulse mode the width has passed; in the thermal hold ALARM_N holds its state (R432). -/
def State.alarmWidthEnd (s : State) : State :=
  if s.reg F.SOR_ALARM_MODE = 0 ∧ s.flag F.HKP_THERM_HOLD = false then s.releaseAlarm else s

def execAlarmWidthEnd (s : State) : Res := .next s.alarmWidthEnd

/-- ALARM_CLR (R279): a latched ALARM_N is released. -/
def State.clearAlarm (s : State) : State := if s.reg F.SOR_ALARM_MODE = 1 then s.releaseAlarm else s

def execAlarmClr (s : State) : Res := .next (s.hostAction 0xA0040 State.clearAlarm)

end Sys2Proof.Machine
end

