-- ==== Sys2Proof/Machine/Dma.lean ====
section
/-! DEFINITION. The DMA rings, the event stream, the PCIe link and PTM (10_host_interface_and_dma.md). -/

namespace Sys2Proof.Machine

/-! ### Event records (R344) -/

/-- The ARG bytes of a record before they are cut to 14. -/
def EventRec.argBytes (r : EventRec) : List Byte := r.args.flatMap (fun a => leBytes a.1 a.2)

/-- The 32 bytes of a common event record (Table DMA-7). -/
def EventRec.bytes (r : EventRec) : List Byte :=
  let a := r.argBytes
  leBytes 2 r.code ++ leBytes 1 (boolBit (decide (14 < a.length))) ++ leBytes 1 r.pos ++ leBytes 4 r.sn.toNat ++
    leBytes 8 r.pt.toNat ++ (a ++ List.replicate 14 0).take 14 ++ leBytes 2 r.seq

/-- The bytes of a record of the event FIFO (R345). -/
def FifoRec.bytes : FifoRec → List Byte
  | .common r => r.bytes
  | .level b => b

/-- What the record stands for in stream 18; EVT_SEGCLOSE is its segment-close (R337, R346). -/
def FifoRec.mark : FifoRec → RecMark
  | .common r => ⟨0, 0, r.sn, if r.code = 0x0930 then 3 else 1, 1, []⟩
  | .level _ => ⟨0, 0, 0, 1, 1, []⟩

/-- What a staged record stands for. -/
def Staged.mark (q : Staged) : RecMark :=
  ⟨q.lnFirst, q.lnLast, q.sn, q.kind, q.count, if q.kind = 3 then q.bytes else []⟩

/-! ### Configuration space (R323) -/

/-- What the device's configuration space identifies it by: vendor, device, subsystem vendor and subsystem IDs, revision
and class code (Table DMA-1). -/
def pcieId : List Nat := [0x1F6C, 0x2416, 0x1F6C, 0x0001, Config.dieStep.toNat, 0x118000]

/-- What the host has set in configuration space, from its code in LINK_SPEED. -/
def Pcie.ofCode (ctl : Nat) : Pcie :=
  { relaxed := bitAt ctl 0, payload := 128 * 2 ^ min 2 (bitsAt ctl 1 2), readReq := 128 * 2 ^ min 5 (bitsAt ctl 6 3), ptm := bitAt ctl 3, msixEnable := bitAt ctl 4,
    msixMask := bitAt ctl 5, report := bitAt ctl 9 }

/-! ### Rings (R330 to R335) -/

/-- Ring `r`. -/
def State.ring (s : State) (r : Nat) : Ring := s.dma.rings[r]?.getD Ring.reset

/-- Ring `r` replaced. -/
def State.setRing (s : State) (r : Nat) (x : Ring) : State :=
  { s with dma := { s.dma with rings := s.dma.rings.set r x } }

/-- Descriptors of a ring. -/
def Ring.size (x : Ring) : Nat := 2 ^ x.log2

/-- The host's window begins here (R329). -/
def State.winBase (s : State) : Nat := 4096 * s.reg F.DMA_WIN_BASE_BASE

/-- DMA runs: enabled, with the link up and Bus Master Enable set (R325, R348). -/
def State.dmaRuns (s : State) : Bool := s.flag F.DMA_CTL_EN && s.flag F.DMA_STAT_LINKED && !s.dma.lost

/-- The stream that a configuration binds to ring `r` (Table DMA-4, R330). -/
def Cfg.ringStream (c : Cfg) (r : Nat) : Option Nat :=
  match (List.range 16).find? (fun k => c.get (F.PIP_ROI_CTL_EN k) == 1 && c.get (F.PIP_ROI_CTL_RING k) == r) with
  | some k => some k
  | none =>
    if c.get F.PIP_INSP_HOST_EN = 1 ∧ c.get F.PIP_INSP_HOST_RING = r then some 16
    else if c.get F.SOR_CTL_EN = 1 ∧ c.get F.SOR_OUT_RING = r then some 17
    else if c.get F.SOR_CTL_EN = 1 ∧ c.get F.SOR_REF_RING = r then some 19
    else if c.get F.DMA_EVT_EN = 1 ∧ c.get F.DMA_EVT_RING = r then some 18
    else none

/-- BAR2 offset of descriptor `i` (R331, R332). -/
def Ring.slot (x : Ring) (i : Nat) : Nat := x.base + 32 * (i % x.size)

/-- Descriptors posted and not taken. -/
def State.posted (s : State) (r : Nat) : Nat :=
  let x := s.ring r
  (s.reg (F.DMA_RING_PI_PI r) % (2 * x.size) + 2 * x.size - x.take) % (2 * x.size)

/-- What the descriptor at index `i` holds (Table DMA-5). -/
def State.readDesc (s : State) (r i : Nat) : Bool × Desc :=
  let x := s.ring r
  let b := readBytes s.mem (x.slot i) 32
  let own := bitAt (leAt b 8 2) 0
  let d : Desc :=
    { idx := i, slot := x.slot i, len := x.buf, addr := leAt b 0 8, irq := bitAt (leAt b 8 2) 1, used := if x.down then leAt b 12 4 else 0,
      firstRec := if x.down then leAt b 16 4 else 0xFFFFFFFF, split := false, segclose := false, partial_ := false,
      cont := none, begins := [], ends := [], bad := [], evts := 0, status := 0, phase := 0 }
  (own, d)

/-- A descriptor that names no usable buffer (Table DMA-6, BAD_DESC). -/
def Ring.badDesc (x : Ring) (d : Desc) : Bool :=
  d.addr % 4096 != 0 || decide (2 ^ 42 < d.addr + x.buf) || (x.down && decide (x.buf < d.used))

/-! ### Completion (R338, R341, R342, R345, R346) -/

/-- The LN of a record: of its header, or its LN field (Table DMA-5). -/
def RecMark.ln (m : RecMark) : LineNo := if m.kind = 2 then m.first else m.last

/-- LN_FIRST and LN_LAST of a descriptor of stream `k` (Table DMA-5, R348, R349). -/
def Desc.lns (d : Desc) (k : Option Nat) : LineNo × LineNo :=
  let marks := if d.status = 2 then d.bad
    else if d.begins = [] ∧ (d.status = 1 ∨ d.status = 4) then d.cont.toList else d.begins
  if k == some 18 || k == some 19 then (0, 0)
  else
    marks.foldl (fun (x : Option (LineNo × LineNo)) m => match x with
      | none => some (m.ln, m.ln)
      | some (lo, hi) => some (if signedDiff m.ln lo < 0 then m.ln else lo, if 0 < signedDiff m.ln hi then m.ln else hi))
      none |>.getD (0, 0)

/-- Bytes 8 to 31 of a completed descriptor (Tables DMA-5 and DMA-6). -/
def Desc.bytes (d : Desc) (k : Option Nat) : List Byte :=
  let (lo, hi) := d.lns k
  leBytes 2 (2 * boolBit d.irq) ++
    leBytes 2 (d.status + 256 * boolBit d.cont.isSome + 512 * boolBit d.split + 1024 * boolBit d.segclose
      + 2048 * boolBit d.partial_) ++
    leBytes 4 (if d.status = 6 then 0 else d.used) ++ leBytes 4 d.firstRec ++ leBytes 6 lo.toNat ++ leBytes 6 hi.toNat

/-- A record of stream `k` has been delivered: the ends of segments that it accounts for (R346). -/
def State.delivered (s : State) (k : Nat) (m : RecMark) : State :=
  let upd (x : SegClose) : SegClose :=
    if !bitAt x.waiting k then x
    else if m.kind = 3 ∧ x.sn = m.sn then { x with waiting := withBit x.waiting k false }
    else if (m.kind = 3 ∧ snLater m.sn x.sn) ∨ (m.kind = 2 ∧ snLater m.sn x.sn ∧ signedDiff x.last m.last ≤ 0) then
      { x with waiting := withBit x.waiting k false, gaps := withBit x.gaps k true }
    else x
  { s with dma := { s.dma with closes := s.dma.closes.map upd } }

/-- The event records of a confirmed descriptor leave the FIFO; those of one returned POISONED stay, and are written
again ahead of those not yet written (R345). -/
def State.eventsOut (s : State) (d : Desc) : State :=
  let sent := s.dma.evtSent - d.evts
  if d.evts = 0 then s
  else if d.status = 2 then
    let rest := s.fifo.drop d.evts
    { s with fifo := rest.take sent ++ s.fifo.take d.evts ++ rest.drop sent, dma := { s.dma with evtSent := sent } }
  else { s with fifo := s.fifo.drop d.evts, dma := { s.dma with evtSent := sent } }.fifoFreed

/-- One descriptor of ring `r` completes: its bytes in the ring area, CI, the counters, the event FIFO (R338, R345); one
that holds poisoned data is logged (R349). -/
def State.completeDesc (s : State) (r : Nat) (d : Desc) : State :=
  let x := s.ring r
  let s := { s with mem := writeBytes s.mem (d.slot + 8) (d.bytes x.stream) }
  let s := s.setRing r { x with done := (x.done + 1) % 2 ^ 32, unsent := x.unsent + 1 }
  let s := s.setReg (F.DMA_RING_CI_CI r) ((d.idx + 1) % (2 * x.size))
  let s := if d.status = 6 then s else s.addReg (F.DMA_RING_BYTES_V r) d.used
  let s := s.setReg (F.DMA_RING_STAT_LAST_STATUS r) d.status
  let s := if d.status = 0 then s
    else (s.setFlag (F.DMA_RING_STAT_ERR r) true).addReg (F.DMA_RING_STAT_ERR_DESCS r) 1
  let s := if d.status = 2 ∧ !x.down then
      s.log 0x090A [(1, r), (6, (d.lns x.stream).1.toNat), (6, (d.lns x.stream).2.toNat)]
    else s
  if d.status = 1 ∨ d.status = 4 then s
  else
    match x.stream with
    | some k =>
      let s := if k = 18 then s.eventsOut d else s
      if k < 18 then d.ends.foldl (fun (s : State) m => s.delivered k m) s else s
    | none => s

/-- The write-back word after a completion (R341). -/
def State.writeBack (s : State) (r : Nat) : State :=
  let x := s.ring r
  match x.wb with
  | some off =>
    if s.flag F.DMA_STAT_LINKED then
      s.emit (.hostWrite (s.winBase + off) (leBytes 8 (s.reg (F.DMA_RING_CI_CI r) + 2 ^ 32 * x.done)) false false)
    else s
  | none => s

/-- The ring's message is sent (R342). -/
def State.ringMessage (s : State) (r : Nat) : State :=
  (s.setRing r { s.ring r with unsent := 0 }).sendMsix (s.reg (F.DMA_RING_CTL_VEC r))

/-- The interrupt that a completion calls for (R342). -/
def State.signal (s : State) (r : Nat) (irq : Bool) : State :=
  if s.flag (F.DMA_RING_CTL_IRQ_EN r) && s.flag F.DMA_STAT_LINKED
      && (irq || decide (s.reg (F.DMA_RING_MOD_COUNT r) ≤ (s.ring r).unsent)) then
    s.ringMessage r
  else s

/-- The descriptors at the front of ring `r` that may complete do so, in ring order (R338, R347). -/
def State.retire (s : State) (r : Nat) : State :=
  let x := s.ring r
  let ready := x.held.takeWhile (fun d => d.phase == 3)
  if ready = [] then s
  else
    let s := s.setRing r { x with held := x.held.drop ready.length }
    let s := ready.foldl (fun (s : State) d => s.completeDesc r d) s
    (s.writeBack r).signal r (ready.any (fun d => d.irq))

/-- A flush read is issued for the buffers whose data writes are issued (R338). -/
def State.issueFlush (s : State) (r : Nat) : State :=
  let x := s.ring r
  if x.held.any (fun d => d.phase == 2) then s
  else
    match (x.held.filter (fun d => d.phase == 1)).getLast? with
    | none => s
    | some d =>
      let held := x.held.map (fun (e : Desc) => if e.phase = 1 then { e with phase := 2 } else e)
      (s.setRing r { x with held := held, retried := false }).emit (.hostRead (s.winBase + d.addr) 4)

/-- The last descriptor of ring `r` changed. -/
def State.setLast (s : State) (r : Nat) (d : Desc) : State :=
  let x := s.ring r
  s.setRing r { x with held := x.held.dropLast ++ [d] }

/-- The buffer that is being filled. -/
def State.filling (s : State) (r : Nat) : Option Desc :=
  match (s.ring r).held.getLast? with
  | some d => if d.phase = 0 then some d else none
  | none => none

/-- The buffer that is being filled completes (R337). -/
def State.closeBuffer (s : State) (r : Nat) (d : Desc) (part : Bool) : State :=
  (s.setLast r { d with phase := 1, partial_ := part }).issueFlush r

/-! ### Taking descriptors (R335) -/

/-- DESC_ERR (Table DMA-12). -/
def State.descErr (s : State) (r i reason : Nat) : State := s.log 0x0909 [(1, r), (2, i), (1, reason)]

/-- Read requests for `n` bytes from address `a`: none longer than the max read request size `mrrs`, and none across a
boundary of it, and so none of 4 KiB (R323, R340, notes/assumptions/63.md). -/
def splitReads (mrrs : Nat) : Nat → Nat → Nat → List Emission
  | 0, _, _ => []
  | k + 1, a, n =>
    if n = 0 then []
    else
      let m := min n (mrrs - a % mrrs)
      .hostRead a m :: splitReads mrrs k (a + m) (n - m)

/-- The reads of a buffer that are outstanding at once: 256 are, with a flush read of each ring (R323,
notes/assumptions/63.md). -/
def maxReads : Nat := 240

/-- The buffer of a descriptor of the host-to-device ring is read; the requests beyond those that may be outstanding
wait (R323, R340). -/
def State.readBuffer (s : State) (d : Desc) : State :=
  let m := s.dma.pcie.readReq
  let reads := splitReads m (d.used / m + 2) (s.winBase + d.addr) d.used
  { s with outbox := s.outbox ++ reads.take maxReads, dma := { s.dma with readsDue := reads.drop maxReads } }

/-- Reads have completed, and the requests that waited are issued (R323). -/
def State.issueReads (s : State) : State :=
  { s with outbox := s.outbox ++ s.dma.readsDue, dma := { s.dma with readsDue := [] } }

/-- The next descriptor is taken, of a host-to-device ring only where it is the reference ring, and none while the
backlog is full. One that names no usable
buffer is completed with BAD_DESC, one of the host-to-device ring without data at once, and the one after it is looked
at, at most `n` in all; the buffer of any other one of that ring is read (R256, R335, R340). -/
def State.takeDesc (r : Nat) : Nat → State → State
  | 0, s => s
  | n + 1, s =>
    let x := s.ring r
    if s.posted r = 0 ∨ x.notOwned.any (fun o => !o.2) ∨ (x.down && (s.backlogFull || x.stream != some 19)) then s
    else
      let (own, d) := s.readDesc r x.take
      if !own then
        let s := s.setRing r { x with notOwned := some (x.take, false) }
        if x.notOwned.any (fun o => o.1 == x.take) then s
        else (s.setFlag (F.DMA_RING_STAT_NOT_OWNED r) true).log 0x0908 [(1, r), (2, x.take)]
      else
        let y := { x with take := (x.take + 1) % (2 * x.size), notOwned := none }
        let s := s.setFlag (F.DMA_RING_STAT_STARVED r) false
        if x.badDesc d then
          let s := s.setRing r { y with held := y.held ++ [{ d with status := 6, phase := 3 }] }
          let s := s.descErr r d.idx 1
          let s := if x.down then s.refAbort else s
          State.takeDesc r n (s.retire r)
        else if x.down && d.used == 0 then
          State.takeDesc r n ((s.setRing r { y with held := y.held ++ [{ d with phase := 3 }] }).retire r)
        else
          let s := s.setRing r { y with held := y.held ++ [d] }
          if x.down then s.readBuffer d else s

/-- A buffer to fill or to read: the one in hand, or the next descriptor (R256, R335). -/
def State.needBuffer (s : State) (r : Nat) : State :=
  match s.filling r with
  | some _ => s
  | none => State.takeDesc r (s.posted r) s

/-! ### Writing records (R329, R336, R337, R351) -/

/-- Data writes of at most `mps` bytes that cross no boundary of it, and so none of 4 KiB; a write that carries one of
the bytes at `bad` has its EP bit set (R329, R349, notes/assumptions/7.md). -/
def splitWrites (ro : Bool) (mps : Nat) : Nat → Nat → List Byte → List Nat → List Emission
  | 0, _, _, _ => []
  | n + 1, a, bs, bad =>
    if bs = [] then []
    else
      let k := mps - a % mps
      .hostWrite a (bs.take k) ro (bad.any (fun i => decide (i < min k bs.length))) ::
        splitWrites ro mps n (a + k) (bs.drop k) ((bad.filter (fun i => decide (k ≤ i))).map (fun i => i - k))

/-- Bytes written into the buffer in hand, those at `bad` poisoned (R329, R349). -/
def State.dataWrite (s : State) (d : Desc) (bs : List Byte) (bad : List Nat) : State :=
  let ro := s.flag F.DMA_CTL_RO_EN && s.dma.pcie.relaxed
  let mps := s.dma.pcie.payload
  { s with outbox := s.outbox ++ splitWrites ro mps (bs.length / mps + 2) (s.winBase + d.addr + d.used) bs bad }

/-- The bytes of one record that are still to be written go into buffers of ring `r`, at most `n` of them; what has
found no buffer comes back. Those at `bad` show an uncorrectable error (R336, R337, R349). -/
def State.writeRecord (r : Nat) (m : RecMark) (evt : Bool) : Nat → Bool → List Byte → List Nat → State →
    State × List Byte
  | 0, _, rest, _, s => (s, rest)
  | n + 1, started, rest, bad, s =>
    let s := s.needBuffer r
    match s.filling r with
    | none => (s, rest)
    | some d =>
      let k := min (d.len - d.used) rest.length
      let s := s.dataWrite d (rest.take k) (bad.filter (fun i => decide (i < k)))
      let ends := k == rest.length
      let e := { d with
        used := d.used + k,
        firstRec := if started || d.firstRec != 0xFFFFFFFF then d.firstRec else d.used,
        cont := if started && d.used == 0 then some m else d.cont,
        begins := if started then d.begins else d.begins ++ [m],
        ends := if ends then d.ends ++ [m] else d.ends,
        bad := if bad.any (fun i => decide (i < k)) then d.bad ++ [m] else d.bad,
        segclose := d.segclose || (ends && m.kind == 3), split := !ends,
        evts := if ends && evt then d.evts + 1 else d.evts }
      let s := s.setLast r e
      if ends then
        if e.used = d.len then (s.closeBuffer r e false, [])
        else if m.kind = 3 then (s.closeBuffer r e true, [])
        else (s, [])
      else State.writeRecord r m evt n true (rest.drop k)
        ((bad.filter (fun i => decide (k ≤ i))).map (fun i => i - k)) (s.closeBuffer r e false)

/-- Buffers that a run of bytes can need. -/
def buffersFor (n : Nat) : Nat := n / 4096 + 2

/-- The bytes in error of record `i` of a command, from byte `done` of it on; the header of a record of the streams 0 to
16, its first 64 bytes, is held apart and shows none (R349). -/
def badBytes (bad : List (Nat × Nat)) (i header done : Nat) : List Nat :=
  (bad.filter (fun x => x.1 == i && decide (header ≤ x.2) && decide (done ≤ x.2))).map (fun x => x.2 - done)

/-- The staged records of a stream are written, as far as buffers are there; the rest comes back. The first has number
`i` in the command. -/
def State.writeStaged (r : Nat) (bad : List (Nat × Nat)) (header : Nat) : Nat → List Staged → State → State × List Staged
  | _, [], s => (s, [])
  | i, q :: more, s =>
    let (s, rest) := State.writeRecord r q.mark false (buffersFor q.bytes.length)
      (q.done != 0) (q.bytes.drop q.done) (badBytes bad i header q.done) s
    if rest = [] then State.writeStaged r bad header (i + 1) more s
    else (s, { q with done := q.bytes.length - rest.length } :: more)

/-- The records of the event FIFO are written; the rest comes back. The first has number `i` in the command. -/
def State.writeEvents (r : Nat) (bad : List (Nat × Nat)) : Nat → List FifoRec → State → State × List FifoRec
  | _, [], s => (s, [])
  | i, q :: more, s =>
    let (s, rest) := State.writeRecord r q.mark true 2 false q.bytes (badBytes bad i 0 0) s
    if rest = [] then
      State.writeEvents r bad (i + 1) more { s with dma := { s.dma with evtSent := s.dma.evtSent + 1 } }
    else (s, q :: more)

/-- A ring with records waiting and no descriptor is starved (R351). -/
def State.starve (s : State) (r : Nat) : State :=
  if s.flag (F.DMA_RING_STAT_STARVED r) then s
  else (s.setFlag (F.DMA_RING_STAT_STARVED r) true).log 0x0907 [(1, r), (8, s.pt.toNat)]

/-- Ring `x` is to go out of use, or to serve another stream, after a segment (R333). -/
def Ring.leaves (x : Ring) : Option SegNo :=
  match x.next with
  | .ends sn :: _ => some sn
  | .rebinds sn _ _ :: _ => some sn
  | _ => none

/-- The stream that ring `x` serves once all that is in store for it has happened; none where it is then out of use
(R333). -/
def Ring.planned (x : Ring) : Option (Option Nat) :=
  x.next.foldl (fun _ n => match n with
    | .ends _ => none
    | .starts k _ => some k
    | .rebinds _ k _ => some k) (if x.active then some x.stream else none)

/-- Ring `x` is to go out of use (R333). -/
def Ring.goesOut (x : Ring) : Bool := x.next.any (fun n => match n with
  | .ends _ => true
  | .starts _ _ => false
  | .rebinds _ _ _ => false)

/-- The device reads ring `x` as the reference ring (R256). -/
def Ring.isRef (x : Ring) : Bool := x.active && x.down && x.stream == some 19

/-- The records of segment `sn` are among those that ring `x` carries for its stream: from its first segment on, up to
the last one before it goes (R333). -/
def Ring.serves (x : Ring) (sn : SegNo) : Bool :=
  !x.since.any (fun b => snLater b sn) && !x.leaves.any (fun e => snLater sn e)

/-- A ring other than `r` that is in use for stream `k`: the one that a commit replaces, or the one that takes its place
(R333). -/
def State.otherRing (s : State) (r k : Nat) : Option Ring :=
  ((List.range 16).filter (fun q => q != r && (s.ring q).active && (s.ring q).stream == some k
    && !s.flag (F.DMA_RING_CTL_STOPPED q))).head?.map s.ring

/-- Ring `r` serves a device-to-host stream and may write; events go to the ring that a commit replaces first. -/
def State.mayWrite (s : State) (r : Nat) : Bool :=
  s.dmaRuns && (s.ring r).active && !s.flag (F.DMA_RING_CTL_STOPPED r) && !(s.ring r).down
    && !((s.ring r).stream == some 18 && (s.dma.drain || (s.otherRing r 18).any (fun x => x.leaves.isSome)))

/-! ### The end of a segment in every block (R346, R491) -/

/-- Every block has handled segment `sn` and logged its close events. -/
def State.segHandled (s : State) (sn : SegNo) : Bool :=
  s.cnv.seg != some sn && s.lfl.seg != some sn && s.cal.seg != some sn
    && !(s.pip.seg.any (fun x => x.1 == sn)) && !(s.sor.seg.any (fun x => x.1 == sn))
    && s.unaligned.all (fun i => i.sn != sn) && s.pip.waiting.all (fun a => a.info.sn != sn)
    && s.sor.rows.all (fun x => match x with
      | SorIn.row q => q.sn != sn
      | SorIn.close q _ _ _ _ => q != sn
      | SorIn.opens _ _ => true
      | SorIn.skips _ => true)

/-! ### Coming into use and out of it (R333, R350) -/

/-- The fields of ring `r` in force: where it lies, its size, its buffers, its write-back and its direction (R331,
R341). -/
def State.ringFields (s : State) (r : Nat) (x : Ring) : Ring :=
  { x with
    base := 4096 * s.reg (F.DMA_RING_BASE_BASE r), log2 := s.reg (F.DMA_RING_CTL_LOG2SIZE r),
    buf := 4096 * s.reg (F.DMA_RING_CTL_BUF_4K r),
    wb := if s.flag (F.DMA_RING_CTL_WB_EN r) then some (8 * s.reg (F.DMA_RING_WB_WB r)) else none,
    down := s.flag (F.DMA_RING_CTL_DIR r) }

/-- A stream whose first segment is `sn`, if given: what it has staged of earlier ones is not delivered (R333). -/
def Stream.startsAt (x : Stream) (sn : Option SegNo) : Stream :=
  let early (q : SegNo) : Bool := sn.any (fun b => snLater b q)
  { x with
    recs := x.recs.filter (fun q => !early q.sn), dropping := x.dropping.filter (fun d => !early d.sn),
    dead := false, from_ := sn }

/-- Stream `k` is to start on a ring with segment `sn`, where no ring in use but `r` serves it. Where another one still
carries the segments before it, they stay in the staging for that ring (R333). -/
def State.streamStarts (s : State) (r : Nat) (k : Option Nat) (sn : Option SegNo) : State :=
  match k with
  | some k => if k < 18 && (s.otherRing r k).isNone then s.setStream k ((s.stream k).startsAt sn) else s
  | none => s

/-- Ring `r` comes into use for stream `k` with the fields in force, and with `next` in store; segment `sn` is the first
of its stream (R333). -/
def State.startRing (s : State) (r : Nat) (k : Option Nat) (sn : Option SegNo) (next : List RingStep) : State :=
  let s := s.setRing r (s.ringFields r { Ring.reset with active := true, stream := k, since := sn, next := next })
  let s := ((s.setReg (F.DMA_RING_PI_PI r) 0).setReg (F.DMA_RING_CI_CI r) 0).setFlag (F.DMA_RING_CTL_STOPPED r) false
  (s.setFlag (F.DMA_RING_STAT_STARVED r) false).streamStarts r k sn

/-- The descriptors posted and owned are returned ABORTED, at most `n` (R333, R350). -/
def State.abortPosted (r : Nat) : Nat → State → State
  | 0, s => s
  | n + 1, s =>
    let x := s.ring r
    if s.posted r = 0 then s
    else
      let (own, d) := s.readDesc r x.take
      if own then
        State.abortPosted r n (s.setRing r { x with
          take := (x.take + 1) % (2 * x.size), held := x.held ++ [{ d with used := 0, status := 4, phase := 3 }] })
      else s

/-- The stream of a ring has ended with segment `sn` (R333). -/
def State.streamOver (s : State) (r : Nat) (sn : SegNo) : Bool :=
  match (s.ring r).stream with
  | none => true
  | some k =>
    if k = 19 then true
    else if k = 18 then
      s.dma.closes.all (fun x => snLater x.sn sn) && decide (s.fifo.length ≤ s.dma.evtSent)
    else (s.stream k).recs.all (fun q => snLater q.sn sn) && s.segHandled sn

/-- A buffer of the reference ring that has been read, with bytes that the backlog has no room for, is given up
(R333). -/
def State.refEnds (s : State) (r : Nat) : State :=
  let x := s.ring r
  if x.held.any (fun d => d.phase == 5) then
    { s with sor := { s.sor with seeking := true }, dma := { s.dma with spill := [] } }.setRing r { x with
      held := x.held.map (fun (d : Desc) => if d.phase = 5 then { d with phase := 3, partial_ := true } else d) }
  else s

/-- The stream of ring `r` has ended: the buffer in hand is completed or goes back (R333). -/
def State.endFilling (s : State) (r : Nat) : State :=
  let x := s.ring r
  let s := match s.filling r with
    | some d => if d.used = 0 || x.down then s.setLast r { d with status := 4, phase := 3 } else s.closeBuffer r d true
    | none => s.refEnds r
  if x.isRef then s.refOver else s

/-- Ring `r`, whose stream has ended, goes out of use: it returns what it holds, and comes into use again where that is
what is in store for it (R333). -/
def State.endRing (s : State) (r : Nat) : State :=
  let s := s.endFilling r
  let s := (State.abortPosted r (s.posted r) s).retire r
  if (s.ring r).held ≠ [] then s
  else
    match (s.ring r).next with
    | .ends _ :: .starts k sn :: rest => s.startRing r k sn rest
    | _ => s.setRing r Ring.reset

/-- Ring `r`, whose stream has ended, serves stream `k` from segment `sn` on, once no descriptor with data of the stream
that has ended is left (R333). -/
def State.rebindRing (s : State) (r : Nat) (k : Option Nat) (sn : Option SegNo) (rest : List RingStep) : State :=
  let s := if (s.ring r).down then (s.endFilling r).retire r else s
  let x := s.ring r
  if x.held.any (fun d => d.used != 0) then s
  else s.setRing r { x with next := rest, stream := k, since := sn }

/-- The first of what is in store for ring `r` happens once its stream has ended (R333). -/
def State.ringStep (s : State) (r : Nat) : State :=
  let x := s.ring r
  if !x.active then s
  else
    match x.next with
    | .ends sn :: _ => if s.streamOver r sn then s.endRing r else s
    | .rebinds sn k first :: rest => if s.streamOver r sn then s.rebindRing r k first rest else s
    | _ => s

/-- What is in store for ring `r` happens, as far as its time has come. -/
def State.ringNext (s : State) (r : Nat) : State := (s.ring r).next.foldl (fun (s : State) _ => s.ringStep r) s

/-- Something more is in store for ring `r`. -/
def State.ringPlan (s : State) (r : Nat) (n : List RingStep) : State :=
  let x := s.ring r
  s.setRing r { x with next := x.next ++ n }

/-- A stream that a commit gives to ring `r` begins, where no ring in use serves it (R333). -/
def State.planStream (s : State) (r : Nat) (k : Option Nat) (sn : Option SegNo) : State :=
  if (s.ring r).stream == k then s else s.streamStarts r k sn

/-- What a commit does to ring `r`, which is not stopped and in use, or out of it only for a while: it goes out of use,
comes into it again or serves another stream in its turn, after what earlier commits have in store for it. One that
stays in use takes the fields in force; the descriptors it holds keep the places they were taken from (R331, R333,
R341). A change of DIR takes it out of use and into it again (notes/assumptions/62.md). -/
def State.planRing (s : State) (r : Nat) (ended : SegNo) (opens : Option SegNo) : State :=
  let x := s.ring r
  let k := Cfg.ringStream s.regs r
  let fresh : RingStep := .starts k opens
  if s.flag (F.DMA_RING_CTL_EN r) then
    match x.planned with
    | none => (s.planStream r k opens).ringPlan r [fresh]
    | some j =>
      if x.goesOut then if j = k then s else (s.planStream r k opens).ringPlan r [.rebinds ended k opens]
      else if x.down != s.flag (F.DMA_RING_CTL_DIR r) then (s.planStream r k opens).ringPlan r [.ends ended, fresh]
      else
        let s := s.setRing r (s.ringFields r x)
        if j = k then s else (s.planStream r k opens).ringPlan r [.rebinds ended k opens]
  else if x.planned.isNone then s
  else s.ringPlan r [.ends ended]

/-- What a commit does to the rings: `ended` is the segment that ends with it, `opens` the first of the new
configuration, which is in force already, where that is known (R330, R333, R350). -/
def State.dmaCommit (s : State) (ended : SegNo) (opens : Option SegNo) : State :=
  (List.range 16).foldl (fun s r =>
    let en := s.flag (F.DMA_RING_CTL_EN r)
    let k := Cfg.ringStream s.regs r
    let s := s.setReg (F.DMA_RING_STREAM_STREAM r) (if en then k.getD 31 else 31)
    let s :=
      if (s.ring r).active && !s.flag (F.DMA_RING_CTL_STOPPED r) then s.planRing r ended opens
      else if en then s.startRing r k opens []
      else s.setRing r Ring.reset
    s.ringNext r) s

/-- Segment `sn` has ended on this module: its EVT_SEGCLOSE is owed, and LINK_RETRAINS is logged (R346, R491). -/
def State.dmaSegEnd (s : State) (c : Cfg) (sn : SegNo) (last : LineNo) : State :=
  let waiting := (List.range 18).foldl (fun n k =>
    if c.streamOn k && !(s.stream k).off sn then n + 2 ^ k else n) 0
  let s := if c.get F.DMA_EVT_EN = 1 then
      { s with dma := { s.dma with closes := s.dma.closes ++ [(⟨sn, last, waiting, 0⟩ : SegClose)] } }
    else s
  if s.dma.retrains = 0 then s
  else { s with dma := { s.dma with retrains := 0 } }.logClose 0x0905 sn [(4, sn.toNat), (4, s.dma.retrains)]

/-! ### Meanings: rings -/

/-- DMA_PI_WRITE (R332, R335): class L, at once (R325). -/
def State.writePi (s : State) (r pi : Nat) : State :=
  let x := s.ring r
  let m := 2 * x.size
  if x.active ∧ x.size < (pi % m + m - s.reg (F.DMA_RING_CI_CI r)) % m then s.descErr r pi 2
  else
    let s := s.setReg (F.DMA_RING_PI_PI r) pi
    if !x.active then s
    else
      let s := s.setRing r { x with notOwned := x.notOwned.map (fun (o : Nat × Bool) => (o.1, true)) }
      if s.dmaRuns && !s.flag (F.DMA_RING_CTL_STOPPED r) then s.needBuffer r else s

def execDmaPiWrite (r pi : Nat) (s : State) : Res :=
  .next (s.hostLive (F.DMA_RING_PI_PI r).off (fun s => if r < 16 then s.writePi r pi else s))

/-- RECORD_WRITE (R336, R349, R351). -/
def State.recordWrite (s : State) (r : Nat) (bad : List (Nat × Nat)) : State :=
  if !s.mayWrite r then s
  else
    match (s.ring r).stream with
    | none => s.ringNext r
    | some k =>
      if k = 18 then
        let (s, rest) := State.writeEvents r bad 0 (s.fifo.drop s.dma.evtSent) s
        if rest = [] then s.ringNext r else s.starve r
      else
        let x := s.ring r
        let all := (s.stream k).recs
        let before := all.takeWhile (fun q => x.since.any (fun b => snLater b q.sn))
        let mine := (all.drop before.length).takeWhile (fun q => x.serves q.sn)
        let (s, rest) := State.writeStaged r bad (if k < 17 then 64 else 0) 0 mine s
        let s := s.setStream k { s.stream k with
          recs := before ++ rest ++ all.drop (before.length + mine.length) }
        if rest = [] then s.ringNext r else s.starve r

def execRecordWrite (w : RingPass) (s : State) : Res :=
  .next (if w.ring < 16 then s.recordWrite w.ring w.bad else s)

/-- BUFFER_AGE_EXPIRY (R337). -/
def State.ageExpires (s : State) (r : Nat) : State :=
  match s.filling r with
  | some d =>
    if s.mayWrite r && d.used != 0 && s.reg (F.DMA_RING_AGE_AGE r) != 0 then s.closeBuffer r d true else s
  | none => s

def execBufferAgeExpiry (r : Nat) (s : State) : Res := .next (if r < 16 then s.ageExpires r else s)

/-- MOD_TIMER_EXPIRY (R342). -/
def State.modExpires (s : State) (r : Nat) : State :=
  if s.flag (F.DMA_RING_CTL_IRQ_EN r) && s.flag F.DMA_STAT_LINKED && s.reg (F.DMA_RING_MOD_TIMER r) != 0
      && (s.ring r).unsent != 0 then s.ringMessage r
  else s

def execModTimerExpiry (r : Nat) (s : State) : Res := .next (if r < 16 then s.modExpires r else s)

/-- Every EVT_SEGCLOSE that waits for stream `k` to end a segment on ring `x` waits for it no more. -/
def State.forgetStream (s : State) (x : Ring) (k : Nat) : State :=
  { s with dma := { s.dma with
    closes := s.dma.closes.map (fun y => if x.serves y.sn then { y with waiting := withBit y.waiting k false } else y) } }

/-- The stop of ring `x`, number `r`, ends its stream `k`; where another ring carries the stream too, that part of it
goes on (R333, R350). -/
def State.endStream (s : State) (r : Nat) (x : Ring) (k : Nat) : State :=
  let st := s.stream k
  (match s.otherRing r k with
    | none => s.setStream k { Stream.reset with dead := true }
    | some o => s.setStream k { st with recs := st.recs.filter (fun q => !x.serves q.sn), from_ := o.since }).forgetStream x k

/-- RING_STOP (R350): what the ring holds is returned, a partly filled buffer with PARTIAL (R337), and its stream
ends. A ring not in use returns nothing (notes/assumptions/62.md). -/
def State.stopRing (s : State) (r : Nat) : State :=
  let x := s.ring r
  let n0 := (x.held.filter (fun d => d.phase != 3)).length
  let held := x.held.map (fun (d : Desc) =>
    if d.phase = 3 then d
    else { d with phase := 3, status := 4, partial_ := d.partial_ || (d.phase == 0 && d.used != 0 && !x.down) })
  let s := s.setRing r { x with held := held, next := [] }
  let before := (s.ring r).held.length
  let s := if x.active then State.abortPosted r (s.posted r) s else s
  let n := n0 + ((s.ring r).held.length - before)
  let s := s.retire r
  let s := match x.stream with
    | some k =>
      if k = 18 then { s with dma := { s.dma with evtSent := 0 } }
      else if k < 18 then s.endStream r x k
      else { s with sor := { s.sor with parse := [], seeking := true }, dma := { s.dma with spill := [], readsDue := [] } }
    | none => s
  let s := s.setFlag (F.DMA_RING_STAT_STARVED r) false
  ((s.setFlag (F.DMA_RING_CTL_STOPPED r) true).log 0x090D [(1, r), (4, n)]).errVector

/-- Ring `r` is in use and not stopped. -/
def State.ringUsed (s : State) (r : Nat) : Bool := (s.ring r).active && !s.flag (F.DMA_RING_CTL_STOPPED r)

/-- Stream 18 has delivered what stands ahead of its stop: no buffer of it waits for its flush read (R431, R442). -/
def State.drained (s : State) (r : Nat) : State :=
  if s.dma.drain && (s.ring r).stream == some 18 && !(s.ring r).held.any (fun d => d.phase == 1 || d.phase == 2) then
    { s with dma := { s.dma with drain := false } }.stopRing r
  else s

/-- Stream 18 writes what its FIFO holds, completes the buffer in hand, and stops once its flush reads are back (step
4 of Table HKP-3). -/
def State.drainRing (s : State) (r : Nat) : State :=
  let s := s.recordWrite r []
  let s := match s.filling r with
    | some d => if d.used = 0 then s else s.closeBuffer r d true
    | none => s
  { s with dma := { s.dma with drain := true } }.drained r

/-- Every ring stops, that of stream 18 after its delivery (step 4 of Table HKP-3, R442). -/
def State.stopRings (s : State) : State :=
  let is18 (s : State) (r : Nat) : Bool := (s.ring r).active && (s.ring r).stream == some 18
  let s := (List.range 16).foldl (fun (s : State) r =>
    if is18 s r && !s.flag (F.DMA_RING_CTL_STOPPED r) then s.drainRing r else s) s
  (List.range 16).foldl (fun (s : State) r => if is18 s r || !s.ringUsed r then s else s.stopRing r) s

/-- The time for the delivery of stream 18 has passed: what is not confirmed stays in the FIFO (step 4 of Table
HKP-3). -/
def State.drainEnds (s : State) : State :=
  if s.dma.drain then
    (List.range 16).foldl (fun (s : State) r => if s.ringUsed r && (s.ring r).stream == some 18 then s.stopRing r else s)
      { s with dma := { s.dma with drain := false } }
  else s

/-- The flush read in flight of ring `r` ends with `status` (R338, R339); a descriptor with poisoned data that it
confirms completes as POISONED (R349, notes/assumptions/62.md). -/
def State.flushed (s : State) (r status : Nat) : State :=
  let x := s.ring r
  let held := x.held.map (fun (d : Desc) =>
    if d.phase = 2 then { d with phase := 3, status := if status = 0 && !d.bad.isEmpty then 2 else status } else d)
  ((((s.setRing r { x with held := held, retried := false }).retire r).issueFlush r).ringNext r).drained r

/-- A flush read fails: it is retried once (R339). -/
def State.flushFails (s : State) (r : Nat) : State :=
  let x := s.ring r
  match (x.held.filter (fun d => d.phase == 2)).getLast? with
  | none => s
  | some d =>
    if x.retried then (s.log 0x090B [(1, r)]).flushed r 3
    else (s.setRing r { x with retried := true }).emit (.hostRead (s.winBase + d.addr) 4)

/-- FLUSH_READ_COMPLETE (R338, R339): `ok` is false where it completes with UR or CA. -/
def State.flushComplete (s : State) (r : Nat) (ok : Bool) : State :=
  if !(s.ring r).held.any (fun d => d.phase == 2) then s
  else if ok then
    let s := s.flushed r 0
    if s.mayWrite r then s.needBuffer r else s
  else s.flushFails r

def execRingStop (r : Nat) (s : State) : Res :=
  .next (s.hostAction (F.DMA_RING_CTL_STOP r).off (fun s => if r < 16 then s.stopRing r else s))

/-! ### The reference ring (R340) -/

/-- The host-to-device buffer in hand completes with `status`. -/
def State.endRead (s : State) (r : Nat) (d : Desc) (status : Nat) : State :=
  let s := (s.setLast r { d with status := status, phase := 3 }).retire r
  if s.dmaRuns && !s.flag (F.DMA_RING_CTL_STOPPED r) then s.needBuffer r else s

/-- The buffer that ring `r` reads: the one taken, or the next, while the backlog has room (R256, R340); a completion
with none taken stands for one whose read the device issues in this cycle. -/
def State.reading (s : State) (r : Nat) : State × Option Desc :=
  if (s.ring r).isRef && s.dmaRuns && !s.flag (F.DMA_RING_CTL_STOPPED r) then
    let s := s.needBuffer r
    (s, s.filling r)
  else (s, none)

/-- A read of the reference ring fails (R340). -/
def State.readFails (s : State) (r : Nat) (d : Desc) : State :=
  (s.refAbort.log 0x090C [(1, r), (2, d.idx)]).endRead r d 5

/-- The buffer in hand has been read: it completes once its bytes are in the backlog (R256, R340). -/
def State.fed (s : State) (r : Nat) (d : Desc) : State :=
  if s.dma.spill.isEmpty then s.endRead r d 0 else s.setLast r { d with phase := 5 }

/-- The default severities of AER: the bits of the errors that are fatal (R323, notes/assumptions/63.md). -/
def aerSeverity : Nat := 0x00462030

/-- AER records the non-fatal error of bit `b`, and a message tells the root where its reporting is enabled (R323,
notes/assumptions/63.md). -/
def State.aerError (s : State) (b : Nat) : State :=
  let s := { s with dma := { s.dma with aer := withBit s.dma.aer b true } }
  if s.dma.pcie.report && s.flag F.PCX_LINK_DL_UP then s.emit (.errMessage (bitAt aerSeverity b)) else s

/-- HOST_READ_COMPLETION (R340): status 0 with data, 2 poisoned, other values UR or CA. -/
def State.hostReadDone (s : State) (r status : Nat) (bytes : List Byte) : State :=
  match s.reading r with
  | (s, none) => s
  | (s, some d) =>
    match status with
    | 0 => (s.issueReads.refFeed (bytes.take d.used) d.firstRec).fed r d
    | 2 => ((s.aerError 12).refAbort.log 0x090A [(1, r), (6, 0), (6, 0)]).endRead r d 2
    | _ => s.readFails r d

def execHostReadCompletion (r status : Nat) (bytes : List Byte) (s : State) : Res :=
  .next (if r < 16 then s.hostReadDone r status bytes else s)

/-- COMPLETION_TIMEOUT (R339, R340). -/
def State.completionTimeout (s : State) (r : Nat) : State :=
  if (s.ring r).down then
    match s.reading r with
    | (s, none) => s
    | (s, some d) => (s.aerError 14).readFails r d
  else (s.aerError 14).flushFails r

/-- The reference ring goes on where the backlog has room again: what has been read moves in, and the next descriptor is
taken (R256). -/
def State.refill (s : State) : State :=
  (List.range 16).foldl (fun (s : State) r =>
    if (s.ring r).isRef && s.ringUsed r && s.dmaRuns then
      match (s.ring r).held.find? (fun d => d.phase == 5) with
      | some d => s.refMove.fed r d
      | none => s.needBuffer r
    else s) s

/-- CELL_ROW (R252); the bands that it releases leave room for the next buffers of the reference ring (R256). -/
def execCellRow (s : State) : Res := .next s.cellRow.refill

/-! ### The link (R324, R347, R348, R353) -/

/-- A lost record enters the drop of its stream (R348). -/
def Dropped.lose (d : Option Dropped) (m : RecMark) : Dropped :=
  if m.kind = 3 then Dropped.ended d m.sn m.first m.last 0 m.body else Dropped.more d m.first m.last m.count m.sn 0

/-- Records of segment `sn` written, the lost ones not counted: of those that its close counts, or of all so far
(R348). -/
def wroteOf (marks : List RecMark) (written : Nat) (sn : SegNo) : Nat :=
  let total := match marks.find? (fun m => m.kind == 3 && m.sn == sn) with
    | some m => m.count
    | none => written
  total - (marks.filter (fun m => m.kind == 1 && m.sn == sn)).length

/-- Stream `k` enters drop at its first record that no confirmed descriptor wholly holds (R348): those of the lost
descriptors, and those staged. A partly written one stands in the last lost descriptor, or in confirmed ones. -/
def State.loseStream (s : State) (k : Nat) (lost : List Desc) : State :=
  let x := s.stream k
  let held := (lost.head?.bind (fun d => d.cont)).toList ++ lost.flatMap (fun d => d.begins)
  let marks := held ++ (x.recs.filter (fun q => q.done == 0 || lost.isEmpty)).map Staged.mark
  match marks.foldl (fun (d : Option Dropped) m => some (Dropped.lose d m)) none with
  | none => s.setStream k { x with recs := [] }
  | some d =>
    let d := match x.dropping with
      | some o => { Dropped.more (some d) o.first o.last o.count o.sn 0 with excess := o.excess }
      | none => d
    s.setStream k { x with
      recs := [], dropping := none, linkDrop := some { d with wrote := wroteOf marks x.written d.sn } }

/-- A link loss takes a descriptor: it holds unconfirmed data, or data not wholly read (R348). -/
def Ring.hit (x : Ring) (d : Desc) : Bool := decide (d.phase < 3) && (d.used != 0 || x.down)

/-- The descriptors of stream `k` that a link loss takes, those of a ring that a commit replaces first. -/
def State.lostDescs (s : State) (k : Nat) : List Desc :=
  let mine := s.dma.rings.filter (fun x => x.active && x.stream == some k)
  (mine.filter (fun x => x.leaves.isSome) ++ mine.filter (fun x => x.leaves.isNone)).flatMap
    (fun x => x.held.filter x.hit)

/-- The ring's part of a link loss (R348). -/
def State.loseRing (s : State) (r : Nat) : State :=
  let x := s.ring r
  if !x.active then s
  else
    let held := x.held.map (fun d => if x.hit d then { d with status := 1, phase := 4 } else d)
    let s := s.setRing r { x with held := held, retried := false }
    let s := s.setFlag (F.DMA_RING_STAT_STARVED r) false
    if x.stream = some 18 then { s with dma := { s.dma with evtSent := 0 } }
    else if x.stream = some 19 ∧ x.held.any x.hit then s.refAbort
    else s

/-- The streams are lost, with the link or with the hub clocks: gap REASON `reason` (R348, R418). -/
def State.streamsLost (s : State) (reason : Nat) : State :=
  if s.dma.lost then s
  else
    let s := (List.range 18).foldl (fun (s : State) k => s.loseStream k (s.lostDescs k))
      { s with dma := { s.dma with lost := true, gapReason := reason } }
    (List.range 16).foldl State.loseRing s

/-- LINK_LOSS (R348): `down` where the data link went down, false for Bus Master Enable cleared or D3hot. -/
def State.linkLoss (s : State) (down : Bool) : State :=
  let s := if down then ((s.setFlag F.PCX_LINK_DL_UP false).setReg F.PCX_LINK_SPEED 0).setFlag F.PCX_LINK_L1 false else s
  if !s.flag F.DMA_STAT_LINKED then s
  else
    let s := ((s.setFlag F.DMA_STAT_LINKED false).setFlag F.DMA_STAT_LOST true).setFlag F.DMA_STAT_RECOVERING true
    ((s.log 0x0903 []).errVector).streamsLost 3

def execLinkLoss (down : Bool) (s : State) : Res := .next (s.linkLoss down)

/-- What stream `k` owes once the link is up again, where the segment of its last dropped record has ended (R348). -/
def State.payStream (s : State) (k : Nat) : State :=
  let x := s.stream k
  match x.linkDrop with
  | none => s
  | some d =>
    if d.seg.isNone then s else s.payLinkDrop k d

/-- The streams are back once neither the link nor the hub clocks are lost (R348, R418): the LINK_LOST descriptors are
returned, the streams pay what they owe, and the recovery of the link is logged. -/
def State.streamsBack (s : State) : State :=
  if !s.dma.lost || s.dma.hub || !s.flag F.DMA_STAT_LINKED then s
  else
    let n := (s.dma.rings.flatMap (fun x => x.held.filter (fun d => d.phase == 4))).length
    let link := s.flag F.DMA_STAT_RECOVERING
    let s := { (s.setFlag F.DMA_STAT_RECOVERING false) with dma := { s.dma with lost := false } }
    let s := (List.range 16).foldl (fun s r =>
      let x := s.ring r
      let held := x.held.map (fun (d : Desc) => if d.phase = 4 then { d with phase := 3 } else d)
      ((s.setRing r { x with held := held }).retire r).issueFlush r) s
    let s := ((List.range 18).foldl State.payStream s).refill
    if link then (s.log 0x0904 [(4, n)]).errVector else s

/-- The messages that are pending and not masked go out (R342). -/
def State.sendPending (s : State) : State :=
  (List.range 64).foldl (fun (s : State) v =>
    if bitAt s.dma.pba v && !s.msixMasked v then
      { s with dma := { s.dma with pba := withBit s.dma.pba v false } }.sendMsix v
    else s) s

/-- LINK_RECOVERY (R343, R348); with no loss before it, the link has come up. -/
def State.linkRecovery (s : State) : State :=
  let s := ((s.setFlag F.PCX_LINK_DL_UP true).setFlag F.DMA_STAT_LINKED true).sendPending
  let due := s.dma.errDue
  let s := { s with dma := { s.dma with errDue := 0 } }
  let s := (List.range due).foldl (fun (s : State) _ => s.errVector) s
  s.streamsBack

def execLinkRecovery (s : State) : Res := .next s.linkRecovery

/-- The cells of the DMA and PCX blocks. -/
def hostCell (x : Nat × Nat) : Bool :=
  (decide (0xD0000 * 8 ≤ x.1) && decide (x.1 < 0xE0000 * 8)) || (decide (0x140000 * 8 ≤ x.1) && decide (x.1 < 0x150000 * 8))

/-- A stream whose ring a hot reset has taken away keeps its records until its staging overflows (R324). -/
def Stream.afterReset (x : Stream) : Stream :=
  { x with
    recs := x.recs.map (fun q => { q with done := 0 }),
    dropping := if x.linkDrop.isSome then x.linkDrop else x.dropping, linkDrop := none, dead := false, from_ := none }

/-- HOT_RESET (R324). The gating of PLL-H or PLL-B is no state of the blocks that it resets: the streams stay lost
with it (R418). -/
def State.hotReset (s : State) : State :=
  { s with
    regs := s.regs.filter (fun x => !hostCell x), shadow := s.shadow.filter (fun x => !hostCell x),
    live := s.live.filter (fun x => !hostCell x),
    dma := { Dma.reset with
      aer := s.dma.aer, hub := s.dma.hub, lost := s.dma.hub, gapReason := if s.dma.hub then 4 else Dma.reset.gapReason },
    pip := { s.pip with streams := s.pip.streams.map Stream.afterReset } }

def execHotReset (s : State) : Res := .next s.hotReset

/-- The link figure of a rate and width, in 10 MB/s (Table DMA-10). -/
def linkFigure (speed width : Nat) : Nat :=
  width * (match speed with
    | 1 => 20 | 2 => 40 | 3 => 80 | 4 => 160 | 5 => 320 | 6 => 650 | _ => 0)

/-- LINK_SPEED (R352, R353): the rate and width that the link has trained to; a change of them since it last trained is
logged, whether or not the link was down in between. With it comes what the host has set in configuration space (R323),
which may let pending messages go (R342), and whether the link stands in L1 (R323, notes/assumptions/63.md). -/
def State.linkSpeed (s : State) (speed width : Nat) (mode : LinkMode) : State :=
  let fig := linkFigure speed width
  let changed := s.dma.lastLink.any (fun x => x != (speed, width))
  let s := { s with dma := { s.dma with lastLink := some (speed, width), pcie := Pcie.ofCode mode.ctl } }
  let s := ((s.setReg F.PCX_LINK_SPEED speed).setReg F.PCX_LINK_WIDTH width).setReg F.PCX_LINK_FLIT mode.flit
  let s := ((s.setFlag F.PCX_LINK_DL_UP true).setFlag F.PCX_LINK_L1 (bitAt mode.ctl 10)).setReg F.DMA_CAP_LINK fig
  let s := if changed then s.log 0x0906 [(1, speed), (1, width), (2, fig)] else s
  if s.flag F.DMA_STAT_LINKED then s.sendPending else s

def execLinkSpeed (speed width : Nat) (mode : LinkMode) (s : State) : Res := .next (s.linkSpeed speed width mode)

/-- LINK_RETRAIN (R347, Table DMA-8): the link leaves L1 through Recovery. -/
def execLinkRetrain (s : State) : Res :=
  .next (({ s with dma := { s.dma with retrains := s.dma.retrains + 1 } }.addReg F.PCX_LINK_RETRAINS 1).setFlag
    F.PCX_LINK_L1 false)

/-- EVT_SEGCLOSE (R346): the oldest segment that has ended, once both conditions hold. -/
def State.evtSegclose (s : State) : State :=
  match s.dma.closes with
  | [] => s
  | x :: rest =>
    if x.waiting = 0 ∧ s.segHandled x.sn then
      { s with dma := { s.dma with closes := rest } }.logClose 0x0930 x.sn [(4, x.sn.toNat), (4, x.gaps)]
    else s

def execEvtSegclose (s : State) : Res := .next s.evtSegclose

/-! ### PTM (R354) -/

/-- PTM_FAIL. -/
def State.ptmFails (s : State) : State :=
  ({ s with dma := { s.dma with ptmAsked := false } }.setFlag F.PCX_PTM_CTL_FAIL true).log 0x0910 []

/-- A dialog begins; without a link it fails. -/
def State.ptmDialog (s : State) : State :=
  if s.flag F.PCX_LINK_DL_UP then { s with dma := { s.dma with ptmDue := true } }.emit .ptmRequest else s.ptmFails

/-- A write of NOW: it reads 1 until its dialog has ended (R5, R354). -/
def State.ptmWrite (s : State) : State := { s with dma := { s.dma with ptmAsked := true } }.ptmDialog

/-- PTM_NOW (R354). -/
def execPtmNow (s : State) : Res := .next (s.hostAction 0x140100 (fun s => s.ptmWrite))

/-- PTM_PERIOD_EXPIRY (R354): with PTM enabled in configuration space. -/
def execPtmPeriodExpiry (s : State) : Res :=
  .next (if s.flag F.PCX_PTM_CTL_AUTO && s.dma.pcie.ptm then s.ptmDialog else s)

/-- The press time of the instant that the responder's master time refers to: its receipt of the request, half a round
trip after the request left; 3 ticks are 2 ns (R354, notes/assumptions/63.md). -/
def ptmInstant (t1 t4 : PressTime) (turn : Nat) : PressTime :=
  t1 + BitVec.ofInt 64 ((2 * signedDiff t4 t1 - 3 * Int.ofNat turn).fdiv 4)

/-- PTM_DIALOG_DONE (R354): both times are stored at once. -/
def State.ptmDone (s : State) (ok : Bool) (times : PtmTimes) (host : Nat) : State :=
  if !s.dma.ptmDue then s
  else
    let pt := ptmInstant times.t1 times.t4 times.turn
    let s := { s with dma := { s.dma with ptmDue := false, ptmAsked := false } }
    if ok then
      ((s.setReg F.PCX_PTM_PT_V pt.toNat).setReg F.PCX_PTM_HOST_V host).setFlag F.PCX_PTM_CTL_VALID true
    else s.ptmFails

def execPtmDialogDone (ok : Bool) (times : PtmTimes) (host : Nat) (s : State) : Res := .next (s.ptmDone ok times host)

end Sys2Proof.Machine
end

