-- ==== Sys2Proof/Machine/Check.lean ====
section
/-! DEFINITION. The commit check of Table CFG-2 and the configuration digest (11_configuration_boot_and_security.md
R366 to R368). Each check answers the BAR0 offset of the first field concerned, or none where the configuration
passes it; `noField` where it concerns no single field. -/

namespace Sys2Proof.Machine

/-- `CFG_REJ_OFS` of a check that concerns no single field (R366). -/
def noField : Nat := 0xFFFFFFFF

/-- The first offset of a list whose test fails. -/
def firstBad (l : List (Bool × Nat)) : Option Nat := (l.find? (fun x => x.1)).map (fun x => x.2)

/-- The lowest offset of a list whose test fails. -/
def lowestBad (l : List (Bool × Nat)) : Option Nat :=
  l.foldl (fun (m : Option Nat) x =>
    if x.1 then some (match m with
      | some y => min y x.2
      | none => x.2)
    else m) none

/-- The first answer of a list of checks. -/
def firstSome : List (Option Nat) → Option Nat
  | [] => none
  | some x :: _ => some x
  | none :: r => firstSome r

/-- A field against a test of its value. -/
def Cfg.fieldIs (c : Cfg) (f : Field) (bad : Nat → Bool) : Bool × Nat := (bad (c.get f), f.off)

/-! ### FIELD (reason 1) -/

/-- A counter source or its qualifier that Table PTC-1 does not hold (R64). -/
def badSource (src sel : Nat) : Bool :=
  match src with
  | 4 => decide (2 < sel)
  | 6 => decide (2 < sel)
  | 10 => decide (7 < sel)
  | 11 => decide (7 < sel)
  | n => decide (11 < n)

/-- Contexts that a reachable program selects (R229, R231). -/
def Cfg.contexts (c : Cfg) : List Nat := (List.range 4).filter (fun x => c.reachable.any (fun p => c.progCtx p == x))

/-- The context of the LUT that holds BAR0 offset `off`, if it lies in one (R229). -/
def lutContext (off : Nat) : Option Nat :=
  if 0x220000 ≤ off ∧ off < 0x2A0000 then
    if (off - 0x220000) % 0x20000 < 0x14000 then some ((off - 0x220000) / 0x20000) else none
  else if 0x2A0000 ≤ off ∧ off < 0x2E0000 then
    if (off - 0x2A0000) % 0x10000 < 0x8000 then some ((off - 0x2A0000) / 0x10000) else none
  else none

/-- The first LUT entry above 65,536 in a context that a reachable program selects (R229). -/
def Cfg.badLut (c : Cfg) : Option Nat :=
  (List.find? (fun (kv : Nat × Nat) =>
    decide (65536 < kv.2) && (lutContext (kv.1 / 8)).any (fun x => c.contexts.contains x)) c).map (fun kv => kv.1 / 8)

/-- Refused values of the launch-source fields, which only the head checks (R99). `THY_SEG.SEGLEN` is none of them, and
every module checks it (Table THY-18, notes/assumptions/58.md). -/
def Cfg.launchFields (c : Cfg) : List (Bool × Nat) :=
  [c.fieldIs F.THY_PITCH_PITCH (· == 0), c.fieldIs F.THY_DIV_P_V (· == 0), c.fieldIs F.THY_VEL_WIN (· == 0),
    c.fieldIs F.THY_VEL_STALL (· == 0)]

/-- The ring's BUF_4K = 0 counts under R331 where a stream is bound to the ring (R366). -/
def Cfg.ringBound (c : Cfg) (r : Nat) : Bool := c.get (F.DMA_RING_CTL_EN r) == 1 && (c.ringStream r).isSome

/-- Refused values and reserved encodings that no other rule refuses (R366). -/
def Cfg.checkField (head : Bool) (c : Cfg) : Option Nat :=
  let all (n : Nat) (f : Nat → Bool × Nat) : List (Bool × Nat) := (List.range n).map f
  lowestBad (
    (if head then c.launchFields else [])
    ++ all 8 (fun k => (badSource (c.get (F.PTC_CNT_CTL_SRC k)) (c.get (F.PTC_CNT_CTL_SRC_SEL k)),
      (F.PTC_CNT_CTL_SRC k).off))
    ++ all 8 (fun k => c.fieldIs (F.PTC_CNT_PRESC_P k) (· == 0))
    ++ [c.fieldIs F.THY_CTL_PAT_LEN (fun v => v == 0 || decide (64 < v)), c.fieldIs F.THY_TRIG_TO_WIDTH (· == 0),
      c.fieldIs F.THY_SEG_SEGLEN (fun v => decide (v < 64) || decide (65536 < v))]
    ++ all 6 (fun g => (c.get (F.ARR_GRP_ABIN g) == 3 || decide (4 < c.abin g * c.tdi g), (F.ARR_GRP_ABIN g).off))
    ++ [c.fieldIs F.ARR_DARK_GUARD (fun v => decide (32 < v)), c.fieldIs F.CNV_PRESET_PRESET (fun v => decide (4 < v))]
    ++ all 6 (fun g => c.fieldIs (F.LFL_GRP_RANK_MODE g) (fun v => decide (4 < v)))
    ++ all 64 (fun d =>
      let grp := c.get (F.LFL_DET_CTL_GROUP d)
      (c.get (F.LFL_DET_CTL_REDUCE d) == 3 || c.get (F.LFL_DET_CTL_QUAL d) == 0
        || (c.get (F.LFL_DET_CTL_EN d) == 1 && c.get (F.LFL_DET_CTL_MODE d) == 0) || decide (5 < grp) || !c.grpEn grp,
        (F.LFL_DET_CTL_EN d).off))
    ++ all 4 (fun k => c.fieldIs (F.LFL_EVT_CTL_WIDTH k) (· == 0))
    ++ all 6 (fun g => (decide (1 < c.get (F.CAL_GRP_MODE g)) || c.get (F.CAL_GRP_FILL_REACH g) == 0,
      (F.CAL_GRP_MODE g).off))
    ++ [c.fieldIs F.CAL_DARK_ALPHA (fun v => decide (8 < v)), c.fieldIs F.PIP_SEAM_STAG_WAIT (· == 0),
      c.fieldIs F.PIP_SEAMW_RAMP (fun v => decide (1 < v)), c.fieldIs F.PIP_INSP_GRID (· == 3)]
    ++ all 16 (fun k => c.fieldIs (F.PIP_ROI_CTL_PACK k) (fun v => decide (4 < v)))
    ++ [c.fieldIs F.SOR_CLU_MAX_ROWS (· == 0), c.fieldIs F.SOR_ALARM_WIDTH (· == 0)]
    ++ all 16 (fun k => (c.get (F.SOR_CLASS_CTL_MODE k) == 3 || c.get (F.SOR_CLASS_CTL_POL k) == 3
        || (c.get (F.SOR_CLASS_CTL_MIN_CELLS k) == 0 && c.get (F.SOR_CLASS_CTL_MODE k) != 0),
      (F.SOR_CLASS_CTL_MODE k).off))
    ++ all 16 (fun r => (c.get (F.DMA_RING_CTL_BUF_4K r) == 0 && !c.ringBound r, (F.DMA_RING_CTL_BUF_4K r).off))
    ++ all 4 (fun x => (c.get (F.PIP_CTX_ENC_ENC x) == 3 || decide (8 < c.get (F.PIP_CTX_ENC_LSHIFT x)),
      (F.PIP_CTX_ENC_ENC x).off))
    ++ all 4 (fun x => c.fieldIs (F.PIP_CTX_SNR_SNR x) (· == 3))
    ++ (c.badLut.map (fun o => (true, o))).toList)

/-! ### PROGRAM (reason 2) -/

/-- BAR0 offset of program `p`, and of its step `k` (R86). -/
def progOff (p : Nat) : Nat := 0x200000 + 0x200 * p
def stepOff (p k : Nat) : Nat := progOff p + 0x10 + 4 * k

/-- The events of two kinds on one group or strobe: true for the first kind. -/
def switches (steps : List (Nat × Nat × Nat)) (on off n : Nat) : List Bool :=
  steps.filterMap (fun x => if bitAt x.2.2 n then (if x.2.1 = on then some true else if x.2.1 = off then some false
    else none) else none)

/-- They alternate, beginning with the first kind and ending with the second. -/
def alternates : List Bool → Bool
  | [] => true
  | true :: false :: r => alternates r
  | _ => false

/-- Two steps act on one group, or on one strobe, in one tick (R88). -/
def clash (x y : Nat × Nat × Nat) : Bool :=
  let pixel (k : Nat) : Bool := k == 1 || k == 2 || k == 3
  let strobe (k : Nat) : Bool := k == 4 || k == 5
  x.1 == y.1 && (x.2.2 &&& y.2.2) != 0 && ((pixel x.2.1 && pixel y.2.1) || (strobe x.2.1 && strobe y.2.1))

/-- The first step that falls before the one before it, has a reserved kind, or clashes with an earlier one (R88). -/
def badStep : Nat → List (Nat × Nat × Nat) → List (Nat × Nat × Nat) → Option Nat
  | _, _, [] => none
  | k, earlier, x :: r =>
    let back := match earlier with
      | y :: _ => decide (x.1 < y.1)
      | [] => false
    if back || decide (5 < x.2.1) || earlier.any (clash x) then some k
    else badStep (k + 1) (x :: earlier) r

/-- Neighbouring windows keep 16 ticks between a TX and the next OPEN (R30 item 5). -/
def windowGaps : List (Nat × Nat) → Bool
  | a :: b :: r => decide (a.2 + 16 ≤ b.1) && windowGaps (b :: r)
  | _ => true

/-- The last TX of group `g` in a program. -/
def Cfg.lastTx (c : Cfg) (p g : Nat) : Option Nat := ((exposures (c.steps p) g).getLast?).map (fun w => w.2)

/-- R30 and R36 for group `g` of program `p`: `old` is the configuration that the boundary line follows (R113). -/
def Cfg.groupTimes (c : Cfg) (old : Option Cfg) (p g : Nat) : Bool :=
  let st := c.steps p
  let w := exposures st g
  let e := max (c.window g).2 ((old.map (fun o => (o.window g).2)).getD 0)
  let before (tx : Option Nat) (per : Nat) : Bool := match tx, w.head? with
    | some t, some f => decide (t + 16 ≤ f.1 + per)
    | _, _ => true
  match ticksOf st 3 g, w.head? with
  | [snr], some f =>
    alternates (switches st 1 2 g) && decide (w.length ≤ 4) && decide (e ≤ snr) && decide (snr + 32 ≤ f.2)
      && w.all (fun x => decide (x.1 + 96 ≤ x.2)) && windowGaps w
      && c.reachable.all (fun q => before (c.lastTx q g) c.minper)
      && (match old with
        | some o => c.progAt 0 != p || !o.grpEn g
          || o.reachable.all (fun q => before (o.lastTx q g) (max c.minper o.minper))
        | none => true)
  | _, _ => false

/-- What a group must have in common in every reachable program (R47, R161). -/
def Cfg.lighting (c : Cfg) (p g : Nat) : List (Nat × Nat) × List Nat × Nat × List (List (Nat × Nat)) :=
  (exposures (c.steps p) g, ticksOf (c.steps p) 3 g, c.light p g,
    ((List.range 6).filter (fun n => bitAt (c.light p g) n)).map (fun n => pulses (c.steps p) n))

/-- Every reachable program lights group `g` alike. -/
def Cfg.litAlike (c : Cfg) (g : Nat) : Bool :=
  match c.reachable with
  | [] => true
  | p :: r => r.all (fun q => decide (c.lighting q g = c.lighting p g))

/-- HDR pairing of G3 and G4 in program `p` (R38). -/
def Cfg.pairFault (c : Cfg) (p : Nat) : Option Nat :=
  let e3 := c.exposure p 3
  let e4 := c.exposure p 4
  if c.get F.ARR_HDR_PAIR_EN = 0 then none
  else
    firstBad [
      (!c.grpEn 3 || !c.grpEn 4 || c.get (F.ARR_GRP_ABIN 3) != c.get (F.ARR_GRP_ABIN 4)
        || c.get (F.ARR_GRP_TDI 3) != c.get (F.ARR_GRP_TDI 4), (F.ARR_GRP_EN 3).off),
      (e3 == 0 || decide (e4 < e3) || decide (256 * e3 < e4), progOff p)]

/-- One reachable program (R88). "A group" of R36 and R37 is an enabled group (notes/assumptions/59.md). -/
def Cfg.checkProgram (c : Cfg) (old : Option Cfg) (p : Nat) : Option Nat :=
  let len := c.get (F.THY_PROG0_LEN p)
  let st := c.steps p
  if len = 0 ∨ 64 < len then some (progOff p)
  else
    match badStep 0 [] st with
    | some k => some (stepOff p k)
    | none =>
      firstSome [firstBad [
        (decide (c.minper < c.span p), progOff p),
        ((List.range 6).any (fun n => !alternates (switches st 4 5 n) || decide (2 < (pulses st n).length)), progOff p),
        (c.enabledGroups.any (fun g => !c.groupTimes old p g), progOff p),
        (c.enabledGroups.any (fun g => c.light p g != 0 && decide (c.exposure p g < 16)), progOff p + 4)],
        c.pairFault p]

/-- PROGRAM (R32, R37, R38, R39, R47, R88, R113). -/
def Cfg.checkPrograms (c : Cfg) (old : Option Cfg) : Option Nat :=
  firstSome (c.reachable.map (fun p => c.checkProgram old p) ++
    [firstBad [((List.range 6).any (fun g => decide (1 < c.tdi g) && !c.litAlike g),
      progOff ((c.reachable.getLast?).getD 0))]])

/-! ### PITCH to CALIBRATION (reasons 3 to 9) -/

/-- PITCH (R46, R104) of every group at TDI > 1, in 2^24 parts of a picometre. -/
def Cfg.checkPitch (c : Cfg) (head : Bool) : Option Nat :=
  let wide := (List.range 6).filter (fun g => decide (1 < c.tdi g))
  if !head || c.get F.THY_CTL_MODE != 0 || wide.isEmpty then none
  else
    let cp := c.get F.THY_CNTPITCH_CPITCH
    let interp := c.get F.THY_CTL_INTERP == 1
    let pitch := if interp then c.get F.THY_PITCH_PITCH * cp * 256
      else (c.get F.THY_DIV_P_V * 2 ^ 24 + c.get F.THY_DIV_F_V) * cp
    let off := if interp then F.THY_PITCH_PITCH.off else F.THY_DIV_P_V.off
    if cp = 0 then some F.THY_CNTPITCH_CPITCH.off
    else
      firstBad (wide.map (fun g =>
        let t := c.abin g * 10583333 * 2 ^ 24
        (decide (t < 200 * (Int.ofNat pitch - Int.ofNat t).natAbs), off)))

/-- PERIOD (R105, R110). -/
def Cfg.checkPeriod (c : Cfg) (head : Bool) : Option Nat :=
  firstBad [
    (decide (65536 < c.minper) || decide (c.minper < c.floor), F.THY_MINPER_MINPER.off),
    (head && decide (c.get F.THY_TPER_TPER < 256 * c.minper), F.THY_TPER_TPER.off)]

/-- FILTER (R155, R160, R161, R169). -/
def Cfg.checkFilter (c : Cfg) : Option Nat :=
  let en := c.enabledGroups
  let top := en.foldl (fun (m : Nat) g => max m (c.ag2 g)) 0
  let low := en.foldl (fun (m : Nat) g => min m (c.ag2 g)) top
  firstSome [
    firstBad ((List.range 6).map (fun g =>
      (decide (c.rankTaps g ≤ c.get (F.LFL_GRP_RANK_K g)), (F.LFL_GRP_RANK_K g).off))),
    firstBad (en.map (fun g => (decide (60 < top - low) && c.ag2 g == top, (F.LFL_GRP_FIR g).off))),
    firstBad (en.map (fun g => ((decide (1 < c.decim) || decide (1 < c.chainSpan g)) && !c.litAlike g,
      (F.LFL_GRP_FIR g).off))),
    firstBad ((List.range 64).map (fun d =>
      (decide (c.get (F.LFL_DET_TH_HI_TH d) < c.get (F.LFL_DET_TH_LO_TH d)), (F.LFL_DET_TH_LO_TH d).off)))]

/-- First and last COL inside the array window (R20, R51). -/
def Cfg.colFirst (c : Cfg) : Nat := c.winFirst - 64
def Cfg.colLast (c : Cfg) : Nat := c.winLast - 64

/-- The streams that a configuration enables, with their rings and directions (Table DMA-4). -/
def Cfg.streams (c : Cfg) : List (Nat × Nat × Nat) :=
  ((List.range 16).filter (fun k => c.get (F.PIP_ROI_CTL_EN k) == 1)).map
      (fun k => (k, c.get (F.PIP_ROI_CTL_RING k), 0))
    ++ (if c.get F.PIP_INSP_HOST_EN = 1 then [(16, c.get F.PIP_INSP_HOST_RING, 0)] else [])
    ++ (if c.get F.SOR_CTL_EN = 1 then [(17, c.get F.SOR_OUT_RING, 0), (19, c.get F.SOR_REF_RING, 1)] else [])
    ++ (if c.get F.DMA_EVT_EN = 1 then [(18, c.get F.DMA_EVT_RING, 0)] else [])

/-- GEOMETRY for one enabled region of interest (R234). -/
def Cfg.checkRoi (c : Cfg) (k : Nat) : Option Nat :=
  let a := c.get (F.PIP_ROI_COLS_FIRST_COL k)
  let b := c.get (F.PIP_ROI_COLS_LAST_COL k)
  let off := (F.PIP_ROI_COLS_FIRST_COL k).off
  firstBad [
    (decide (b < a) || decide (a < c.colFirst) || decide (min c.colLast c.lastOwned < b)
      || (b + 1 - a) % 2 ^ c.get (F.PIP_ROI_CTL_XBIN k) != 0, off),
    (bitAt (c.get (F.PIP_ROI_CTL_PLANES k)) 6 && c.get F.ARR_HDR_PAIR_EN == 0, (F.PIP_ROI_CTL_PLANES k).off),
    (c.streams.any (fun x => x.2.1 == c.get (F.PIP_ROI_CTL_RING k) && x.1 != k), (F.PIP_ROI_CTL_RING k).off)]

/-- GEOMETRY (R51, R167, R222, R234, R239, R270) for a module at position `pos` of a chain of `n`. -/
def Cfg.checkGeometry (c : Cfg) (pos n : Nat) : Option Nat :=
  let f := c.get F.ARR_WIN_FIRST_CG
  let l := c.get F.ARR_WIN_LAST_CG
  let w := c.get F.PIP_SEAM_OVL_W
  let e := c.get F.PIP_SEAM_OVL_E
  let odd (x : Nat) : Bool := x == 1 || decide (256 < x)
  let per := c.decim * (match c.usedSlots.head? with
    | some k => c.abin (c.slotSrc k)
    | none => 1)
  firstSome [
    firstBad [(decide (l < f) || f == 0 || decide (256 < l), F.ARR_WIN_FIRST_CG.off)],
    firstBad ((List.range 64).map (fun d =>
      let a := c.get (F.LFL_DET_COLS_FIRST_COL d)
      let b := c.get (F.LFL_DET_COLS_LAST_COL d)
      (decide (b < a) || decide (a < c.colFirst) || decide (c.colLast < b), (F.LFL_DET_COLS_FIRST_COL d).off))),
    firstBad [(odd w || odd e || (pos == 0 && w != 0) || (pos + 1 == n && e != 0) || (w != 0 && f != 1)
      || (e != 0 && l != 256), F.PIP_SEAM_OVL_W.off)],
    firstSome (((List.range 16).filter (fun k => c.get (F.PIP_ROI_CTL_EN k) == 1)).map c.checkRoi),
    firstBad [(c.grid % per != 0 || decide (c.grid ≤ c.get F.PIP_INSP_XPHASE), F.PIP_INSP_GRID.off)],
    firstSome ((List.range 16).map (fun k =>
      let rep := c.get (F.SOR_REGW_CTL_REPEAT k)
      firstBad [
        (decide (0 < rep) && decide (rep < 32), (F.SOR_REGW_CTL_REPEAT k).off),
        (c.get (F.SOR_REGW_CTL_EN k) == 1 && decide (c.cells ≤ c.get (F.SOR_REGW_POS_X0 k) + 31),
          (F.SOR_REGW_POS_X0 k).off)]))]

/-- HDR (R38, R183, R230, R231); a program that breaks R38 is refused under PROGRAM already (R88, R366). -/
def Cfg.checkHdr (c : Cfg) : Option Nat :=
  if c.get F.ARR_HDR_PAIR_EN = 0 then none
  else
    let off (p : Nat) : Nat := progOff p
    let e (p : Nat) : Nat × Nat := (c.exposure p 3, c.exposure p 4)
    let p0 := (c.reachable.head?).getD 0
    firstSome [
      firstSome (c.reachable.map c.pairFault),
      firstBad [(c.get (F.CAL_SCALE_SCALE 3) != c.get (F.CAL_SCALE_SCALE 4), (F.CAL_SCALE_SCALE 3).off),
        (c.get (F.CAL_GRP_MODE 3) != c.get (F.CAL_GRP_MODE 4), (F.CAL_GRP_MODE 3).off)],
      firstBad (c.reachable.map (fun p => (decide (e p ≠ e p0), off p))),
      firstBad (c.contexts.map (fun x =>
        (decide (c.get (F.PIP_CTX_K_K_HI x) ≤ c.get (F.PIP_CTX_K_K_LO x)), (F.PIP_CTX_K_K_LO x).off)))]

/-- CONVERTER (R129, R144), with the fail bits in force. -/
def Cfg.checkConverter (c : Cfg) (fails : List Nat) : Option Nat :=
  firstSome [
    firstBad [(c.fsSaturates,
      if c.get F.CNV_PRESET_SHIFT_OVR = 1 then F.CNV_SHIFT_S1.off else F.CNV_PRESET_PRESET.off)],
    firstBad ((List.range 774).map (fun i =>
      (c.get (F.CNV_SPARE_EN i) == 1 && fails.contains (spareConv (i / 3) (i % 3)), (F.CNV_SPARE_EN i).off)))]

/-- CALIBRATION (R183). -/
def Cfg.checkCalibration (c : Cfg) : Option Nat :=
  firstSome [
    firstBad ((List.range 6).map (fun g => c.fieldIs (F.CAL_SCALE_SCALE g) (· == 0))),
    firstBad ((List.range 6).map (fun g =>
      (c.fs == 0 || decide (2 ^ 48 ≤ c.eg g) || decide (2 ^ 48 ≤ c.iw g), (F.CAL_SCALE_SCALE g).off)))]

/-! ### Budgets, rings and streams (reasons 10 to 16) -/

/-- Enabled groups, output columns, and MINPER × D (R245). -/
def Cfg.planesIn (c : Cfg) : Nat := c.enabledGroups.length
def Cfg.columnsIn (c : Cfg) : Nat := 64 * (c.get F.ARR_WIN_LAST_CG + 1 - c.get F.ARR_WIN_FIRST_CG)
def Cfg.linePeriod (c : Cfg) : Nat := c.minper * c.decim

/-- BRIDGE (R245). -/
def Cfg.checkBridge (c : Cfg) : Option Nat :=
  firstBad [(decide (20 * c.linePeriod < c.planesIn * c.columnsIn), noField)]

/-- The cell height as a divisor: at least 1 (R239). -/
def Cfg.cellHeight (c : Cfg) : Nat := max 1 c.cellRows

/-- DRAM (R246, R280). -/
def Cfg.checkDram (c : Cfg) : Option Nat :=
  let m := c.cellHeight
  let sor := c.get F.SOR_CTL_EN == 1
  let seam := 4 * (c.get F.PIP_SEAM_OVL_W + 1) * c.planesIn * 1500000000 * m
  let bands := if sor then 512 * c.tiles * 1500000000 else 0
  let fixed := if sor then 512000000 else 0
  firstBad [(decide ((10240000000 - fixed) * (c.linePeriod * m) < seam + bands), noField)]

/-- `n` rounded up to a multiple of 64. -/
def up64 (n : Nat) : Nat := (n + 63) / 64 * 64

/-- Planes that region of interest `k` carries (R234). -/
def Cfg.roiPlanes (c : Cfg) (k : Nat) : Nat :=
  ((List.range 7).filter (fun p => bitAt (c.get (F.PIP_ROI_CTL_PLANES k)) p
    && (if p = 6 then c.get F.ARR_HDR_PAIR_EN == 1 && c.grpEn 3 && c.grpEn 4 else c.grpEn p))).length

/-- The line record of region of interest `k` (R242, Table PIP-2). -/
def Cfg.roiRecord (c : Cfg) (k : Nat) : Nat :=
  let n := (c.get (F.PIP_ROI_COLS_LAST_COL k) + 1 - c.get (F.PIP_ROI_COLS_FIRST_COL k)) / 2 ^ c.get (F.PIP_ROI_CTL_XBIN k)
  64 + up64 (c.roiPlanes k * (match c.get (F.PIP_ROI_CTL_PACK k) with
    | 0 => 2 * n | 1 => 2 * n | 2 => 3 * ((n + 1) / 2) | _ => n))

/-- The largest record of stream `k` (R242, R331). -/
def Cfg.largest (c : Cfg) (k : Nat) : Nat :=
  if k < 16 then c.roiRecord k
  else if k = 16 then 64 + up64 (2 * c.cells * c.usedSlots.length)
  else if k = 19 then 64 + 4096 * c.tiles
  else 32

/-- STAGING (R247, R275). -/
def Cfg.checkStaging (c : Cfg) : Option Nat :=
  let on := c.streams.filter (fun x => decide (x.1 < 18))
  let off (k : Nat) : Nat := if k < 16 then (F.PIP_ROI_STG_STG_KIB k).off
    else if k = 16 then F.PIP_INSP_STG_STG_KIB.off else F.SOR_OUT_STG_KIB.off
  let small (k : Nat) : Bool := if k = 17 then decide (c.get F.SOR_OUT_STG_KIB < 4)
    else decide ((c.staging k).1 < 2 * c.largest k + 128)
  firstSome [
    firstBad ((on.filter (fun x => x.1 != 17)).map (fun x => (small x.1, off x.1)) ++ [(small 17, off 17)]),
    firstBad [(decide (12288 * 1024 < on.foldl (fun (n : Nat) x => n + (c.staging x.1).1) 0), noField)]]

/-- RING for ring `r` (R330, R331). -/
def Cfg.checkRing (c : Cfg) (r : Nat) : Option Nat :=
  let on := c.streams.filter (fun x => x.2.1 == r)
  let en := c.get (F.DMA_RING_CTL_EN r) == 1
  let lg := c.get (F.DMA_RING_CTL_LOG2SIZE r)
  let lo (q : Nat) : Nat := 4096 * c.get (F.DMA_RING_BASE_BASE q)
  let hi (q : Nat) : Nat := lo q + 32 * 2 ^ c.get (F.DMA_RING_CTL_LOG2SIZE q)
  let overlaps := (List.range 16).any (fun q =>
    q != r && c.get (F.DMA_RING_CTL_EN q) == 1 && decide (lo q < hi r) && decide (lo r < hi q))
  let off := (F.DMA_RING_CTL_EN r).off
  firstBad [
    (decide (1 < on.length) || (!on.isEmpty && !en)
      || on.any (fun x => x.2.2 != c.get (F.DMA_RING_CTL_DIR r)), off),
    (en && (decide (lg < 3) || decide (16 < lg)), off),
    (en && (decide (0x1000000 < hi r) || overlaps), (F.DMA_RING_BASE_BASE r).off),
    (en && on.any (fun x => decide (2 ^ lg * c.get (F.DMA_RING_CTL_BUF_4K r) * 4096 < 2 * c.largest x.1)), off)]

/-- The host charges of Table DMA-9, write and read, in bytes per second × 16 × MINPER × D × m (R352). -/
def Cfg.charges (c : Cfg) : Nat × Nat :=
  let m := c.cellHeight
  let l := 1500000000
  let den := 16 * c.linePeriod * m
  let roi := ((List.range 16).filter (fun k => c.get (F.PIP_ROI_CTL_EN k) == 1)).foldl
    (fun (n : Nat) k => n + c.roiRecord k * l * 16 * m) 0
  let insp := if c.get F.PIP_INSP_HOST_EN = 1 then c.largest 16 * l * 16 else 0
  let sor := if c.get F.SOR_CTL_EN = 1 then 32000000 * den + 64 * l * 16 else 0
  let evt := if c.get F.DMA_EVT_EN = 1 then 32000000 * den else 0
  (roi + insp + sor + evt, if c.get F.SOR_CTL_EN = 1 then c.largest 19 * l else 0)

/-- The denominator of `Cfg.charges`. -/
def Cfg.chargeDen (c : Cfg) : Nat := 16 * c.linePeriod * c.cellHeight

/-- HOST_BW (R352): `link` is the link figure in 10 MB/s. -/
def Cfg.checkHost (c : Cfg) (link : Nat) : Option Nat :=
  let limit (f : Field) : Nat := 10000000 * (if c.get f = 0 then link else 25 * c.get f) * c.chargeDen
  firstBad [
    (decide (limit F.DMA_BW_WR_LIMIT < c.charges.1) || decide (limit F.DMA_BW_RD_LIMIT < c.charges.2), noField)]

/-- SEAM (R224). -/
def Cfg.checkSeam (c : Cfg) : Option Nat :=
  firstBad [(decide (4032 < c.stagger.natAbs), F.PIP_SEAM_STAG_STAGGER.off)]

/-- STREAMS (R236, R254). -/
def Cfg.checkStreams (c : Cfg) : Option Nat :=
  let src := ((List.range 4).map c.slotSrc).filter (fun g => g != 7)
  let out := c.get F.SOR_OUT_RING
  let ref := c.get F.SOR_REF_RING
  let others := c.streams.filter (fun x => x.1 != 17 && x.1 != 19)
  firstBad [
    (c.get F.PIP_CTL_INSP_EN == 1
      && (src.any (fun g => decide (5 < g) || !c.grpEn g)
        || src.any (fun g => c.abin g != c.abin ((src.head?).getD 0))), F.PIP_INSP_SRC0.off),
    (c.get F.SOR_CTL_EN == 1 && c.get F.PIP_CTL_INSP_EN == 0, F.SOR_CTL_EN.off),
    (c.get F.SOR_CTL_EN == 1 && (out == ref || others.any (fun x => x.2.1 == out)), F.SOR_OUT_RING.off),
    (c.get F.SOR_CTL_EN == 1 && others.any (fun x => x.2.1 == ref), F.SOR_REF_RING.off)]

/-! ### The check -/

/-- The first check of a numbered list that fails: its code and the offset. -/
def firstFailure : Nat → List (Option Nat) → Option (Nat × Nat)
  | _, [] => none
  | k, some off :: _ => some (k, off)
  | k, none :: r => firstFailure (k + 1) r

/-- The commit check of configuration `c` on a module: the configuration reasons of Table CFG-2 in ascending order
(R366). `old` is the configuration that the first line under `c` follows. -/
def State.checkConfig (s : State) (old : Option Cfg) (c : Cfg) : Option (Nat × Nat) :=
  firstFailure 1 [
    Cfg.checkField s.isHead c, Cfg.checkPrograms c old, Cfg.checkPitch c s.isHead, Cfg.checkPeriod c s.isHead,
    Cfg.checkFilter c, Cfg.checkGeometry c s.posNow (s.reg F.CHV_POS_N), Cfg.checkHdr c,
    Cfg.checkConverter c s.cnv.fails, Cfg.checkCalibration c, Cfg.checkBridge c, Cfg.checkDram c, Cfg.checkStaging c,
    firstSome ((List.range 16).map (Cfg.checkRing c)), Cfg.checkHost c (s.reg F.DMA_CAP_LINK), Cfg.checkSeam c,
    Cfg.checkStreams c]

/-! ### The digest (R367, R368) -/

/-- The 32-bit word that the fields of `fs` show at offset `off`. -/
def wordOf (b : Bank) (fs : List Field) : Nat := fs.foldl (fun (n : Nat) f => n + b.get f * 2 ^ f.lo) 0

/-- The instances of a row that hold a shared field: offset and value under the mask of the D fields. -/
def RegRow.shared (r : RegRow) (b : Bank) : List (Nat × Nat) :=
  if r.fields.any (fun f => f.shared) then
    (List.range r.n1).flatMap (fun i => (List.range r.n2).flatMap (fun j => (List.range r.n3).map (fun k =>
      let d := i * r.s1 + j * r.s2 + k * r.s3
      (r.base + d, wordOf b ((r.fields.filter (fun f => f.shared)).map (fun f => f.moved d))))))
  else []

/-- The register rows of the blocks at 0x00_0000 to 0x14_FFFF. -/
def blockRows : List RegRow :=
  rowsGLB ++ rowsPTC ++ rowsTHY ++ rowsARR ++ rowsCNV ++ rowsLFL ++ rowsCAL ++ rowsPIP ++ rowsSOR ++ rowsCHV ++ rowsDMA
    ++ rowsCFG ++ rowsSEC ++ rowsCLK ++ rowsHKP ++ rowsBAY ++ rowsTWI ++ rowsPCX

/-- The windows of Table CFG-4: base and length, in order. -/
def digestWindows : List (Nat × Nat) :=
  [(0x200000, 8192), (0x202000, 256)]
    ++ (List.range 4).flatMap (fun c => [(0x220000 + 0x20000 * c, 81920), (0x234000 + 0x20000 * c, 256)])
    ++ (List.range 4).flatMap (fun c => [(0x2A0000 + 0x10000 * c, 32768), (0x2A8000 + 0x10000 * c, 256)])

/-- The message M of a configuration (R367). -/
def digestMessage (b : Bank) : List Byte :=
  let regs : Assoc Nat := (blockRows.flatMap (fun r => r.shared b)).foldl (fun m x => Assoc.insert m x.1 x.2) []
  let window (x : Nat × Nat) : List Byte :=
    leBytes 4 x.1 ++ leBytes 4 x.2 ++
      (List.range (x.2 / 4)).flatMap (fun i => leBytes 4 (wordOf b (fieldsAt (x.1 + 4 * i))))
  [0x56, 0x4C, 0x44, 0x47, 1, 0, 0, 0] ++ regs.flatMap (fun x => leBytes 4 x.1 ++ leBytes 4 x.2)
    ++ digestWindows.flatMap window

/-- The digest of a configuration. -/
def digestOf (b : Bank) : List Byte := sha256 (digestMessage b)

/-- A digest written into eight registers. -/
def State.setDigest (s : State) (f : Nat → Field) (d : List Byte) : State :=
  (List.range 8).foldl (fun s i => s.setReg (f i) (leWordAt d (4 * i))) s

/-- The digest prefix: byte 0 in bits [63:56]; 0 in SAFE (R368). -/
def State.digestPrefix (s : State) : Word64 :=
  if s.flag F.CFG_BOOT_STAT_SAFE then 0
  else BitVec.ofNat 64 (ofLeBytes (leBytes 4 (s.reg (F.CFG_DIGEST_V 0)) ++ leBytes 4 (s.reg (F.CFG_DIGEST_V 1))).reverse)

end Sys2Proof.Machine
end

