-- ==== Sys2Proof/Machine/Commit.lean ====
section
/-! DEFINITION. The commit across the chain (11_configuration_boot_and_security.md R358 to R365). -/

namespace Sys2Proof.Machine

/-! ### Packets -/

/-- A packet to the head, on VC1 (Table CHV-7). -/
def State.toHead (s : State) (dtype : Nat) (words : List Word64) : State :=
  s.sendPacket 0 ⟨dtype, 1, s.posNow, 0, words⟩

/-- A packet from `src` to the head is relayed west (R305). -/
def State.relayWest (s : State) (dtype src : Nat) (words : List Word64) : State :=
  s.sendPacket 0 ⟨dtype, 1, src, 0, words⟩

/-- A packet of the head to every module, on virtual channel `vc`, leaves east: issued or relayed (R305). -/
def State.sendEast (s : State) (dtype vc : Nat) (words : List Word64) : State :=
  s.sendPacket 1 ⟨dtype, vc, 0, 31, words⟩

/-- Traffic from the west is taken: the CW port is UP and its traffic is not ignored (R290). -/
def State.hearsWest (s : State) : Bool := s.portUp 0 && !s.chv.cwIgnored

/-- The COMMIT data word (Table CFG-1). -/
def commitWord (id : Nat) (target : SegNo) (phase : Nat) (now : Bool) : Word64 :=
  BitVec.ofNat 64 (target.toNat + 2 ^ 32 * (id % 65536) + 2 ^ 48 * phase + 2 ^ 50 * boolBit now)

/-- Modules that a commit of this module covers. -/
def State.chainLen (s : State) : Nat := max 1 (s.reg F.CHV_POS_N)

/-- The head issues a COMMIT packet; with N = 1 every phase goes without one (R361, R365). -/
def State.sendCommit (s : State) (w : Word64) : State := if s.chainLen = 1 then s else s.sendEast 3 0 [w]

/-- A phase of the commit in progress is issued (R361, R365). -/
def State.sendPhase (s : State) (phase : Nat) : State :=
  s.sendCommit (commitWord s.commit.id s.commit.target phase s.commit.now)

/-! ### Resolution -/

/-- The commit is resolved: the module is no longer frozen, and a spare-map proposal that waited is written (R361). -/
def State.resolve (s : State) : State :=
  let s := { s with commit := { s.commit with frozen := false, busy := false, own := none, results := [], asked := false } }
  let s := s.setReg F.CFG_STAT_STATE 0
  if s.cal.repairDue then s.propose else s

/-- CFG_REJECT with its registers (R366). -/
def State.reject (s : State) (reason off id : Nat) : State :=
  (((s.setReg F.CFG_STAT_REASON reason).setReg F.CFG_REJ_OFS_V off).setFlag F.CFG_STAT_REJECTED true).log 0x0A02
    [(1, reason), (4, off), (2, id), (1, s.posNow)]

/-- A commit takes effect: every class S field takes its shadow value (R358, R364), and the head looks at its lead and
at its launch ring anew (R97, R107). `ended` is the segment that ends with it, and `opens` the one that opens with it,
if that is known. -/
def State.commitEffect (s : State) (id : Nat) (target ended : SegNo) (opens : Option SegNo) : State :=
  let s := { s with regs := s.target, shadow := [] }
  let s := (s.setFlag F.CFG_STAT_APPLIED true).setReg F.CFG_APPLIED_SN_V target.toNat
  let s := (List.range 8).foldl (fun s i => s.setReg (F.CFG_DIGEST_V i) (s.reg (F.CFG_DIGEST_PEND_V i))) s
  let s := s.log 0x0A03 [(4, target.toNat), (2, id), (8, s.digestPrefix.toNat)]
  let s := s.dmaCommit ended opens
  if s.isHead then s.checkLead.checkRing else s

/-- The confirmed commit applies, which resolves it (R361, R364). -/
def State.applyCommit (s : State) (ended : SegNo) (opens : Option SegNo) : State :=
  (s.commitEffect s.commit.id s.commit.target ended opens).resolve

/-- The first segment after a commit that applies while launching is stopped: any that follows the last one executed,
whatever its TARGET_SN (R333, R365, notes/assumptions/62.md). -/
def State.opensNow (s : State) : Option SegNo := s.chv.lastExec.map (fun _ => s.snNow + 1)

/-- Detectors that a configuration changes or switches off become UNKNOWN (R169). -/
def Cfg.detChanged (old new : Cfg) (d : Nat) : Bool :=
  let fs := [F.LFL_DET_CTL_EN d, F.LFL_DET_CTL_MODE d, F.LFL_DET_CTL_POL d, F.LFL_DET_CTL_GROUP d, F.LFL_DET_CTL_TAP d,
    F.LFL_DET_CTL_REDUCE d, F.LFL_DET_CTL_EDGES d, F.LFL_DET_CTL_EVAL_UNSETTLED d, F.LFL_DET_CTL_REC_EN d,
    F.LFL_DET_CTL_QUAL d, F.LFL_DET_COLS_FIRST_COL d, F.LFL_DET_COLS_LAST_COL d, F.LFL_DET_TH_LO_TH d,
    F.LFL_DET_TH_HI_TH d, F.LFL_DET_EDGE_TOL d]
  fs.any (fun f => f.cls == .s && old.get f != new.get f)

/-- A commit with NOW applies while launching is stopped (R365). -/
def State.applyNow (s : State) : State :=
  let old := s.regs
  let s := s.applyCommit s.snNow s.opensNow
  (List.range 64).foldl (fun (s : State) d =>
    if !Cfg.detChanged old s.regs d then s
    else if s.flag (F.LFL_DET_CTL_EN d) then s.detUnknown d
    else s.detChanges old s.nextLn d) s

/-! ### The head's part (R360, R363) -/

/-- The head issues ABORT: reason PEER, TIMEOUT or CHAIN, with `CFG_REJ_POS` (R363). -/
def State.abortCommit (s : State) (reason mask : Nat) : State :=
  let refused := match s.commit.own with
    | some r => r != 0
    | none => false
  let s := s.sendPhase 2
  let s := (s.setFlag F.CFG_STAT_ABORTED true).setReg F.CFG_REJ_POS_V mask
  let s := if refused then s else s.setReg F.CFG_STAT_REASON reason
  (s.log 0x0A04 [(2, s.commit.id), (1, reason), (4, mask)]).resolve

/-- Positions whose recorded result satisfies a test; a position without a result passes `none`. -/
def State.positions (s : State) (test : Option Nat → Bool) : Nat :=
  (List.range s.chainLen).foldl (fun n p => if test (Assoc.find s.commit.results p) then n + 2 ^ p else n) 0

/-- A result has been recorded: the head confirms, aborts, or waits (R363). -/
def State.judgeResults (s : State) : State :=
  if !s.commit.busy || s.reg F.CFG_STAT_STATE == 3 then s
  else
    let refused := s.positions (fun r => match r with
      | some v => v != 0
      | none => false)
    if refused ≠ 0 then s.abortCommit 0x84 refused
    else if s.positions (fun r => r.isNone) = 0 then
      let s := (s.sendPhase 1).setReg F.CFG_STAT_STATE 3
      if s.commit.now then s.applyNow else s
    else s

/-- The action of the first line of TARGET_SN is about to be issued with a result outstanding (R363). -/
def State.commitDue (s : State) (sn : SegNo) : State :=
  if s.commit.busy && s.reg F.CFG_STAT_STATE != 3 && !snLater s.commit.target sn then
    s.abortCommit 0x83 (s.positions (fun r => r.isNone))
  else s

/-- A recorded result that is not an acceptance: a refusal, or silence (R363). -/
def notAccepted (r : Option Nat) : Bool := r != some 0

/-- N has changed during a commit, which lasts until it is applied (R363): ABORT with `mask`, the positions of those
asked that refused or stayed silent. -/
def State.commitChain (s : State) (mask : Nat) : State :=
  if s.isHead && s.commit.busy then s.abortCommit 0x85 mask else s

/-- The module's own result is known: it is recorded here, or sent to the head (R362). -/
def State.ownResult (s : State) (r : Nat) : State :=
  let s := { s with commit := { s.commit with own := some r } }
  let s := s.setReg F.CFG_STAT_STATE (if r = 0 then 2 else 0)
  if s.isHead || decide (s.chainLen = 1) then
    { s with commit := { s.commit with results := Assoc.insert s.commit.results 0 r } }.judgeResults
  else
    s.toHead 0x16 [BitVec.ofNat 64 (s.posNow + 2 ^ 16 * (s.commit.id % 65536) + 2 ^ 32 * r)]

/-- PREPARE: the shadow freezes and the check starts; a module in SAFE refuses (R361, R362, R365). `asked` where a GO of
this module began the commit. -/
def State.prepare (s : State) (id : Nat) (target : SegNo) (now asked : Bool) : State :=
  let s := { s with commit :=
    { frozen := true, busy := true, id := id, target := target, now := now, own := none, results := [], asked := asked } }
  let s := (s.setReg F.CFG_STAT_STATE 1).setReg F.CFG_STAT_LAST_ID id
  if s.flag F.CFG_BOOT_STAT_SAFE then (s.reject 0x86 noField id).ownResult 0x86 else s

/-- The process reason that refuses GO, if any (R360). -/
def State.goRefused (s : State) (target : SegNo) (now : Bool) : Option Nat :=
  let past := s.thy.issued.any (fun q => !snLater target q)
    || (!s.isRunning && snLater (BitVec.ofNat 32 (s.reg F.THY_SN_NEXT_V)) target)
  if s.commit.busy then some 0x80
  else if past then some 0x81
  else if now && s.isRunning then some 0x82
  else none

/-- GO (R360, R365). -/
def State.go (s : State) : State :=
  let id := s.reg F.CFG_COMMIT_ID
  let target := BitVec.ofNat 32 (s.reg F.CFG_COMMIT_SN_V)
  let now := s.flag F.CFG_COMMIT_NOW
  if !s.isHead && decide (1 < s.reg F.CHV_POS_N) then s.writeIgnored 0xE0000 4
  else
    match s.goRefused target now with
    | some r => s.reject r noField id
    | none =>
      let w := commitWord id target 0 now
      (s.sendCommit w).prepare id target now true

def execGo (s : State) : Res := .next (s.hostAction 0xE0000 (fun s => s.go))

/-- CFG_CHECK_DONE (R362, R366, R367). -/
def State.checkDone (s : State) : State :=
  if s.commit.busy && s.reg F.CFG_STAT_STATE == 1 then
    let c := s.target
    let s := s.setDigest F.CFG_DIGEST_PEND_V (digestOf c)
    match s.checkConfig (some s.regs) c with
    | some (r, off) => (s.reject r off s.commit.id).ownResult r
    | none => s.ownResult 0
  else s

def execCfgCheckDone (s : State) : Res := .next s.checkDone

/-- DISCARD (R358, Table CFG-12). -/
def State.discard (s : State) : State :=
  if s.commit.frozen then s.writeIgnored 0xE0000 3 else { s with shadow := [] }

def execDiscard (s : State) : Res := .next (s.hostAction 0xE0000 (fun s => s.discard))

/-! ### COMMIT and COMMIT_RESULT packets -/

/-- CONFIRM (R364, R365). -/
def State.confirm (s : State) (id : Nat) : State :=
  if s.commit.busy && s.commit.id == id then
    let s := s.setReg F.CFG_STAT_STATE 3
    if s.commit.now then s.applyNow else s
  else s

/-- ABORT (R363). -/
def State.aborted (s : State) (id : Nat) : State :=
  if s.commit.busy && s.commit.id == id then
    ((s.setFlag F.CFG_STAT_ABORTED true).log 0x0A04 [(2, id), (1, s.commit.own.getD 0), (4, 0)]).resolve
  else s

/-- A COMMIT packet, by its PHASE; 3 is dropped (Table CFG-1). A commit that an orphan has resolved ignores the rest of
its packets (R364). -/
def State.commitPacket (s : State) (w : Word64) : State :=
  if !s.hearsWest then s
  else
    let n := w.toNat
    let id := bitsAt n 32 16
    let phase := bitsAt n 48 2
    let s := s.sendEast 3 0 [w]
    match phase with
    | 0 => s.prepare id (BitVec.ofNat 32 n) (bitAt n 50) false
    | 1 => s.confirm id
    | 2 => s.aborted id
    | _ => s

/-- COMMIT_PREPARE (R361, R362). -/
def execCommitPrepare (w : Word64) (s : State) : Res := .next (s.commitPacket w)

/-- COMMIT_CONFIRM (R364, R365). -/
def execCommitConfirm (w : Word64) (s : State) : Res := .next (s.commitPacket w)

/-- COMMIT_ABORT (R363). -/
def execCommitAbort (w : Word64) (s : State) : Res := .next (s.commitPacket w)

/-- COMMIT_RESULT (R362, R363): the head records it, and any other module relays it west. -/
def State.commitResult (s : State) (w : Word64) : State :=
  let n := w.toNat
  let pos := bitsAt n 0 5
  if !s.portUp 1 then s
  else if !s.isHead then s.relayWest 0x16 pos [w]
  else if s.commit.busy && s.commit.id == bitsAt n 16 16 then
    { s with commit := { s.commit with
      results := Assoc.insert s.commit.results pos (bitsAt n 32 8) } }.judgeResults
  else s

def execCommitResult (w : Word64) (s : State) : Res := .next (s.commitResult w)

/-! ### At a boundary (R364) -/

/-- The boundary that opens `sn` is crossed: a confirmed commit applies, and one without CONFIRM or ABORT is an orphan,
with NOW as without.
`ended` is the segment that ends. -/
def State.commitBoundary (s : State) (ended sn : SegNo) : State :=
  let k := s.commit
  if !k.busy || snLater k.target sn then s
  else if s.reg F.CFG_STAT_STATE = 3 then s.applyCommit ended (some k.target)
  else
    ((s.setFlag F.CFG_STAT_ORPHAN true).log 0x0A05 [(2, k.id), (4, k.target.toNat)]).resolve

end Sys2Proof.Machine
end

