-- ==== Sys2Proof/Machine/Lines.lean ====
section
/-! DEFINITION. Line actions: the start and the stop of launching, the issue of actions by the head, their receipt on
the chain and their execution (03_thyme_line_launch.md R91 to R123, 09_chive_chain_and_sync.md R308 to R316, R492). -/

namespace Sys2Proof.Machine

/-! ### The power state (R441) -/

/-- `HKP_PWR.STATE` changes; the strobes go low before STANDBY or SLEEP is entered (R42, cause 5). From the
decision of a thermal shutdown to the end of the resume only R431 and R436 change it; the state that a stop has
meanwhile reached is the one to return to. -/
def State.setPower (s : State) (p : Nat) : State :=
  let old := s.reg F.HKP_PWR_STATE
  if old = p then s
  else if s.thermDown || s.hkp.resuming.isSome then { s with hkp := { s.hkp with left := p } }
  else
    let s := if p = 2 ∨ p = 5 then s.killStrobes 5 false else s
    (s.setReg F.HKP_PWR_STATE p).log 0x0D0A [(1, old), (1, p)]

/-! ### Class L values (R7, R9, R12, R93) -/

/-- The class L values that wait come into force: a counter whose EN changes stands stopped until a START (R70), a CMP
is judged by the count (R68), and the set slots are checked as EN says (R191). -/
def State.applyLines (s : State) : State :=
  let en := (List.range 8).map (fun k => s.reg (F.PTC_CNT_CTL_EN k))
  let cmps := (List.range 8).filter (fun k => (Assoc.find s.live (F.PTC_CNT_CMP_V k).key).isSome)
  let sets := Assoc.find s.live F.CAL_SETS_EN.key
  let s := { s with live := Assoc.erase s.live F.CAL_SETS_EN.key }.applyLive
  let s := (List.range 8).foldl (fun (s : State) k =>
    if en[k]?.getD 0 = s.reg (F.PTC_CNT_CTL_EN k) then s else s.stopCnt k) s
  let s := cmps.foldl State.judgeCmp s
  let s := match sets with
    | some v => s.setSets v
    | none => s
  s.checkRing

/-! ### Skips (R115) -/

/-- The run of skips in progress ends (R115). -/
def State.endSkips (s : State) : State :=
  match s.thy.skipRun with
  | none => s
  | some r =>
    { s with thy := { s.thy with skipRun := none } }.log 0x0101 [(1, r.reason), (6, r.first.toNat), (4, r.count)]

/-- A line is skipped for `reason` (R115). -/
def State.countSkip (s : State) (reason : Nat) (ln : LineNo) : State :=
  let same := match s.thy.skipRun with
    | some r => r.reason == reason
    | none => false
  let s := if same then s else s.endSkips
  let run := match s.thy.skipRun with
    | some r => { r with count := r.count + 1 }
    | none => ⟨reason, ln, 1⟩
  let s := { s with thy := { s.thy with skipRun := some run } }
  (s.setFlag F.THY_STAT_SKIPPED true).addReg (F.THY_SKIP_V (reason - 1)) 1

/-! ### The end of a segment outside the line path (R316, R346, R491) -/

/-- The head judges the digests that the chain reported for segment `sn` (R316); true where a digest differs. -/
def State.judgeDigests (s : State) (sn : SegNo) : Bool × State :=
  if !s.isHead then (false, s)
  else
    let own := s.digestPrefix.toNat
    let got (p : Nat) : Option Nat := Assoc.find s.chv.digests (sn.toNat * 32 + p)
    let mask (f : Option Nat → Bool) : Nat :=
      (List.range s.chainLen).foldl (fun n p => if decide (0 < p) && f (got p) then n + 2 ^ p else n) 0
    let missing := mask (fun r => r.isNone)
    let differs := mask (fun r => match r with
      | some v => v != own
      | none => false)
    let s := { s with chv := { s.chv with digests := s.chv.digests.filter (fun x => x.1 / 32 != sn.toNat) } }
    let s := ((s.setReg F.CHV_DIG_MISSING_V missing).setReg F.CHV_DIG_MISMATCH_V differs).setReg F.CHV_DIG_SN_V sn.toNat
    let s := if missing = 0 ∧ differs = 0 then s
      else s.log 0x0807 [(4, sn.toNat), (4, missing), (4, differs)]
    (differs != 0, s)

/-- LINK_ERRORS for each Chive port that dropped packets in segment `sn` (R491). -/
def State.closeLinks (s : State) (sn : SegNo) : State :=
  [0, 1].foldl (fun (s : State) p =>
    let drops := ((s.chv.ports[p]?).map (fun x => x.segDrops)).getD 0
    if drops = 0 then s
    else
      let s := { s with chv := { s.chv with ports := modAt s.chv.ports p (fun x => { x with segDrops := 0 }) } }
      s.logClose 0x080D sn [(1, p), (4, sn.toNat), (4, drops)]) s

/-- The last LN executed. -/
def State.lastLn (s : State) : LineNo := BitVec.ofNat 48 (s.reg F.THY_LN_V)

/-- Segment `sn`, which ran under `c`, has ended on this module. -/
def State.segEnds (s : State) (c : Cfg) (sn : SegNo) : State := (s.closeLinks sn).dmaSegEnd c sn s.lastLn

/-! ### Stop (R95, R96) -/

/-- Launching has stopped on this module: the last armed action has been executed. A run that issued no action has
opened no segment, so none ends. -/
def State.finishStop (s : State) : State :=
  let sn := s.snNow
  let s := { s with thy := { s.thy with stopping := false } }.endSkips
  let s := if s.thy.first then s else (s.judgeDigests sn).2.segEnds s.regs sn
  let s := { s with thy := { s.thy with first := false } }
  let s := (s.setFlag F.THY_CTL_RUNNING false).log 0x010A [(6, s.lastLn.toNat)]
  let s := s.setPower 2
  let s := s.applyLines.swapStopped.swapIdle
  s.cnvDrained.lflDrained.calDrained.pipDrained

/-- The stop takes effect at once where no armed action is left. -/
def State.stopWhenDone (s : State) : State :=
  if s.thy.stopping && s.thy.armed.isEmpty then s.finishStop else s

/-- The head ends launching: no further action, the next LN and SN, and a STOP packet unless `quiet` (R95, R433). -/
def State.headStops (s : State) (quiet : Bool) : State :=
  if !s.isRunning || s.thy.stopping then s
  else
    let s := (s.setReg F.THY_LN_NEXT_V s.thy.ln.toNat).setReg F.THY_SN_NEXT_V (s.thy.sn + 1).toNat
    let s := { s with thy := { s.thy with stopping := true, due := [] } }
    if quiet then s
    else s.sendEast 2 0 [BitVec.ofNat 64 (s.thy.ln - 1).toNat, BitVec.ofNat 64 s.thy.sn.toNat]

/-- THY_CTL_STOP (R95). -/
def State.stopCmd (s : State) : State :=
  if !s.isHead then s.writeIgnored 0x20000 4 else (s.headStops false).stopWhenDone

def execThyCtlStop (s : State) : Res := .next (s.hostAction 0x20000 (fun s => s.stopCmd))

/-! ### Start (R95, R102, R105) -/

/-- Launching has started: RUNNING, ACTIVE and THY_START with the first SN (R95, R441, Table THY-8). Detectors become
UNKNOWN and the smoothed registration states invalid (R169, R273). -/
def State.runBegins (s : State) (ln : LineNo) (sn : SegNo) : State :=
  let s := ((List.range 64).foldl State.detUnknown s).regForget (fun _ => true)
  ((s.setFlag F.THY_CTL_RUNNING true).setPower 3).logAt 0x0109 sn s.pt [(6, ln.toNat), (8, s.pt.toNat)]

/-- The T and F of the last line launched, as a start leaves them: interpolate mode makes no hold and no OVERSPEED test
before its first launch (R101), and the other modes go on from the last line (R111, R112, R118); a T that press time has
been set back behind counts no more (notes/assumptions/58.md). -/
def State.lastAtStart (s : State) : Option (PressTime × Nat) :=
  if s.reg F.THY_CTL_MODE = 0 ∧ s.reg F.THY_CTL_INTERP = 1 then none
  else
    match s.thy.last with
    | some (t, f) => if 0 < signedDiff t s.pt then none else some (t, f)
    | none => none

/-- The head's schedule at a start (R95, R100 to R102, R105, R111). The prescaler begins anew, a target without any
count in the edge FIFO begins at `PTC_ENC_POS`, boundary requests made before the start are dropped, and a ring that
is empty begins a new empty spell (notes/assumptions/58.md). -/
def State.scheduleStart (s : State) : State :=
  let pos0 := match s.ptc.edges[0]? with
    | some e => s.entryPos e
    | none => s.ptc.pos.toInt
  let f := s.reg F.THY_DIV_F_V
  let ln := BitVec.ofNat 48 (s.reg F.THY_LN_NEXT_V)
  let sn := BitVec.ofNat 32 (s.reg F.THY_SN_NEXT_V)
  let s := { s with thy := { s.thy with
    ln := ln, sn := sn - 1, first := true, last := s.lastAtStart, k := 0, t0 := s.pt + BitVec.ofNat 64 s.leadEff,
    entries := 0, xl := int64 (pos0 * 65536 + Int.ofNat (s.reg F.THY_PITCH_PITCH)), due := [],
    divNeed := s.reg F.THY_DIV_P_V + f / 2 ^ 24, divAcc := f % 2 ^ 24, divN := 0, sinceBoundary := 0,
    reqZ := false, reqLvl := false, reqHost := false, emptyLogged := false } }
  (s.runBegins ln sn).checkRing

/-- THY_CTL_START (R95, R148, R365, R376). -/
def State.startCmd (s : State) : State :=
  if !s.isHead then s.writeIgnored 0x20000 4
  else if s.commit.busy && s.commit.now then s.writeIgnored 0x20000 5
  else if !s.flag F.THY_CTL_EN || s.isRunning || s.flag F.CFG_BOOT_STAT_SAFE then s
  else s.abortTest.scheduleStart

def execThyCtlStart (s : State) : Res := .next (s.hostAction 0x20000 (fun s => s.startCmd))

/-! ### Issue (R91, R97, R101, R105 to R107, R111, R112) -/

/-- The configuration that the line of segment `sn` will run under, as the head knows it when it issues the action:
a confirmed commit's from its segment on (R113, R364). -/
def State.issueCfg (s : State) (sn : SegNo) : Cfg :=
  if s.commit.busy && !s.commit.now && s.reg F.CFG_STAT_STATE == 3 && !snLater s.commit.target sn then s.target
  else s.regs

/-- MINPER for the next line: the larger of the old and the new one at the first line of a changed segment (R113). -/
def State.issueMinper (s : State) (sn : SegNo) (boundary : Bool) : Nat :=
  let new := Cfg.minper (s.issueCfg sn)
  if boundary then max (Cfg.minper s.regs) new else new

/-- The words of a LINE packet (Table CHV-9). -/
def Action.words (a : Action) : List Word64 :=
  [BitVec.ofNat 64 (a.ln.toNat + 2 ^ 48 * boolBit a.skip + 2 ^ 49 * boolBit a.boundary + 2 ^ 50 * a.cause +
      2 ^ 55 * a.reason + 2 ^ 58 * boolBit a.start),
    a.t, BitVec.ofNat 64 (a.sn.toNat + 2 ^ 32 * (a.idx % 2 ^ 17))]

/-- A launch at `t` moved to the end of the flush hold where it falls inside it (R101, R112). -/
def State.heldTime (s : State) (t : PressTime) : PressTime :=
  match s.thy.last with
  | some (tp, f) => if insideHold t tp f then holdEnd tp f else t
  | none => t

/-- The head issues the action of its next line for time `t0`: it decides boundary, hold and skip, sends the action east
and arms it for itself (R91, R95, R111, R112, R119 to R121). `direct` is the direct trigger path (R117, R118). -/
def State.issue (s : State) (t0 : PressTime) (direct : Bool) : State :=
  let start := s.thy.first
  let (cause, s) := s.boundaryHere
  let boundary := cause.isSome
  let sn := if boundary then s.thy.sn + 1 else s.thy.sn
  let s := if boundary then s.commitDue sn else s
  let t := s.heldTime t0
  let ln := s.thy.ln
  let s := if t = t0 then s
    else if direct then
      (s.setFlag F.THY_STAT_HELD true).log 0x0107 [(6, ln.toNat), (4, (t - t0).toNat)]
    else (s.setFlag F.THY_STAT_HELD true).log 0x0106 [(6, ln.toNat), (8, t.toNat)]
  let past := !direct && decide (signedDiff t s.pt < Int.ofNat s.lmin)
  let lapped := match s.thy.last with
    | some (tp, _) => decide (signedDiff t (tp + BitVec.ofNat 64 (s.issueMinper sn boundary)) < 0)
    | none => false
  let reason := if past then 5 else if lapped then 4 else 0
  let a : Action :=
    { skip := reason != 0, ln := ln, t := t, sn := sn, boundary := boundary, cause := cause.getD 0, reason := reason,
      own := false, idx := if boundary then 0 else s.thy.sinceBoundary, start := start, lost := none }
  let s := s.sendEast 1 0 a.words
  { s with thy := { s.thy with
    armed := s.thy.armed ++ [a], ln := ln + 1, sn := sn, issued := some sn, first := false,
    sinceBoundary := if boundary then 1 else s.thy.sinceBoundary + 1,
    last := if reason = 0 then some (t, Cfg.frameLen (s.issueCfg sn)) else s.thy.last } }

/-- The predicted time of the next line in interpolate mode (R101). -/
def State.predicted (s : State) : Option PressTime :=
  match s.ptc.edges[0]? with
  | some e =>
    if s.thy.tc = 0 then none
    else
      let dx := int64 (s.thy.xl - s.entryPos e * 65536)
      some (e.pt + BitVec.ofInt 64 (shiftRoundUp (dx * Int.ofNat s.thy.tc) 32))
  | none => none

/-- T of the next line by the launch mode (Table THY-4, R100, R101, R105 to R107). -/
def State.nextTime (s : State) : Option PressTime :=
  match s.reg F.THY_CTL_MODE with
  | 0 => if s.flag F.THY_CTL_INTERP then s.predicted else s.thy.due.head?
  | 1 => some (s.thy.t0 + BitVec.ofNat 64 ((s.thy.k * s.reg F.THY_TPER_TPER + 128) / 256))
  | 2 => s.thy.due.head?
  | _ => if s.ringEmpty then none else some (s.ringEntry (s.reg F.THY_RING_CI_CI))

/-- The schedule moves past the line just issued (R101, R105, R107). -/
def State.advanceSchedule (s : State) : State :=
  match s.reg F.THY_CTL_MODE with
  | 0 =>
    if s.flag F.THY_CTL_INTERP then
      { s with thy := { s.thy with xl := int64 (s.thy.xl + Int.ofNat (s.reg F.THY_PITCH_PITCH)) } }
    else { s with thy := { s.thy with due := s.thy.due.drop 1 } }
  | 1 => { s with thy := { s.thy with k := s.thy.k + 1 } }
  | 2 => { s with thy := { s.thy with due := s.thy.due.drop 1 } }
  | _ => (s.setReg F.THY_RING_CI_CI ((s.reg F.THY_RING_CI_CI + 1) % 1024)).checkRing

/-- The head evaluates its schedule: RUNNING, not stopping, with TCLK and ticks running (R97, R320, R418). -/
def State.headIssues (s : State) : Bool :=
  s.isHead && s.isRunning && !s.thy.stopping && s.tclkRuns && s.clk.ptMode == .ticks

/-- LINE_DUE (R97): the next line's action is issued once its T lies no more than LEAD_EFF ahead. -/
def State.lineDue (s : State) : State :=
  if s.headIssues then
    match s.nextTime with
    | none => s
    | some t =>
      if Int.ofNat s.leadEff < signedDiff t s.pt then s else (s.issue t false).advanceSchedule
  else s

def execLineDue (s : State) : Res := .next s.lineDue

/-- TRIG_EDGE (R72, Table PTC-1, R106, R117, R118): an accepted edge of TRIG_IN that crossed its threshold at `t`. -/
def State.trigEdge (s : State) (rising : Bool) (t : PressTime) : State :=
  if !s.encPowered then s
  else
    let t := s.edgeTime t
    let s := s.raiseInput 6 (fun sel => sel == 2 || (sel == 0) == rising) false
    let s := if rising then s.captureBy 2 (fun _ => true) t else s
    if s.headIssues && s.reg F.THY_CTL_MODE == 2 && (s.flag F.THY_TRIG_EDGE != rising) then
      if s.chainLen = 1 then s.issue (t + 24) true
      else { s with thy := { s.thy with due := s.thy.due ++ [t + BitVec.ofNat 64 s.leadEff] } }
    else s

def execTrigEdge (rising : Bool) (t : PressTime) (s : State) : Res := .next (s.trigEdge rising t)

/-! ### Execution (R92 to R94, R112, R114, R115, R310, R311) -/

/-- Groups whose filter chain restarts at a boundary between two configurations (R164). -/
def Cfg.chainChanged (old new : Cfg) (g : Nat) : Bool :=
  let own := [F.LFL_GRP_RANK_MODE g, F.LFL_GRP_RANK_TAPS g, F.LFL_GRP_RANK_K g, F.LFL_GRP_RSHIFT g, F.LFL_GRP_FIR g,
    F.LFL_GRP_FSHIFT g, F.LFL_GRP_FSHIFT_AUTO g, F.LFL_CTL_DECIM, F.ARR_GRP_EN g, F.ARR_GRP_HCG g, F.ARR_GRP_ABIN g,
    F.ARR_GRP_TDI g, F.CNV_PRESET_PRESET, F.CNV_PRESET_SHIFT_OVR, F.CNV_SHIFT_S1, F.CNV_SHIFT_S2, F.CNV_SHIFT_S3,
    F.LFL_CTL_DSHIFT, F.ARR_WIN_FIRST_CG, F.ARR_WIN_LAST_CG]
  own.any (fun f => old.get f != new.get f)

/-- Groups whose TDI accumulation begins anew (R48, R49): a group just enabled lacks no line from before that. -/
def Cfg.tdiChanged (old new : Cfg) (g : Nat) : Bool :=
  [F.ARR_GRP_EN g, F.ARR_GRP_ABIN g, F.ARR_GRP_TDI g, F.ARR_WIN_FIRST_CG, F.ARR_WIN_LAST_CG].any (fun f => old.get f != new.get f)

/-- The blocks begin a run with its first action, of line `ln` (R49, R185, R203 to R205). -/
def State.blocksStart (s : State) (ln : LineNo) : State :=
  ({ s with cnv := { s.cnv with run := some ln } }).calStart ln

/-- DIGEST for the segment that opens (R315). -/
def State.sendDigest (s : State) (sn : SegNo) : State :=
  if s.isSynced && !s.isHead then
    s.toHead 0x14 [BitVec.ofNat 64 (sn.toNat + 2 ^ 32 * s.posNow), s.digestPrefix]
  else s

/-- The boundary at action `a` is crossed (R121, R141, R164, R169, R200, R205, R265, R310, R315, R316, R364): groups
whose chain restarts, detectors that become UNKNOWN, whether a digest differed, and the state. -/
def State.crossBoundary (s : State) (a : Action) : List Nat × List Nat × Bool × State :=
  let old := s.regs
  let fresh := a.start || s.chv.lastExec.isNone
  let ended := s.snNow
  let (skew, s) := if fresh then (false, s)
    else
      let (d, s) := s.judgeDigests ended
      (d, s.segEnds old ended)
  let s := s.commitBoundary ended a.sn
  let s := (s.calBoundary a.ln a.t a.sn).rtBoundary a.t a.sn
  let new := s.regs
  let restarts := (List.range 6).filter (fun g => fresh || Cfg.chainChanged old new g)
  let tdi := (List.range 6).map (fun g =>
    if fresh || Cfg.tdiChanged old new g then some a.ln else (s.cnv.restart[g]?).getD none)
  let s := { s with cnv := { s.cnv with restart := tdi } }
  let dets := (List.range 64).filter (fun d => fresh || Cfg.detChanged old new d)
  let s := dets.foldl (fun (s : State) d => s.detChanges old a.ln d) s
  (restarts, dets, skew, s.sendDigest a.sn)

/-- A line of the ledger under the configuration in force (R90, R115, R310). -/
def State.infoOf (s : State) (ln : LineNo) (sn : SegNo) (t : PressTime) (idx : Nat) (launched : Bool) (reason : Nat) :
    LineInfo :=
  let prog := Cfg.progAt s.regs idx
  { ln := ln, sn := sn, t := t, ctx := Cfg.progCtx s.regs prog, prog := prog, launched := launched, reason := reason,
    boundary := false, idx := idx, gap := none, start := false, restarts := [], detFresh := [], cfg := s.regs,
    spares := Cfg.sparesOf s.regs, run := s.cnv.run, settle := s.cnv.restart }

/-- Lost lines before `a` (R311): a placeholder each where the SN is the same and no more than 4,096 are lost, else the
span of one gap record. -/
def State.accountLost (s : State) (a : Action) : Option (LineNo × LineNo × SegNo) × State :=
  match a.lost with
  | none => (none, s)
  | some (l, idx, sn) =>
    let n := (a.ln - l - 1).toNat
    let s := (s.addReg F.CHV_ACT_LOST_V n).log 0x0806 [(6, (l + 1).toNat), (4, n)]
    if sn = a.sn ∧ n ≤ 4096 then
      let more := (List.range n).map (fun k =>
        s.infoOf (l + 1 + BitVec.ofNat 48 k) sn a.t (idx + 1 + k) false 2)
      (none, { s with lines := s.lines ++ more })
    else (some (l + 1, a.ln - 1, sn), s)

/-- Thyme is held by R34 or may launch nothing: no TCLK, the thermal hold, EN = 0, SAFE, or no synchronisation. Table
THY-5 names no reason for a launch that meets EN = 0; it is skipped as UNSYNC (notes/assumptions/58.md). -/
def State.mayLaunch (s : State) : Bool :=
  s.isSynced && s.tclkRuns && s.flag F.THY_CTL_EN && !s.flag F.CFG_BOOT_STAT_SAFE && !s.thermDown

/-- Why the module does not launch the line of action `a`; 0 where it launches it (Table THY-5, R112, R116). -/
def State.skipReason (s : State) (a : Action) : Nat :=
  if a.skip then a.reason
  else if !s.mayLaunch then 2
  else
    match s.arr.hold with
    | some (lo, hi) => if 0 < signedDiff a.t lo ∧ signedDiff a.t hi < 0 then 3 else 0
    | none => 0

/-- The line of action `a` is launched (R93). -/
def State.launchLine (s : State) (i : LineInfo) : State :=
  let s := s.endSkips.frameStart false
  let steps := Cfg.steps s.regs i.prog
  let now := stepsAt 0 steps
  let left := steps.drop now.length
  let s := { s with
    arr := { s.arr with unconverted := some ⟨i.ln, i.sn, i.t, i.ctx, i.prog⟩, hold := none },
    thy := { s.thy with running := s.thy.running ++ (if left = [] then [] else [⟨i.ln, i.sn, i.t, i.prog, left⟩]) } }
  let s := now.foldl (fun (s : State) x => s.programStep s.regs x) s
  if s.reg F.THY_TRIG_TO_SRC = 1 then s.pulseTrigOut else s

/-- The line of action `a` is skipped for `reason` (R94, R115, R122). -/
def State.skipLine (s : State) (i : LineInfo) : State :=
  let s := s.countSkip i.reason i.ln
  if s.reg F.THY_TRIG_TO_SRC = 3 then s.pulseTrigOut else s

/-- The counter inputs and the captures of an action at `t`, inputs first (R71, R72); boundaries count for nothing in
debug halt (R83). -/
def State.actionCounts (s : State) (boundary launched : Bool) (t : PressTime) : State :=
  let crossed := boundary && !s.clk.halted
  let s := if crossed then s.raiseInput 8 (fun _ => true) false else s
  let s := if launched then s.raiseInput 7 (fun _ => true) false else s
  let s := if crossed then s.captureBy 4 (fun _ => true) t else s
  if launched then s.captureBy 3 (fun _ => true) t else s

/-- Action `a` is executed (R93, R94, R115, R310, R311). -/
def State.execute (s : State) (a : Action) : State :=
  let s := s.applyLines
  let s := if a.start then s.blocksStart a.ln else s
  let (gap, s) := s.accountLost a
  let crosses := a.start || s.chv.lastExec.isNone || snLater a.sn s.snNow
  let (restarts, dets, skew, s) := if crosses then s.crossBoundary a else ([], [], false, s)
  let s := if a.boundary && s.reg F.THY_TRIG_TO_SRC == 2 then s.pulseTrigOut else s
  let reason := s.skipReason a
  let i := {
    s.infoOf a.ln a.sn a.t a.idx (reason == 0) reason with
    boundary := crosses, gap := gap, start := a.start, restarts := restarts, detFresh := dets }
  let s := { s with lines := s.lines ++ [i] }
  let s := (if reason = 0 then s.launchLine i else s.skipLine i).actionCounts crosses (reason == 0) a.t
  let s := (s.setReg F.THY_LN_V a.ln.toNat).setReg F.THY_SN_V a.sn.toNat
  let s := { s with thy := { s.thy with index := a.idx }, chv := { s.chv with lastExec := some a.ln } }
  if skew && s.flag F.CHV_CTL_SKEW_ACT then s.headStops false else s

/-- The oldest armed action is executed where its kind is `skip`. -/
def State.runAction (s : State) (skip : Bool) : State :=
  match s.thy.armed with
  | [] => s
  | a :: r =>
    if a.skip = skip then
      ({ s with thy := { s.thy with armed := r } }.execute a).stopWhenDone.thymeLive
    else s

/-- LAUNCH_ACTION (R93). -/
def execLaunchAction (s : State) : Res := .next (s.runAction false)

/-- SKIP_ACTION (R94, R115). -/
def execSkipAction (s : State) : Res := .next (s.runAction true)

/-! ### Receipt (R98, R116, R309 to R312, R318, R492) -/

/-- The action that LINE data words spell (Table CHV-9). -/
def actionOf (w0 w1 w2 : Word64) : Action :=
  let n := w0.toNat
  { skip := bitAt n 48, ln := BitVec.ofNat 48 n, t := w1, sn := BitVec.ofNat 32 w2.toNat, boundary := bitAt n 49,
    cause := bitsAt n 50 5, reason := bitsAt n 55 3, own := false, idx := bitsAt w2.toNat 32 17, start := bitAt n 58,
    lost := none }

/-- The action as this module takes it: its own skip for UNSYNC or LATE, and the lost lines before it (R98, R311,
R318). -/
def State.takenAs (s : State) (a : Action) : Action :=
  let lost := if a.start then none
    else
      match s.chv.lastRx with
      | some (l, idx, sn) => if 1 < signedDiff a.ln l then some (l, idx, sn) else none
      | none => none
  let a := { a with lost := lost }
  if a.skip then a
  else if !s.mayLaunch then { a with skip := true, reason := 2, own := true }
  else if signedDiff a.t s.pt < 256 then { a with skip := true, reason := 1, own := true }
  else a

/-- A LINE whose LN has been received before. -/
def State.repeatedLn (s : State) (a : Action) : Bool :=
  match s.chv.lastRx with
  | some (l, _, _) => !a.start && decide (signedDiff a.ln l ≤ 0)
  | none => false

/-- A first action whose LN is not above the last one executed since reset (R312). -/
def State.regresses (s : State) (a : Action) : Option LineNo :=
  match s.chv.lastExec with
  | some l => if a.start ∧ signedDiff a.ln l ≤ 0 then some l else none
  | none => none

/-- LINE (R308 to R312, R376, R492): relayed east, and taken where Thyme accepts actions, not in SAFE. -/
def State.lineReceived (s : State) (w0 w1 w2 : Word64) : State :=
  if !s.hearsWest then s
  else
    let s := s.sendEast 1 0 [w0, w1, w2]
    let a := actionOf w0 w1 w2
    if !s.flag F.THY_CTL_EN || s.flag F.CFG_BOOT_STAT_SAFE then s
    else
      let s := if a.start && s.isRunning then s.finishStop else s
      match s.regresses a with
      | some l =>
        { s with chv := { s.chv with refused := true } }.log 0x080C [(6, a.ln.toNat), (6, l.toNat)]
      | none =>
        if (s.chv.refused && !a.start) || s.repeatedLn a then s
        else
          let s := if s.isRunning then s else s.abortTest.runBegins a.ln a.sn
          let b := s.takenAs a
          { s with
            thy := { s.thy with armed := s.thy.armed ++ [b] },
            chv := { s.chv with refused := false, lastRx := some (a.ln, a.idx, a.sn) } }

def execLine (w0 w1 w2 : Word64) (s : State) : Res := .next (s.lineReceived w0 w1 w2)

/-- STOP (R95, R96, R492). -/
def State.stopReceived (s : State) (w0 w1 : Word64) : State :=
  if !s.hearsWest then s
  else
    let s := s.sendEast 2 0 [w0, w1]
    if s.isRunning then { s with thy := { s.thy with stopping := true } }.stopWhenDone else s

def execStop (w0 w1 : Word64) (s : State) : Res := .next (s.stopReceived w0 w1)

/-! ### Synchronisation and the lines in hand (R57, R116, R319) -/

/-- The module is unsynchronised: every armed launch becomes its own skip (R116, R318). -/
def State.unsyncArmed (s : State) : State :=
  { s with thy := { s.thy with armed := s.thy.armed.map (fun (a : Action) =>
    if a.skip then a else { a with skip := true, reason := 2, own := true }) } }

/-- PT_STEP (R57): PT steps to the corrected value once the module has stopped; the time that a read of the image has
taken so far goes on (R404). -/
def State.ptStep (s : State) : State :=
  match s.chv.stepDue with
  | none => s
  | some d =>
    if s.lineInFlight then s
    else
      let old := s.pt
      let s := { s with pt := s.pt + BitVec.ofInt 64 d, arr := { s.arr with killAt := none },
                        boot := { s.boot with since := s.boot.since + BitVec.ofInt 64 d },
                        chv := { s.chv with
                          stepDue := none, stepMade := s.chv.stepMade + d, syncAt := s.chv.syncAt + 64 * d } }
      (s.setFlag F.PTC_PT_CTL_STEPPED true).log 0x0183 [(8, old.toNat)]

def execPtStep (s : State) : Res := .next s.ptStep

end Sys2Proof.Machine
end

