-- ==== Sys2Proof/Machine/Chive.lean ====
section
/-! DEFINITION. Chive: training, positions, sprigs and echoes, the phase loop, synchronisation and chain packets
(09_chive_chain_and_sync.md). Ports: 0 CW, 1 CE. -/

namespace Sys2Proof.Machine

/-! ### Port registers -/

/-- Port `p` beside its registers. -/
def State.port (s : State) (p : Nat) : ChvPort := s.chv.ports[p]?.getD ChvPort.reset

/-- Port `p` replaced. -/
def State.setPort (s : State) (p : Nat) (x : ChvPort) : State :=
  { s with chv := { s.chv with ports := s.chv.ports.set p x } }

/-- `CHV_PORTp_STAT.STATE`. -/
def State.portState (s : State) (p : Nat) : Nat := s.reg (F.CHV_PORT_STAT_STATE p)

def State.setPortState (s : State) (p v : Nat) : State := s.setReg (F.CHV_PORT_STAT_STATE p) v

/-- The port trains at all: not CW of the head (R287), and not CE at position 23 (R289). -/
def State.portTrains (s : State) (p : Nat) : Bool :=
  !(p == 0 && s.isHead) && !(p == 1 && s.posNow == 23)

/-- Both PLLs that a port needs are locked: it may train (R287, R418). -/
def State.mayTrain (s : State) : Bool := !s.gated 0 && !s.gated 4

/-! ### Blocks on the lanes (R285, R286, R293, R295, R302) -/

/-- A 66-bit block: its sync header is that of a control block, and its 64 bits. -/
structure Block where
  control : Bool
  bits : Word64
  deriving DecidableEq, Repr

/-- The control block of type `ty` with 56 bits of content (R286). -/
def controlBlock (ty content : Nat) : Block := ⟨true, BitVec.ofNat 64 (ty + 256 * (content % 2 ^ 56))⟩

/-- Content whose bits [55:48] are the CRC-8 over its bits [47:0] (Table CHV-4). -/
def withCrc8 (c : Nat) : Nat := c % 2 ^ 48 + 2 ^ 48 * (crc8 (leBytes 6 (c % 2 ^ 48))).toNat

/-- An IDLE block (Table CHV-2). -/
def idleBlock : Block := controlBlock 0x1E 0

/-- The block of a sprig, on both lanes of its pair (Table CHV-4). -/
def sprigBlock (id txpt : Nat) (hold : Bool) : Block :=
  controlBlock 0x2D (withCrc8 (txpt % 2 ^ 42 + 2 ^ 42 * (id % 16) + 2 ^ 46 * boolBit hold))

/-- The block of an echo, on both lanes of its pair (Table CHV-5). -/
def echoBlock (id turn pos : Nat) : Block :=
  controlBlock 0x33 (withCrc8 (id % 16 + 2 ^ 4 * (turn % 2 ^ 17) + 2 ^ 21 * (pos % 32)))

/-- Bits [47:0] of the SOP of a packet (Table CHV-6). -/
def Packet.header (k : Packet) (copy : Nat) : Nat :=
  k.dtype % 64 + 2 ^ 6 * (k.vc % 4) + 2 ^ 8 * (k.words.length % 1024) + 2 ^ 18 * (k.src % 32) + 2 ^ 23 * (k.dst % 32)
    + 2 ^ 28 * (copy % 2)

/-- The CRC of a packet: over SOP bits [47:0] and the data blocks (Table CHV-6). -/
def Packet.crc (k : Packet) (copy : Nat) : Nat :=
  (crc32 (leBytes 6 (k.header copy) ++ k.words.flatMap (fun w => leBytes 8 w.toNat))).toNat

/-- One copy of a packet: SOP, data blocks, EOP (R302, Table CHV-6). -/
def Packet.blocks (k : Packet) (copy : Nat) : List Block :=
  controlBlock 0x4B (withCrc8 (k.header copy)) :: k.words.map (fun w => ⟨false, w⟩) ++ [controlBlock 0x55 (k.crc copy)]

/-- Blocks as they travel in pairs, the even ones on lane 0; lane 1 is idle behind a packet that ends on lane 0
(R285). -/
def pairBlocks : List Block → List (Block × Block)
  | [] => []
  | [a] => [(a, idleBlock)]
  | a :: b :: r => (a, b) :: pairBlocks r

/-- The pairs of blocks that an emission puts on the two lanes of its port (R285); none for what leaves other pins. -/
def Emission.pairs : Emission → List (Block × Block)
  | .packet _ copy k => pairBlocks (k.blocks copy)
  | .sprig id txpt hold => [(sprigBlock id txpt hold, sprigBlock id txpt hold)]
  | .echo id turn pos => [(echoBlock id turn pos, echoBlock id turn pos)]
  | _ => []

/-- LEN of a data type; none for a type outside Table CHV-7. A SEAM packet has two words and its samples. -/
def packetLen (dtype len : Nat) : Option Nat :=
  match dtype with
  | 0x01 => some 3
  | 0x02 => some 2
  | 0x03 => some 1
  | 0x04 => some 2
  | 0x05 => some 1
  | 0x10 => some 1
  | 0x11 => some 1
  | 0x12 => some 1
  | 0x13 => some 1
  | 0x14 => some 2
  | 0x15 => some 1
  | 0x16 => some 1
  | 0x20 => some (max 2 len)
  | 0x21 => some 2
  | _ => none

/-- The packet that the blocks of one copy spell; none for one that a receiver drops and counts (R302, R304, Table
CHV-7), as PACKET_DROPPED stands for. -/
def readPacket (bs : List Block) : Option Packet :=
  match bs with
  | sop :: rest =>
    match rest.reverse with
    | eop :: data =>
      let words := data.reverse.map (fun b => b.bits)
      let h := sop.bits.toNat / 256
      let k : Packet := ⟨bitsAt h 0 6, bitsAt h 6 2, bitsAt h 18 5, bitsAt h 23 5, words⟩
      if sop.control && sop.bits.toNat % 256 == 0x4B && withCrc8 h == h && eop.control && eop.bits.toNat % 256 == 0x55
          && data.all (fun b => !b.control) && bitsAt h 8 10 == words.length
          && packetLen k.dtype words.length == some words.length
          && bitsAt eop.bits.toNat 8 32 == (crc32 (leBytes 6 (h % 2 ^ 48) ++ words.flatMap (fun w => leBytes 8 w.toNat))).toNat
      then some k else none
    | [] => none
  | [] => none

/-! ### The synchronised state (R300, R307, R318) -/

/-- SYNC_STATE to the head where the synchronised or slewing state has changed, or always with `force` (R307). -/
def State.reportSync (s : State) (force : Bool) : State :=
  if s.isHead || s.posNow == 31 then s
  else
    let now := (s.isSynced, s.ptc.slewLeft != 0)
    if s.chv.stateSent = now && !force then s
    else
      let s := s.toHead 0x15 [BitVec.ofNat 64 (s.posNow + 2 ^ 8 * boolBit now.1 + 2 ^ 9 * boolBit now.2)]
      { s with chv := { s.chv with stateSent := now } }

/-- SYNCED, with its mirror (Table THY-9); the head keeps its own state as that of position 0 (R307). -/
def State.setSynced (s : State) (b : Bool) : State :=
  let s := (s.setFlag F.CHV_SYNC_SYNCED b).setFlag F.THY_CTL_SYNCED b
  if s.isHead then s.setReg F.CHV_SYNCMAP_V (withBit (s.reg F.CHV_SYNCMAP_V) 0 b) else s

/-- The module becomes unsynchronised for `cause` (R116, R318, Table CHV-8). -/
def State.loseSync (s : State) (cause : Nat) : State :=
  if s.isSynced then
    let s := ((s.setSynced false).setReg F.CHV_SYNC_LOST_CAUSE cause).log 0x0804 [(1, cause)]
    s.unsyncArmed.reportSync false
  else s

/-- The module becomes synchronised; SYNC_OK with the step made and PT (R319). -/
def State.gainSync (s : State) : State :=
  if s.isSynced then s
  else
    let step := s.chv.stepMade
    let s := { s with chv := { s.chv with stepMade := 0 } }.setSynced true
    (s.log 0x0805 [(4, codeOf 32 step), (8, s.pt.toNat)]).reportSync false

/-- R300: the last 8 sprigs, SYNC and DELAY, CW UP, TCLK and a position (R291, R292). -/
def State.syncHolds (s : State) : Bool :=
  s.portUp 0 && s.chv.syncGot && s.chv.delayGot && s.chv.quality.length == 8 && s.chv.quality.all id && s.tclkRuns
    && s.posNow != 31 && !s.chv.posBad

/-- TCLK has stopped or runs again: the head's synchronisation follows it, and any other module loses its own (R300,
Table CHV-8, cause 9); the queue of phase steps empties (R415). -/
def State.tclkChanged (s : State) : State :=
  if s.tclkRuns then (if s.isHead then s.gainSync else s)
  else { s with clk := { s.clk with steps := 0 } }.loseSync 9

/-! ### The length of the chain (R289) -/

/-- On the head, N takes a value: CHAIN_INFO where it changes, LEAD_RAISED anew after a training, a commit in progress
aborted (R97, R289, R307, R363). -/
def State.setChain (s : State) (n reason : Nat) (trained : Bool) : State :=
  let old := s.reg F.CHV_POS_N
  let asked := s.positions notAccepted
  let s := { s with chv := { s.chv with endReason := reason } }
  let s := s.setReg F.CHV_POS_N n
  let s := s.setReg F.CHV_SYNCMAP_V (s.reg F.CHV_SYNCMAP_V % 2 ^ n)
  let s := if old = n then s else (s.log 0x0808 [(1, n), (1, reason)]).commitChain asked
  let s := if trained then { s with thy := { s.thy with leadLogged := false } } else s
  let s := s.checkLead
  if trained then s.sendPacket 1 ⟨0x12, 1, 0, 31, [BitVec.ofNat 64 n]⟩ else s

/-- The module ends the chain for `reason` (R289): CHAIN_END goes west, or follows once the module has its position. -/
def State.endChain (s : State) (reason : Nat) : State :=
  let s := { s with chv := { s.chv with ownEnd := some reason } }.setFlag F.CHV_POS_END true
  let s := if reason = 0 ∨ reason = 2 then s.setPortState 1 5 else s
  if s.isHead then s.setChain 1 reason true
  else if s.posNow = 31 then s
  else s.toHead 0x11 [BitVec.ofNat 64 (s.posNow + 2 ^ 5 * reason)]

/-- A module is attached east of position 23 (R289): CHAIN_LONG, once. -/
def State.chainLong (s : State) : State :=
  if s.chv.longLogged then s else { s with chv := { s.chv with longLogged := true } }.log 0x080A []

/-- ENUM with this module's position goes east (R288). -/
def State.sendEnum (s : State) : State :=
  if s.posNow = 31 then s else s.sendPacket 1 ⟨0x10, 1, s.posNow, (s.posNow + 1) % 32, [BitVec.ofNat 64 s.posNow]⟩

/-! ### Failures (R317) -/

/-- Port `p` becomes FAILED for `cause` (R317, Table CHV-8). -/
def State.portFails (s : State) (p cause : Nat) : State :=
  let s := s.setPort p { s.port p with unechoed := [], ds := [], rtts := [], syncDue := false, retryDue := true }
  let s := ((s.setPortState p 4).setReg (F.CHV_PORT_STAT_LAST_FAIL p) cause).setFlag (F.CHV_PORT_STAT_FAILED p) true
  let s := (s.addReg (F.CHV_PORT_FAILS_V p) 1).log 0x0802 [(1, p), (1, cause)]
  if p = 0 then
    let s := { s with chv := { s.chv with syncGot := false, delayGot := false } }
    if s.isHead then s else s.loseSync cause
  else if s.isHead then s.setChain 1 s.chv.endReason false
  else s

/-- A cause of Table CHV-8 fails port `p` while it is UP. -/
def State.failUp (s : State) (p cause : Nat) : State := if s.portUp p then s.portFails p cause else s

/-- A failed port starts again at step 1 of training, or does so once its PLLs are locked (R287, R418). -/
def State.restartPort (s : State) (p : Nat) : State :=
  if s.mayTrain then (s.setPort p { s.port p with retryDue := false, lockDue := false }).setPortState p 1
  else s.setPort p { s.port p with retryDue := false, lockDue := true }

/-- Both ports power up once PLL-T has locked (R287). -/
def State.portsOn (s : State) : State :=
  [0, 1].foldl (fun (s : State) p =>
    if s.portTrains p && (s.portState p == 0 || (s.port p).lockDue) then s.restartPort p else s) s

/-- Both ports power down, without a failure (R431, R442); what the link had lost is lost. -/
def State.portsOff (s : State) : State :=
  let s := [0, 1].foldl (fun (s : State) p =>
    (s.setPort p { s.port p with unechoed := [], ds := [], rtts := [], syncDue := false, lockDue := false }).setPortState p 0) s
  let s := { s with chv := { s.chv with syncGot := false, delayGot := false } }
  if s.isHead then s.setChain 1 s.chv.endReason false else s

/-! ### Training commands (R287, R289, R317) -/

/-- SIGNAL_DETECT: training begins; an ABSENT port returns to DETECT, and at position 23 a signal on CE is a chain too
long (R287, R289). -/
def State.signalDetect (s : State) (p : Nat) : State :=
  if p = 1 ∧ s.posNow = 23 then s.chainLong
  else if !s.portTrains p || !s.mayTrain then s
  else if s.portState p = 1 then s.setPortState p 2
  else if s.portState p = 5 then s.setPortState p 1
  else s

def execSignalDetect (port : Nat) (s : State) : Res := .next (if port < 2 then s.signalDetect port else s)

/-- The port is UP with the padded round trip in 1/64 tick (R287, R288, R297, R299). -/
def State.portUps (s : State) (p rtt : Nat) (swap : Bool) (pol : Nat) : State :=
    let asym := if p = 1 then signedOf 8 (s.reg (F.CHV_PORT_ASYM_ASYM 1)) else 0
    let d := Int.ofNat (rtt / 2) + asym
    let s := (s.setPortState p 3).setFlag (F.CHV_PORT_STAT_LANE_SWAP p) swap
    let s := s.setReg (F.CHV_PORT_STAT_POL_INV p) pol
    let s := (s.setReg (F.CHV_PORT_DELAY_V p) (codeOf 32 d)).setReg (F.CHV_PORT_RTT_V p) rtt
    let s := s.setPort p {
      s.port p with
      trainFails := 0, retryDue := false, unechoed := [], ds := [], rtts := [], syncDue := p == 1 }
    let s := s.log 0x0801 [(1, p), (1, boolBit swap), (1, pol % 4), (4, codeOf 32 d)]
    if p = 0 then
      { s with chv := { s.chv with syncGot := false, delayGot := false, quality := [], phiRun := 0, fi := 0 } }
    else ({ s with chv := { s.chv with ownEnd := none } }.setFlag F.CHV_POS_END false).sendEnum

/-- TRAINING_TIMEOUT (R287, R289): training fails for `reason` of Table CHV-3. -/
def State.trainingFails (s : State) (p reason : Nat) : State :=
  if s.portState p ≠ 2 then s
  else
    let n := (s.port p).trainFails + 1
    let s := s.setPort p { s.port p with trainFails := n, retryDue := true }
    let s := (s.setPortState p 4).setReg (F.CHV_PORT_STAT_TRAIN_REASON p) reason
    let s := s.setFlag (F.CHV_PORT_STAT_FAILED p) true
    let s := (s.addReg (F.CHV_PORT_FAILS_V p) 1).log 0x0803 [(1, p), (1, reason)]
    if p = 1 ∧ n = 3 then s.endChain 1 else s

/-- The padded round trip: the receive pad puts half of it from 270 ticks up to, but not including, 271; where in
there is a free value (Table CHV-3, notes/assumptions/32.md). -/
def State.paddedTrip (s : State) : Nat × State :=
  let (free, s) := s.drawFree 7
  (2 * 270 * 64 + free, s)

/-- TRAINING_COMPLETE (R287): the round trip has been measured, unpadded, as `rtt` in 1/64 tick. The port is UP, or its
training fails with REACH where half the trip exceeds 270 ticks. -/
def State.trainingComplete (s : State) (p rtt : Nat) (swap : Bool) (pol : Nat) : State :=
  if s.portState p ≠ 2 ∨ s.mayTrain = false then s
  else if 2 * 270 * 64 < rtt then s.trainingFails p 3
  else
    let (trip, s) := s.paddedTrip
    s.portUps p trip swap pol

def execTrainingComplete (port rtt : Nat) (swap : Bool) (pol : Nat) (s : State) : Res :=
  .next (if port < 2 then s.trainingComplete port rtt swap pol else s)

def execTrainingTimeout (port reason : Nat) (s : State) : Res :=
  .next (if port < 2 then s.trainingFails port reason else s)

/-- RETRAIN_TIMER (R287, R317): a start that finds PLL-T or PLL-C gated is none, and the next comes 15,000,000 ticks
later (Table CLK-5). -/
def execRetrainTimer (port : Nat) (s : State) : Res :=
  .next (if port < 2 ∧ s.portState port = 4 ∧ (s.port port).retryDue = true ∧ s.flag F.CHV_CTL_AUTO_RETRAIN ∧
      s.mayTrain = true then
    s.restartPort port
  else s)

/-- A write of RETRAIN_CW or RETRAIN_CE: the port fails with cause 4 and trains at once; a failed port trains at once
(R317). -/
def State.retrain (s : State) (p : Nat) : State :=
  if !s.portTrains p || s.portState p == 0 then s
  else if s.portState p = 4 then s.restartPort p
  else (s.portFails p 4).restartPort p

def execRetrainCw (s : State) : Res := .next (s.hostAction 0xC0010 (fun s => s.retrain 0))

def execRetrainCe (s : State) : Res := .next (s.hostAction 0xC0010 (fun s => s.retrain 1))

/-- LOSS_OF_SIGNAL (R317, cause 1). -/
def execLossOfSignal (port : Nat) (s : State) : Res := .next (if port < 2 then s.failUp port 1 else s)

/-- LOSS_OF_BLOCK_LOCK (R317, cause 2). -/
def execLossOfBlockLock (port : Nat) (s : State) : Res := .next (if port < 2 then s.failUp port 2 else s)

/-- CE_NO_SIGNAL_TIMEOUT (R289, reason 0). -/
def execCeNoSignalTimeout (s : State) : Res :=
  .next (if !s.isHead && s.portUp 0 && s.portState 1 == 1 then s.endChain 0 else s)

/-- Phase 3 of boot begins once the image has been read and the position is known, or its wait is over (R292,
Table CFG-8). -/
def State.enterPhase3 (s : State) : State :=
  if s.reg F.CFG_BOOT_STAT_PHASE = 2 ∧ s.boot.halted = false ∧ s.boot.image.isSome ∧ (s.isHead ∨ s.posNow ≠ 31 ∨ s.boot.posWaited) then
    s.setReg F.CFG_BOOT_STAT_PHASE 3
  else s

/-- POSITION_TIMEOUT (R292): boot goes on with the position held, or 31. -/
def State.positionTimeout (s : State) : State := { s with boot := { s.boot with posWaited := true } }.enterPhase3

def execPositionTimeout (s : State) : Res := .next s.positionTimeout

/-- PACKET_DROPPED (R286, R304, Table CHV-7). -/
def execPacketDropped (port : Nat) (s : State) : Res := .next (if port < 2 then s.dropPacket port else s)

/-! ### Sprigs and echoes (R293 to R300) -/

/-- SPRIG_SEND (R293): a sprig leaves east in the first pair slot at or after PT, and with the first one after the
port came UP its SYNC (Table CHV-3). A slot comes every 6.1875 ticks, 396/64; where it stands to the ticks is a free
value. -/
def State.sprigSend (s : State) : State :=
  if s.portUp 1 && s.tclkRuns then
    let x := s.port 1
    let (free, s) := s.drawFree 9
    let tx := s.pt.toNat * 64 + free % 396
    let s := s.emit (.sprig x.sprigId (tx % 2 ^ 42) (!s.isSynced))
    let s := s.setPort 1 {
      x with
      sprigId := (x.sprigId + 1) % 16, unechoed := x.unechoed ++ [(x.sprigId, tx)], syncDue := false }
    if x.syncDue then
      s.sendPacket 1 ⟨4, 0, s.posNow, (s.posNow + 1) % 32,
        [BitVec.ofNat 64 (x.sprigId + 2 ^ 8 * (tx % 64)), BitVec.ofNat 64 (tx / 64)]⟩
    else s
  else s

def execSprigSend (s : State) : Res := .next s.sprigSend

/-- The 56-bit content of a control block of type `ty` whose CRC is correct (Tables CHV-2, CHV-4, CHV-5). -/
def blockContent (ty : Nat) (w : Word64) : Option Nat :=
  let n := w.toNat
  let c := n / 256
  if n % 256 = ty ∧ crc8 (leBytes 6 (c % 2 ^ 48)) = BitVec.ofNat 8 (c / 2 ^ 48) then some c else none

/-- The content of the first lane's block that is correct (R294). -/
def pairContent (ty : Nat) (lane0 lane1 : Word64) : Option Nat :=
  match blockContent ty lane0 with
  | some c => some c
  | none => blockContent ty lane1

/-- A block of a type outside Table CHV-2 is counted, once for each lane that carries one, and ignored (R286). -/
def State.countBlocks (s : State) (p : Nat) (lane0 lane1 : Word64) : State :=
  let known (w : Word64) : Bool := [0x1E, 0x2D, 0x33, 0x4B, 0x55, 0x66].contains (w.toNat % 256)
  let n := boolBit (!known lane0) + boolBit (!known lane1)
  if n = 0 then s else s.addReg (F.CHV_PORT_CRC_ERRS_V p) n

/-- The number congruent to `n` modulo `2^k` that lies nearest to `near`. -/
def nearest (k : Nat) (n near : Int) : Int :=
  let m := Int.ofNat (2 ^ k)
  let r := (n - near) % m
  if m ≤ 2 * r then near + r - m else near + r

/-- TX_PT of a sprig rebuilt in 1/64 tick (R294): nearest to the module's own PT, or to the sender's as SYNC and the
sprigs after it have given it and as it has gone on since, where the two differ by more than 2^34 ticks. -/
def State.rebuildTx (s : State) (tx42 rx : Nat) : Int :=
  let sync := s.chv.syncPt + (Int.ofNat rx - s.chv.syncAt)
  let far := s.chv.syncGot && decide ((2 : Int) ^ 40 < Int.ofNat (Int.natAbs (sync - Int.ofNat rx)))
  nearest 42 (Int.ofNat tx42) (if far then sync else Int.ofNat rx)

/-- The phase loop (R299), handing its request to the queue (R415). -/
def State.phaseLoop (s : State) (phi : Int) : State :=
  let fi := s.chv.fi + phi
  let n := clampInt (-255) 255 (phi + shiftDown fi 6)
  let s := { s with chv := { s.chv with fi := fi } }
  if s.tclkRuns then
    { s with clk := { s.clk with steps := n } }.addReg F.CLK_TSTEPS_DROP_V s.clk.steps.natAbs
  else s

/-- The whole-tick offset Δ acts on PT: a slew that replaces the one in progress, or a step once the module has stopped
(R57). -/
def State.correctPt (s : State) (delta : Int) : State :=
  if delta.natAbs ≤ 64 then
    { s with ptc := { s.ptc with slewLeft := delta, slewPhase := if s.ptc.slewLeft = 0 then 0 else s.ptc.slewPhase },
             chv := { s.chv with stepDue := none } }
  else
    { s with ptc := { s.ptc with slewLeft := 0 }, chv := { s.chv with stepDue := some delta } }.loseSync 7

/-- The offset of an accepted sprig is used (R298 to R300). -/
def State.useOffset (s : State) (e : Int) (hold : Bool) : State :=
  let delta := (e + 32).fdiv 64
  let phi := e - 64 * delta
  let good := !hold && delta == 0 && decide (phi.natAbs ≤ 4)
  let run := if 16 < phi.natAbs then s.chv.phiRun + 1 else 0
  let s := { s with chv := { s.chv with quality := (good :: s.chv.quality).take 8, phiRun := run } }
  let s := (s.setReg F.CHV_SYNC_PHI (codeOf 8 phi)).setReg F.CHV_SYNC_DELTA (codeOf 16 (clampInt (-32767) 32767 delta))
  let s := if hold then s.loseSync 6 else s
  let s := s.correctPt delta
  let s := if 4 ≤ run then s.loseSync 8 else s
  let s := s.phaseLoop phi
  let s := if s.syncHolds then s.gainSync else s
  s.reportSync false

/-- SPRIG (R294, R295, R298 to R300, R307): `rx` is its timestamp in 1/64 tick. The turnaround of the echo is a free
value within 96 ticks. -/
def State.sprigReceived (s : State) (lane0 lane1 : Word64) (rx : Nat) : State :=
  if !s.hearsWest || s.isHead then s
  else
    let s := s.countBlocks 0 lane0 lane1
    match pairContent 0x2D lane0 lane1 with
    | none => s
    | some c =>
      let hold := bitAt c 46
      let s := s.setFlag F.CHV_SYNC_HOLD_RX hold
      let (turn, s) := s.drawFree 13
      let s := s.emit (.echo (bitsAt c 42 4) (turn % 6145) s.posNow)
      let n := (s.chv.sprigs + 1) % 65536
      let s := { s with chv := { s.chv with sprigs := n } }
      let s := if n = 0 then s.reportSync true else s
      let tx := s.rebuildTx (c % 2 ^ 42) rx
      let s := if s.chv.syncGot then { s with chv := { s.chv with syncPt := tx, syncAt := Int.ofNat rx } } else s
      if s.chv.syncGot && s.chv.delayGot then
        s.useOffset (tx + s.chv.d - Int.ofNat rx) hold
      else if hold then s.loseSync 6
      else s

def execSprig (lane0 lane1 : Word64) (rx : Nat) (s : State) : Res := .next (s.sprigReceived lane0 lane1 rx)

/-- The mean of integers, rounded down. -/
def meanInt (l : List Int) : Int := if l = [] then 0 else (sumInt l).fdiv (Int.ofNat l.length)

/-- ECHO (R297): a one-way delay; after every 16 of them DELAY goes east. -/
def State.echoReceived (s : State) (lane0 lane1 : Word64) (rx : Nat) : State :=
  if !s.portUp 1 then s
  else
    let s := s.countBlocks 1 lane0 lane1
    match pairContent 0x33 lane0 lane1 with
    | none => s
    | some c =>
      let id := bitsAt c 0 4
      let x := s.port 1
      match x.unechoed.find? (fun e => e.1 == id) with
      | none => s
      | some (_, tx) =>
        let rtt := Int.ofNat rx - Int.ofNat tx - Int.ofNat (bitsAt c 4 17)
        let d := rtt.fdiv 2 + signedOf 8 (s.reg (F.CHV_PORT_ASYM_ASYM 1))
        let ds := x.ds ++ [d]
        let rtts := x.rtts ++ [(rtt % 2 ^ 32).toNat]
        let left := x.unechoed.filter (fun e => e.1 != id)
        if ds.length < 16 then s.setPort 1 { x with unechoed := left, ds := ds, rtts := rtts }
        else
          let s := s.setPort 1 { x with unechoed := left, ds := [], rtts := [] }
          let m := codeOf 32 (meanInt ds)
          let s := (s.setReg (F.CHV_PORT_DELAY_V 1) m).setReg (F.CHV_PORT_RTT_V 1) (meanDown rtts)
          s.sendPacket 1 ⟨5, 0, s.posNow, (s.posNow + 1) % 32, [BitVec.ofNat 64 (m + 2 ^ 32 * id)]⟩

def execEcho (lane0 lane1 : Word64) (rx : Nat) (s : State) : Res := .next (s.echoReceived lane0 lane1 rx)

/-- ECHO_DEADLINE (R296, cause 3). -/
def State.echoDeadline (s : State) (id : Nat) : State :=
  if s.portUp 1 && (s.port 1).unechoed.any (fun e => e.1 == id) then
    (s.addReg (F.CHV_PORT_ECHO_MISS_V 1) 1).portFails 1 3
  else s

def execEchoDeadline (id : Nat) (s : State) : Res := .next (s.echoDeadline id)

/-- SPRIG_TIMEOUT (R300, cause 5). -/
def execSprigTimeout (s : State) : Res := .next (if s.isHead then s else s.loseSync 5)

/-- TCLK_PHASE_STEP (R414, R415): the oldest queued step moves the next TCLK edge. -/
def State.phaseStep (s : State) : State :=
  if !s.tclkRuns || s.isHead || s.clk.steps == 0 then s
  else if 0 < s.clk.steps then
    ({ s with clk := { s.clk with steps := s.clk.steps - 1 } }.addReg F.CLK_TPHASE_PHASE 1).addReg F.CLK_TSTEPS_UP_V 1
  else
    ({ s with clk := { s.clk with steps := s.clk.steps + 1 } }.addReg F.CLK_TPHASE_PHASE 63).addReg F.CLK_TSTEPS_DN_V 1

def execTclkPhaseStep (s : State) : Res := .next s.phaseStep

/-! ### Chain packets (Table CHV-7) -/

/-- SYNC (R294, R300). -/
def execSync (w0 w1 : Word64) (s : State) : Res :=
  .next (if s.hearsWest then
    { s with chv := { s.chv with
      syncGot := true, syncPt := Int.ofNat (w1.toNat * 64 + bitsAt w0.toNat 8 6), syncAt := Int.ofNat (64 * s.pt.toNat) } }
  else s)

/-- DELAY (R298, R300). -/
def execDelay (w : Word64) (s : State) : Res :=
  .next (if s.hearsWest then { s with chv := { s.chv with delayGot := true, d := signedOf 32 w.toNat } } else s)

/-- CONFLICT leaves west for the sender of an ENUM, whatever the state of CW (R290). -/
def State.sendConflict (s : State) (dst : Nat) : State :=
  let k : Packet := ⟨0x13, 1, s.posNow, dst, [0]⟩
  (s.emit (.packet 0 0 k)).emit (.packet 0 1 k)

/-- ENUM (R288 to R291): a head answers with CONFLICT; any other module takes its position, keeps it, and passes ENUM
on; the end of the chain reports itself, with reason 0 while its CE port is ABSENT. -/
def State.enumReceived (s : State) (w : Word64) : State :=
  if s.chv.cwIgnored then s
  else if s.isHead then
    let s := s.sendConflict (bitsAt w.toNat 0 5)
    ({ s with chv := { s.chv with cwIgnored := true } }.setFlag F.CHV_POS_HEAD_CONFLICT true).log 0x0809 []
  else if !s.portUp 0 then s
  else
    let pos := (bitsAt w.toNat 0 5 + 1) % 32
    if s.posNow ≠ 31 ∧ s.posNow ≠ pos then
      let s := { s with chv := { s.chv with posBad := true } }.setFlag F.CHV_POS_POS_CONFLICT true
      ((s.setSynced false).log 0x080B []).unsyncArmed.reportSync false
    else
      let s := (s.setReg F.CHV_POS_POS pos).enterPhase3
      if pos = 23 then (if s.portState 1 = 2 ∨ s.portState 1 = 3 then s.chainLong else s).endChain 2
      else match s.chv.ownEnd with
        | some 0 => if s.portState 1 = 5 then s.endChain 0 else s
        | some reason => s.endChain reason
        | none => s.sendEnum

def execEnum (w : Word64) (s : State) : Res := .next (s.enumReceived w)

/-- CHAIN_END (R97, R289). -/
def State.chainEnd (s : State) (w : Word64) : State :=
  let pos := bitsAt w.toNat 0 5
  if !s.portUp 1 then s
  else if s.isHead then s.setChain (pos + 1) (bitsAt w.toNat 5 3) true
  else s.relayWest 0x11 pos [w]

def execChainEnd (w : Word64) (s : State) : Res := .next (s.chainEnd w)

/-- CHAIN_INFO (R289). -/
def execChainInfo (w : Word64) (s : State) : Res :=
  .next (if s.hearsWest then (s.sendEast 0x12 1 [w]).setReg F.CHV_POS_N (bitsAt w.toNat 0 5) else s)

/-- CONFLICT (R289, reason 3). -/
def execConflict (s : State) : Res := .next (if s.portUp 1 then s.endChain 3 else s)

/-- DIGEST (R316). -/
def State.digestReceived (s : State) (w0 w1 : Word64) : State :=
  let sn := bitsAt w0.toNat 0 32
  let pos := bitsAt w0.toNat 32 5
  if !s.portUp 1 then s
  else if s.isHead then
    { s with chv := { s.chv with digests := Assoc.insert s.chv.digests (sn * 32 + pos) w1.toNat } }
  else s.relayWest 0x14 pos [w0, w1]

def execDigest (w0 w1 : Word64) (s : State) : Res := .next (s.digestReceived w0 w1)

/-- SYNC_STATE (R307). -/
def State.syncStateReceived (s : State) (w : Word64) : State :=
  let pos := bitsAt w.toNat 0 5
  if !s.portUp 1 then s
  else if s.isHead then
    if pos < s.reg F.CHV_POS_N then
      s.setReg F.CHV_SYNCMAP_V (withBit (s.reg F.CHV_SYNCMAP_V) pos (bitAt w.toNat 8))
    else s
  else s.relayWest 0x15 pos [w]

def execSyncState (w : Word64) (s : State) : Res := .next (s.syncStateReceived w)

end Sys2Proof.Machine
end

