-- ==== Sys2Proof/Machine/Power.lean ====
section
/-! DEFINITION. The main reset, the MRAM log, the stop of TCLK, PLL relocks and the first boot phases, which the clock,
boot, power and Bay commands share (11_configuration_boot_and_security.md R373, 13_clocks_and_plls.md R410 to R420,
14_housekeeping_thermal_and_power.md R434 to R443, 15_bay_backup_domain.md R451 to R453). -/

namespace Sys2Proof.Machine

/-! ### The charger's state machine (R456 to R463) -/

/-- The charger takes state `st` (Table BAY-3). -/
def State.setCharger (s : State) (st : Nat) : State :=
  let old := s.reg F.BAY_CHG_STAT_STATE
  let s := { s with bay := { s.bay with ticks := 0, preGood := 0, holdGood := 0, dv := 0, temps := [] } }
  let s := s.setReg F.BAY_CHG_STAT_STATE st
  if old = st then s else s.log 0x0E01 [(1, old), (1, st)]

/-- No current flows, no limit of R460 is in force, and a limited spell ends. -/
def State.noCurrent (s : State) : State :=
  let s := { s with bay := { s.bay with limitLogged := false } }
  (((s.setReg F.BAY_CHG_STAT_CURRENT 0).setFlag F.BAY_CHG_STAT_LIMIT_VIN false).setFlag F.BAY_CHG_STAT_LIMIT_HEAT
    false)

/-- TEMP_HOLD is over; a fault code stays (R458, R463). -/
def State.endTempHold (s : State) : State := { s with bay := { s.bay with hold := false } }

/-- QUALIFY: the safety timer restarts (R457, R461). -/
def State.qualify (s : State) : State :=
  let s := { s with bay := { s.bay with half := false } }
  (s.endTempHold.noCurrent.setCharger 1).setReg F.BAY_CHG_ELAPSED_V 0

/-- The charger is OFF (R456). -/
def State.chargerStop (s : State) : State :=
  let s := { s with bay := { s.bay with
    runs := false, cellSum := (0, 0), ntcSum := (0, 0), vauxSum := (0, 0), lastCell := none, present := 0,
    removed := false } }
  s.endTempHold.noCurrent.setCharger 0

/-- The lamp's pattern (Table BAY-4): TEMP_HOLD shows as a fault. -/
def State.lamp (s : State) : Nat :=
  if s.flag F.BAY_CHG_CTL_LAMP_OFF then 0
  else if s.bay.hold then 4
  else
    match s.reg F.BAY_CHG_STAT_STATE with
    | 0 => 0
    | 1 => 2
    | 2 => 2
    | 3 => 2
    | 4 => 3
    | 5 => 1
    | _ => 4

/-- CHG_STAT is low, which lights the lamp: the pattern in LFCLK cycles since it began (R465, Table BAY-4). -/
def State.chgStatLow (s : State) : Bool :=
  let n := if s.bay.lampWas = s.lamp then s.bay.lampPhase else 0
  match s.lamp with
  | 0 => false
  | 1 => true
  | 2 => decide (n % 32768 < 16384)
  | 3 => decide (n % 8192 < 4096)
  | _ => decide (n < 4096) || (decide (8192 ≤ n) && decide (n < 12288))

/-- The charger runs or is OFF, as R456 says. -/
def State.chargerGate (s : State) : State :=
  let want := s.boot.supply == .run && s.flag F.BAY_CHG_CTL_EN && !s.flag F.BAY_STAT_RAIL_SRC
  if want == s.bay.runs then s
  else if want then { s with bay := { s.bay with runs := true } }.qualify
  else s.chargerStop

/-! ### The main domains in reset (R439, R440, R442, R451, R474) -/

/-- The address of a cell lies in `lo … hi − 1`. -/
def cellIn (lo hi : Nat) (x : Nat × Nat) : Bool := decide (lo * 8 ≤ x.1) && decide (x.1 < hi * 8)

/-- Cells that a reset of the main domains leaves: the BAY block (R451); what MRAM keeps: key slots, rollback counter,
boot count, identity, shutdown count, log state and BROWNOUT (R378, R379, R383, R434, R446); and the sampled straps
(R475). The hash of an EMPTY slot is not in MRAM. -/
def State.keptCell (s : State) (x : Nat × Nat) : Bool :=
  cellIn 0x120000 0x130000 x || cellIn 0xE0040 0xE0044 x || cellIn 0xF0010 0xF0014 x || cellIn 0xF0300 0xF0330 x ||
    cellIn 0x110304 0x110308 x || cellIn 0x110500 0x110504 x ||
    [F.HKP_PWR_BROWNOUT, F.SEC_STAT_OWNED, F.CHV_POS_HEAD, F.PTC_PT_CTL_HEAD, F.TWI_STAT_ADDR].any (fun f => f.key == x.1) ||
    (List.range 4).any (fun k => x.1 == (F.SEC_SLOT_CTL_STATE k).key ||
      (s.flag (F.SEC_SLOT_CTL_STATE k) && cellIn (0xF0120 + 0x40 * k) (0xF0140 + 0x40 * k) x))

/-- Every main rail is off: the JTAG port with them (R474). -/
def State.railsDown (s : State) : State :=
  { s with bay := { s.bay with railsGood := false, railsOff := 15 }, jtag := Jtag.reset }

/-- Main rail `rail` has fallen below its warning level, and is off where it reads 0 mV (R439, R474,
notes/assumptions/67.md). -/
def State.railLow (s : State) (rail mv : Nat) : State :=
  let off := if mv = 0 then withBit s.bay.railsOff rail true else s.bay.railsOff
  if off = 15 then s.railsDown else { s with bay := { s.bay with railsGood := false, railsOff := off } }

/-- The main domains are held in reset under `supply`: what the Bay island and MRAM keep stays, with store DRAM, and
press time goes on from LFCLK where they sleep, with LF (R80, R442, R443, R447, R451). A charger that stops so logs its
change with the next boot (R467). -/
def State.mainReset (s : State) (supply : Supply) : State :=
  let z := State.reset
  let st := s.reg F.BAY_CHG_STAT_STATE
  let s := { s with bay := { s.bay with chgDue := if st = 0 then s.bay.chgDue else some st } }.chargerStop
  let sleeps := supply == .sleep || supply == .bay true
  let lf := F.PTC_PT_CTL_LF.key
  { z with
    pending := s.pending, outbox := s.outbox, freeCtr := s.freeCtr, regs := s.regs.filter (fun x => s.keptCell x || (sleeps && x.1 == lf)),
    mem := s.mem.filter (fun c => decide (dramBase ≤ c.1) && decide (c.1 < dramBase + 0x8000000)),
    boot := { z.boot with supply := supply, resetN := s.boot.resetN }, bay := s.bay, jtag := s.jtag,
    hkp := { z.hkp with log := s.hkp.log, brownouts := s.hkp.brownouts },
    arr := { z.arr with kills := if sleeps then 0 else 4 },
    pt := if sleeps then s.pt else 0,
    ptc := { z.ptc with lfAcc := if sleeps then s.ptc.lfAcc else 0, pos := if sleeps then s.ptc.pos else 0 },
    clk := { z.clk with ptMode := if sleeps then .lf else .off, lfLost := s.clk.lfLost } }

/-! ### The MRAM log (R434, R435, Table HKP-4) -/

/-- The largest sensor-stack reading that is valid, or that was last valid where none is now (R429). -/
def State.stackReading (s : State) : Nat :=
  let ts := List.range 8
  let valid := ts.filter (fun k => s.flag (F.HKP_CH_VALID k))
  let use := if valid = [] then ts else valid
  let m := use.foldl (fun (m : Option Int) k =>
    let v := signedOf 16 (s.reg (F.HKP_CH_VALUE k))
    match m with
    | none => some v
    | some x => some (if x < v then v else x)) none
  codeOf 16 (m.getD 0)

/-- KIND of a log record, and whether it is acknowledged. -/
def recKind (b : List Byte) : Nat := leAt b 0 2
def recAcked (b : List Byte) : Bool := bitAt (leAt b 2 1) 0

/-- The 64 bytes at record `i` of the log. -/
def State.logBytes (s : State) (i : Nat) : List Byte := (Assoc.find s.hkp.log i).getD (List.replicate 64 0)

/-- The CRC of a record fits its bytes 0 to 59, byte 2 taken as 0 (Table HKP-4). -/
def recSound (b : List Byte) : Bool := leAt b 60 4 == (crc32 (setAt (b.take 60) 2 0)).toNat

/-- Record `i` of the log; an empty one has KIND 0, and one whose CRC fails counts as empty (R434). -/
def State.logRecord (s : State) (i : Nat) : List Byte :=
  match Assoc.find s.hkp.log i with
  | none => List.replicate 64 0
  | some b => if recSound b then b else List.replicate 64 0

/-- A record exists and is not acknowledged. -/
def recOpen (b : List Byte) : Bool := recKind b != 0 && !recAcked b

/-- Records not acknowledged, oldest first: from NEXT around the ring (R434, R437). -/
def State.openRecords (s : State) : List Nat :=
  let next := s.reg F.HKP_LOG_STAT_NEXT
  ((List.range 64).map (fun k => (next + k) % 64)).filter (fun i => recOpen (s.logRecord i))

/-- A record of the log for press time `at_`, without its CRC. -/
def State.recordBody (s : State) (at_ : PressTime) (kind count channel dies reading limit : Nat) : List Byte :=
  leBytes 2 kind ++ leBytes 1 0 ++ leBytes 1 s.posNow ++ leBytes 8 at_.toNat ++ leBytes 4 count ++
    leBytes 1 channel ++ leBytes 1 dies ++ leBytes 2 reading ++ leBytes 2 limit ++ leBytes 2 0 ++
    leBytes 4 (s.reg F.HKP_ROUND_V) ++ leBytes 4 (s.reg F.CFG_BOOT_COUNT_V) ++ leBytes 2 s.stackReading ++
    leBytes 2 (s.reg (F.HKP_CH_VALUE 8)) ++ leBytes 2 (s.reg (F.HKP_CH_VALUE 9)) ++
    leBytes 2 (s.reg (F.HKP_CH_VALUE 10)) ++ leBytes 20 0

/-- A record for press time `at_` is written at NEXT; LOG_OVF where it takes the place of one not acknowledged (R434).
-/
def State.logWrite (s : State) (at_ : PressTime) (kind count channel dies reading limit : Nat) : State :=
  let i := s.reg F.HKP_LOG_STAT_NEXT
  let b := s.recordBody at_ kind count channel dies reading limit
  let wasOpen := recOpen (s.logRecord i)
  let s := { s with hkp := { s.hkp with log := Assoc.insert s.hkp.log i (b ++ leBytes 4 (crc32 b).toNat) } }
  let s := s.setReg F.HKP_LOG_STAT_NEXT ((i + 1) % 64)
  if wasOpen then
    (s.setReg F.HKP_LOG_STAT_OVF (min 65535 (s.reg F.HKP_LOG_STAT_OVF + 1))).log 0x0D09 [(2, i)]
  else s

/-! ### TCLK stops (R34, R80, R148, R175, R418 to R420) -/

/-- Every EVT pin held at its inactive level, or released (R175). -/
def State.evtHold (s : State) (b : Bool) : State :=
  { s with lfl := { s.lfl with pins := s.lfl.pins.map (fun p => { p with inactive := b }) } }

/-- Lines launched whose conversion frame is not complete. -/
def State.inFlight (s : State) : List LineNo :=
  s.thy.running.map (fun r => r.ln) ++ s.arr.unconverted.toList.map (fun l => l.ln) ++ s.arr.frames.map (fun f => f.ln)

/-- Lines in flight are lost: each becomes a placeholder with reason UNSYNC where `records` (R420), or produces no
record (Table HKP-3). -/
def State.dropInFlight (s : State) (records : Bool) : State :=
  let lns := s.inFlight
  let hit (l : LineNo) : Bool := lns.contains l
  let lines := if records then
      s.lines.map (fun (i : LineInfo) => if i.launched && hit i.ln then { i with launched := false, reason := 2 } else i)
    else s.lines.filter (fun i => !(i.launched && hit i.ln))
  { s with
    lines := lines, thy := { s.thy with running := [] }, cal := { s.cal with visit := none },
    arr := { s.arr with
      unconverted := none, frames := [], hold := none,
      prevFrame := if s.arr.prevFrame.any hit then none else s.arr.prevFrame },
    cnv := { s.cnv with
      out := s.cnv.out.map (fun l => l.filter (fun x => !hit x.ln)),
      stages := s.cnv.stages.map (fun l => l.filter (fun x => !hit x.ln)) } }

/-- TCLK no longer runs: kill cause `c`, EVT pins inactive, a full test aborted, lines in flight lost, the photodiodes
held, and synchronisation gone (Table CLK-4). -/
def State.tclkStops (s : State) (c : Nat) (records : Bool) : State :=
  let s := (s.killStrobes c true).evtHold true
  (s.abortTest.dropInFlight records).holdPixels.tclkChanged

/-- Press time leaves the ticks for HKCLK as PLL-T is gated (R419). -/
def State.ptToHk (s : State) : State :=
  match s.clk.ptMode with
  | .ticks => { s with clk := { s.clk with ptMode := .hk } }
  | .lfEnter => { s with clk := { s.clk with ptMode := .hk } }
  | _ => s

/-! ### PLLs (R410, R411, R418) -/

/-- A lock of PLL `x` starts, unless the reference is lost: it then waits for REFERENCE_GOOD (R411, R416). -/
def State.startLock (s : State) (x : Nat) : State :=
  if s.clk.refLost then s
  else { s with clk := { s.clk with locking := withBit s.clk.locking x true } }.setFlag (F.CLK_PLL_STAT_SEARCHING x) true

/-- The outputs of PLL `x` are gated and its lock is given up. -/
def State.gatePll (s : State) (x : Nat) : State :=
  let s := { s with clk := { s.clk with locking := withBit s.clk.locking x false } }
  ((s.setFlag (F.CLK_PLL_STAT_LOCKED x) false).setFlag (F.CLK_PLL_STAT_SEARCHING x) false).setFlag
    (F.CLK_PLL_STAT_GATED x) true

/-- PLL-B is gated: no line crosses the bridge, and the streams are lost; HCLK runs, and what is in the hub goes on
(R418). -/
def State.bridgeGone (s : State) : State := { s with dma := { s.dma with hub := true } }.streamsLost 4

/-- PLL-H is gated: the hub stands, and loses the records that wait too (R418). -/
def State.hubGone (s : State) : State := s.bridgeGone.dropWaiting

/-- What the gate of PLL `x` does, row by row (Table CLK-4). -/
def State.pllGone (s : State) (x : Nat) : State :=
  match x with
  | 0 => s.ptToHk.tclkStops 1 true
  | 1 => s.hubGone
  | 2 => s.bridgeGone
  | 3 => s.linkLoss true
  | _ => [0, 1].foldl (fun (s : State) p =>
      if s.portState p = 0 ∨ s.portState p = 4 then s else s.portFails p 2) s

/-! ### Boot phases 0 and 1 (R193, R198, R373, R437, R467) -/

/-- The set checks of phase 1: every slot in ascending order from none enabled, also where a boot begins its phase 1
anew (R436), without an event, and then a rebuild (R193, R198). -/
def State.bootSets (s : State) : State :=
  let s := (s.setReg F.CAL_SETS_EN 0).setReg F.CAL_SETS_VALID 0
  ((List.range 8).foldl (fun (s : State) k => s.checkSlot false k) s).triggerRebuild

/-- A read of the image begins anew, with its counts (R373, R404, R406). -/
def State.bootRead (s : State) (r : BootRead) : State :=
  let s := { s with boot := { s.boot with image := none, got := [], read := r, backoff := false, since := s.pt } }
  ((s.setFlag F.TWI_BOOT_STAT_DONE false).setReg F.TWI_BOOT_STAT_ARB_LOST 0).setReg F.TWI_BOOT_LISTENED_V 0

/-- Phase 1, and phase 2 with it: the Chive ports train, the slots are checked, and the read of the image begins
(Table CFG-8, R287). -/
def State.phase1 (s : State) : State :=
  let s := (s.setReg F.CFG_BOOT_STAT_PHASE 1).bootSets
  let s := if s.gated 0 || s.gated 4 then s else s.portsOn
  let s := (s.bootRead .probe1).setReg F.TWI_BOOT_STAT_MODE 0
  { s with boot := { s.boot with probes := 0, posWaited := false } }.setReg F.CFG_BOOT_STAT_PHASE 2

/-- What the module logs at the end of phase 0: log records not acknowledged (R437), and what happened while the main
domains were in reset (R467); a wake leaves the encoder position stale (R83). -/
def State.logPhase0 (s : State) : State :=
  let s := s.openRecords.foldl (fun (s : State) i =>
    s.log 0x0D08 [(2, i), (1, recKind (s.logRecord i)), (8, leAt (s.logRecord i) 4 8)]) s
  let b := s.bay
  let s := match b.chgDue with
    | some old => s.log 0x0E01 [(1, old), (1, 0)]
    | none => s
  let s := match b.wakeDue with
    | some x => s.log 0x0E08 [(1, x)]
    | none => s
  let s := if b.lfDue then s.log 0x0E09 [(4, s.reg F.BAY_RC_EDGES_V)] else s
  let s := if b.cellDue then s.log 0x0E06 [(4, s.reg F.BAY_CELL_TIME_V)] else s
  let s := if b.coldDue then s.log 0x0E07 [] else s
  let s := { s with bay := { s.bay with chgDue := none, wakeDue := none, lfDue := false, cellDue := false, coldDue := false } }
  if s.boot.woke then (s.setFlag F.PTC_ENC_STAT_POS_STALE true).log 0x0188 [(6, s.ptc.pos.toNat)] else s

/-- PLL-T runs: phase 0 ends unless the dies must cool first (R437); a boot that a shutdown halted resumes at phase 1
(R436). -/
def State.bootOn (s : State) : State :=
  if s.gated 0 || s.hkp.coolWait || s.boot.halted || s.thermDown then s
  else if s.reg F.CFG_BOOT_STAT_PHASE = 0 then s.logPhase0.phase1
  else if s.reg F.CFG_BOOT_STAT_PHASE = 1 then s.phase1
  else s

/-- Boot begins: phase 0, with every PLL locking (R373, R411, R437, R443, R439); the head has position 0 and a chain
of one (R288, R289). -/
def State.beginBoot (s : State) : State :=
  let woke := s.boot.supply == .sleep
  let s := { s with
    boot := { s.boot with supply := .run, woke := woke },
    bay := { s.bay with wake := none, rc := false, moved := false, railsFell := false },
    hkp := { s.hkp with coolWait := (List.range 64).any (fun i => recOpen (s.logRecord i) && recKind (s.logRecord i) == 1) } }
  let s := (s.addReg F.CFG_BOOT_COUNT_V 1).setFlag F.HKP_PWR_WOKE woke
  let s := if s.isHead then (s.setReg F.CHV_POS_POS 0).setReg F.CHV_POS_N 1 else s
  ((List.range 5).foldl State.startLock (s.unkill 3)).chargerGate

/-- Without VAUX, RESET and SLEEP are BAY (Table HKP-6); the main rails are then off, since VAUX must be on while any of
them is (R439). -/
def State.baySettle (s : State) : State :=
  let bay (from_ : Bool) : State :=
    { s with
      boot := { s.boot with supply := .bay from_ },
      bay := { s.bay with railsFell := true } }.railsDown.setFlag F.BAY_STAT_WAS_BAY true
  if s.bay.vaux then s
  else
    match s.boot.supply with
    | .reset => bay false
    | .sleep => bay true
    | _ => s

/-- The supervisor releases the main domains where R439 holds: from RESET, or from SLEEP with a wake (R443). -/
def State.supervise (s : State) : State :=
  if s.boot.resetN && s.bay.railsGood
      && (s.boot.supply == .reset || (s.boot.supply == .sleep && s.bay.wake.isSome)) then s.beginBoot
  else s

/-- The level of RAIL_REQ; none is undriven (R452). -/
def State.railReq (s : State) : Option Bool :=
  match s.boot.supply with
  | .reset => some true
  | .run => some true
  | .sleep => some (s.flag F.BAY_WAKE_CTL_KEEP_RAILS || s.bay.wake.isSome)
  | .bay _ => none
  | .off => none

/-- A wake is requested for `source` (R453), or held in BAY (R454). -/
def State.requestWake (s : State) (source : Nat) : State :=
  match s.boot.supply with
  | .sleep =>
    if s.bay.wake.isSome then s
    else
      ({ s with bay := { s.bay with wake := some source, wakeDue := some source } }.setReg F.BAY_STAT_WAKE_SRC
        source).supervise
  | .bay _ => if s.bay.held.isSome then s else { s with bay := { s.bay with held := some source } }
  | _ => s

end Sys2Proof.Machine
end

