-- ==== Sys2Proof/Machine/Clocks.lean ====
section
/-! DEFINITION. Clocks: LFCLK edges, debug halt, the PLLs, the reference and its monitors
(13_clocks_and_plls.md, 02_press_time_and_counters.md R80 to R83). -/

namespace Sys2Proof.Machine

/-! ### LFCLK (R80 to R82, R419, R422, R442, R455, R468) -/

/-- A Bay-rail second on the cell passes with every 32,768 LFCLK cycles (R468). -/
def State.cellCycle (s : State) : State :=
  if s.flag F.BAY_STAT_RAIL_SRC then
    if s.bay.cellLf + 1 = 32768 then
      { s with bay := { s.bay with cellLf := 0 } }.setReg F.BAY_CELL_TIME_V (min 0xFFFFFFFF (s.reg F.BAY_CELL_TIME_V + 1))
    else { s with bay := { s.bay with cellLf := s.bay.cellLf + 1 } }
  else s

/-- An edge of the Bay RC is counted while it stands in for LFCLK in SLEEP (R455). -/
def State.rcCycle (s : State) : State :=
  if s.bay.rc then s.setReg F.BAY_RC_EDGES_V (min 0xFFFFFFFF (s.reg F.BAY_RC_EDGES_V + 1)) else s

/-- The lamp's pattern goes on by an LFCLK cycle, or begins anew where it has changed (R465). -/
def State.lampCycle (s : State) : State :=
  { s with bay := { s.bay with
    lampWas := s.lamp, lampPhase := if s.bay.lampWas = s.lamp then (s.bay.lampPhase + 1) % 65536 else 0 } }

/-- SLEEP entry, step 6: press time has left the ticks, and the main domains go into reset (R442). -/
def State.enterSleep (s : State) : State :=
  if s.hkp.sleeping = true ∧ s.clk.ptMode = .lf then
    let s := s.mainReset .sleep
    let s := if s.flag F.BAY_WAKE_CTL_KEEP_RAILS then s else s.railsDown
    { s with bay := { s.bay with railsFell := false, wake := none, held := none } }.baySettle
  else s

/-- LFCLK_EDGE: a rising edge of LFCLK, or of the Bay RC while LFCLK is lost; where LFCLK is lost under a gated TCLK,
the HKCLK advance goes on in its place (R80, R419, R455). -/
def State.lfclkEdge (s : State) : State :=
  let s := s.cellCycle.rcCycle.lampCycle
  if s.clk.ptMode = .hk ∧ s.clk.lfLost then s else s.lfEdge.enterSleep

def execLfclkEdge (s : State) : Res := .next s.lfclkEdge

/-- HKCLK_PT_ADVANCE (R419): the fourth HKCLK edge since the gate or the last advance. -/
def execHkclkPtAdvance (s : State) : Res :=
  .next (if s.clk.ptMode = .hk then { s with pt := s.pt + 375 } else s)

/-- LF_LOST (R419, R422, R455): in run, press time that advances from LFCLK, also while its exit is awaited, goes on
with the HKCLK advance. -/
def State.lfLoss (s : State) : State :=
  if s.clk.lfLost then s
  else
    let s := { s with clk := { s.clk with lfLost := true } }
    match s.boot.supply with
    | .run =>
      let s := if s.clk.ptMode = .lf then { s with clk := { s.clk with ptMode := .hk } } else s
      ((s.setFlag F.CLK_MON_LF_OK false).setFlag F.CLK_MON_LF_LOST true).log 0x0C04 []
    | .reset => s
    | .off => s
    | .bay false => s
    | _ =>
      let s := { s with bay := { s.bay with rc := true, lfDue := true } }
      ((s.setFlag F.BAY_STAT_LF_LOST_SLEEP true).setReg F.BAY_RC_EDGES_V 0).requestWake 4

def execLfLost (s : State) : Res := .next s.lfLoss

/-- LF_OK (R422, R455). -/
def State.lfGood (s : State) : State :=
  let s := { s with clk := { s.clk with lfLost := false }, bay := { s.bay with rc := false } }
  if s.boot.supply = .run ∧ s.flag F.CLK_MON_LF_OK = false then (s.setFlag F.CLK_MON_LF_OK true).log 0x0C05 [] else s

def execLfOk (s : State) : Res := .next s.lfGood

/-! ### Debug halt (R80, R175, R380, R418, R420, R422) -/

/-- DEBUG_HALT: the lock refuses it, and so does a lost LFCLK; the offset that WRITE_IGNORED then gives is a free value,
since no register is written. -/
def State.debugHalt (s : State) : State :=
  if s.boot.supply != .run || s.clk.halted || s.flag F.CFG_LOCK_LOCKED then s
  else if !s.flag F.CLK_MON_LF_OK then
    let (off, s) := s.drawFree 32
    s.writeIgnored off 5
  else
    let s := { s with clk := { s.clk with
      halted := true, ptMode := if s.clk.ptMode = PtMode.ticks then PtMode.lfEnter else s.clk.ptMode } }
    s.tclkStops 4 true

def execDebugHalt (s : State) : Res := .next s.debugHalt

/-- DEBUG_HALT_EXIT: PLL-T locks again, after a thermal hold with its end (R175, R436), and press time takes the exit of
R80 after it. -/
def State.debugExit (s : State) : State :=
  if !s.clk.halted then s
  else
    let s := ({ s with clk := { s.clk with halted := false } }.gatePll 0).ptToHk
    if s.thermDown then s else s.startLock 0

def execDebugHaltExit (s : State) : Res := .next s.debugExit

/-! ### PLLs (R409 to R411, R416 to R418) -/

/-- N at REF_MODE ×1 of PLL `x` (Table CLK-3). -/
def pllN (x : Nat) : Nat :=
  match x with
  | 0 => 60
  | 1 => 72
  | _ => 80

/-- The pair is a row of Table CLK-3. -/
def pllPair (x mode n : Nat) : Bool :=
  match mode with
  | 0 => n == pllN x
  | 1 => n == pllN x / 2
  | 2 => n == 2 * pllN x
  | _ => false

/-- TCLK runs again with the lock of PLL-T: press time starts, and leaves the ticks at the next LFCLK edge where debug
halt is on, or waits for its exit (R56, R80); the kills of the gate, of a shutdown and of the halt end (R42);
synchronisation and boot follow. -/
def State.tclkBack (s : State) : State :=
  let s := if s.clk.ptMode = .off then { s with pt := 0, clk := { s.clk with ptMode := if s.clk.halted then .lfEnter else .ticks } } else s
  if s.clk.halted then s.unkill 1
  else (((s.unkill 1).unkill 2).unkill 4).evtHold false |>.tclkChanged |>.bootOn

/-- HCLK and BCLK both run: the streams are back (R418). -/
def State.hubBack (s : State) : State :=
  if s.gated 1 || s.gated 2 then s else { s with dma := { s.dma with hub := false } }.streamsBack

/-- The state after the hold: the one left, and STANDBY in place of ACTIVE, since launching stays stopped (R436, Table
HKP-8). A shutdown gives up an entry to SLEEP (notes/assumptions/45.md). -/
def State.stateAfter (s : State) : Nat :=
  if s.hkp.left = 3 then 2
  else if s.hkp.left = 5 then (if s.flag F.CFG_BOOT_STAT_SAFE then 1 else 2)
  else s.hkp.left

/-- Launching stays stopped after a hold, on a module other than the head too, whose RUNNING no STOP has cleared (R436,
Table HKP-8, notes/assumptions/45.md): what waits for a stop comes into force. -/
def State.restLaunching (s : State) : State :=
  if s.isRunning then (s.setFlag F.THY_CTL_RUNNING false).applyLines.swapStopped.swapIdle else s

/-- HCLK and BCLK, which a hold has gated, run again where their PLLs are locked, and store DRAM is back (R436, step 2).
-/
def State.hubClocks (s : State) : State :=
  ([1, 2].foldl (fun (s : State) x =>
    if s.flag (F.CLK_PLL_STAT_LOCKED x) then s.setFlag (F.CLK_PLL_STAT_GATED x) false else s) s).hubBack

/-- The resume goes on once PLL-T and PLL-C have relocked, in debug halt PLL-C alone: HCLK and BCLK, the record of kind
3, the state left, a rebuild anew, and phase 1 for a halted boot (R433, R436). -/
def State.resumeEnds (s : State) : State :=
  match s.hkp.resuming with
  | none => s
  | some t =>
    if s.gated 4 || (s.gated 0 && !s.clk.halted) then s
    else
      let dies := s.reg F.HKP_THERM_DIES
      let s := { s with hkp := { s.hkp with resuming := none } }.hubClocks
      let s := (s.logWrite t 3 (s.reg F.HKP_THERM_CNT_V) 0 dies 0 0).log 0x0D07 []
      let s := (s.restLaunching.setPower s.stateAfter).rebuildAgain
      if s.boot.halted then
        let s := if s.reg F.CFG_BOOT_STAT_PHASE = 0 then s.logPhase0 else s
        let s := { s with
          boot := { s.boot with halted := false, read := .idle }, hkp := { s.hkp with coolWait := false } }
        (s.setReg F.CFG_BOOT_STAT_PHASE 1).bootOn
      else s

/-- The outputs of PLL `x` stay gated for a thermal shutdown although it locks: TCLK and the port clock until the hold
ends, HCLK and BCLK until the resume has come to them (Table HKP-3, R436). -/
def State.heldGated (s : State) (x : Nat) : Bool :=
  (s.thermDown && (x == 0 || x == 4)) || ((s.thermDown || s.hkp.resuming.isSome) && (x == 1 || x == 2))

/-- PLL_LOCK: the lock of PLL `x` completes; its band and its time, at most 4,000 XREF cycles, are free values (R411).
-/
def State.pllLocks (s : State) (x : Nat) : State :=
  if s.boot.supply != .run || !bitAt s.clk.locking x then s
  else
    let (band, s) := s.drawFree 6
    let (time, s) := s.drawFree 12
    let time := time % 4001
    let s := { s with clk := { s.clk with locking := withBit s.clk.locking x false, applied := withBit s.clk.applied x false } }
    let s := (s.setFlag (F.CLK_PLL_STAT_SEARCHING x) false).setFlag (F.CLK_PLL_STAT_LOCKED x) true
    let s := s.setFlag (F.CLK_PLL_STAT_GATED x) (s.heldGated x)
    let s := (s.setReg (F.CLK_PLL_STAT_BAND x) band).log 0x0C02 [(1, x), (1, band), (4, time)]
    let ports (s : State) : State :=
      if s.gated 0 || s.gated 4 || s.reg F.CFG_BOOT_STAT_PHASE == 0 || s.hkp.sleeping then s else s.portsOn
    if s.gated x then s
    else match x with
    | 0 => (ports s.tclkBack).resumeEnds
    | 3 => s
    | 4 => (ports s).resumeEnds
    | _ => s.hubBack

def execPllLock (x : Nat) (s : State) : Res := .next (if x < 5 then s.pllLocks x else s)

/-- One PLL is lost for `cause` (R417, R418); its lock starts again as soon as the reference is good (R416). HCLK and
BCLK are gated in a thermal hold already, which loses no stream; the loss of their PLL does. -/
def State.pllLost (s : State) (x cause : Nat) : State :=
  let was := s.gated x
  let s := (s.gatePll x).setFlag (F.CLK_PLL_STAT_LOSS x) true
  let s := ((s.setReg (F.CLK_PLL_STAT_LAST_CAUSE x) cause).addReg (F.CLK_PLL_LOSSES_V x) 1).log 0x0C01
    [(1, x), (1, cause)]
  let s := if was && x != 1 && x != 2 then s else s.pllGone x
  s.startLock x

/-- PLL_LOSS (R416, R417, R421): cause 1 or 3 of PLL `x` while it is locked; cause 2, the reference, of all five. -/
def State.pllLoss (s : State) (x cause : Nat) : State :=
  if s.boot.supply != .run then s
  else if cause = 2 then
    if s.clk.refLost then s
    else
      let s := { s with clk := { s.clk with refLost := true } }
      let s := ((s.setFlag F.CLK_MON_XREF_OK false).setFlag F.CLK_MON_XREF_LOST true).setFlag F.CLK_MON_TW_FALLBACK true
      (List.range 5).foldl (fun (s : State) y => s.pllLost y 2) s
  else if (cause = 1 ∨ cause = 3) ∧ x < 5 ∧ s.flag (F.CLK_PLL_STAT_LOCKED x) then s.pllLost x cause
  else s

def execPllLoss (x cause : Nat) (s : State) : Res := .next (s.pllLoss x cause)

/-- REFERENCE_GOOD (R411, R416): locks start for every PLL that has none; those of a thermal hold wait for its end
(R436). -/
def State.refGood (s : State) : State :=
  if s.boot.supply != .run then s
  else
    let s := { s with clk := { s.clk with refLost := false } }.setFlag F.CLK_MON_XREF_OK true
    (List.range 5).foldl (fun (s : State) x =>
      if s.flag (F.CLK_PLL_STAT_LOCKED x) || bitAt s.clk.locking x
          || (s.thermDown && (x == 0 || x == 4)) || (x == 0 && s.clk.halted) then s
      else s.startLock x) s

def execReferenceGood (s : State) : Res := .next s.refGood

/-- The offset of `CLK_PLLx_CTL`. -/
def pllCtl (x : Nat) : Nat := 0x100100 + 0x20 * x

/-- PLL `x` relocks with its buffered pair, unless Table CLK-3 has no such row (R410, steps 1 and 3). -/
def State.relock (s : State) (x : Nat) : State :=
  let mode := s.reg (F.CLK_PLL_CTL_REF_MODE x)
  let n := s.reg (F.CLK_PLL_CTL_N x)
  if !pllPair x mode n then s.log 0x0C03 [(1, x), (1, mode), (1, n)]
  else
    let was := s.gated x
    let s := ((s.gatePll x).setReg (F.CLK_PLL_STAT_REF_MODE_EFF x) mode).setReg (F.CLK_PLL_STAT_N_EFF x) n
    let s := if was && x != 1 && x != 2 then s else s.pllGone x
    s.startLock x

/-- A relock would reach a line rate that is in use (R410, step 2). -/
def State.relockBarred (s : State) (x : Nat) : Bool :=
  match x with
  | 0 => s.isRunning
  | 3 => false
  | _ => s.isRunning || s.flag F.DMA_CTL_EN

/-- APPLY of PLL `x` (R410): it reads 1 until the lock of its relock completes (R5). -/
def State.pllApply (s : State) (x : Nat) : State :=
  let good := pllPair x (s.reg (F.CLK_PLL_CTL_REF_MODE x)) (s.reg (F.CLK_PLL_CTL_N x))
  if good && s.relockBarred x then s.writeIgnored (pllCtl x) 5
  else
    let s := if good then { s with clk := { s.clk with applied := withBit s.clk.applied x true } } else s
    s.relock x

/-- A pair that the image wrote for PLL `x` applies, without the bars of step 2 of R410 (notes/assumptions/43.md). -/
def State.applyPair (s : State) (x : Nat) : State :=
  if bitAt s.clk.imagePairs x then
    { s with clk := { s.clk with imagePairs := withBit s.clk.imagePairs x false } }.relock x
  else s

def execPllApply (x : Nat) (s : State) : Res :=
  .next (if x < 5 then s.hostAction (pllCtl x) (fun s => s.pllApply x) else s)

/-- FUNDAMENTAL_RESET (R374, R410): the reset of the PCIe port ends, and a pair for PLL-P that the image wrote applies.
The link then trains, which LINK_SPEED and LINK_RECOVERY bring. -/
def State.fundamentalReset (s : State) : State :=
  if s.boot.supply != .run then s
  else s.applyPair 3

def execFundamentalReset (s : State) : Res := .next s.fundamentalReset

/-- BUS_STOP (R393, R398, R421): a STOP ends the wait after an abandoned transaction, frees the bus for the boot
controller, and ends the fallback of TWCLK once XREF is good again. -/
def State.busStop (s : State) : State :=
  let s := { s with twi := { s.twi with waitStop := false }, boot := { s.boot with stuck := false } }
  if s.clk.refLost then s else s.setFlag F.CLK_MON_TW_FALLBACK false

def execBusStop (s : State) : Res := .next s.busStop

end Sys2Proof.Machine
end

