-- ==== Sys2Proof/Machine/Bay.lean ====
section
/-! DEFINITION. The Bay backup domain: power path, wakes and the charger (15_bay_backup_domain.md R447 to R468). -/

namespace Sys2Proof.Machine

/-! ### Power path (R448 to R451) -/

/-- VAUX_LOSS (R448, R450): the Bay rail moves to the cell. -/
def State.vauxLoss (s : State) : State :=
  if !s.bay.vaux || s.boot.supply == .off then s
  else
    let first := !s.bay.moved
    let s := { s with bay := { s.bay with vaux := false, moved := true, cellLf := if first then 0 else s.bay.cellLf } }
    let s := s.setFlag F.BAY_STAT_RAIL_SRC true
    let s := if first then s.setReg F.BAY_CELL_TIME_V 0 else s
    if s.boot.supply == .run then (s.log 0x0E06 [(4, s.reg F.BAY_CELL_TIME_V)]).chargerGate
    else { s with bay := { s.bay with cellDue := true } }.baySettle

def execVauxLoss (s : State) : Res := .next s.vauxLoss

/-- VAUX_RETURN (R448, R454): the Bay rail moves back to VAUX; BAY is left for SLEEP, where a source held requests its
wake, or for RESET. In OFF, VAUX is present and COLD_START follows. -/
def State.vauxReturn (s : State) : State :=
  if s.bay.vaux then s
  else
    let s := { s with bay := { s.bay with vaux := true } }
    let held := s.bay.held
    match s.boot.supply with
    | .off => s
    | .bay true =>
      let s := { s with boot := { s.boot with supply := .sleep }, bay := { s.bay with held := none } }
      let s := s.setFlag F.BAY_STAT_RAIL_SRC false
      if !s.boot.resetN then s.mainReset .reset
      else match held with
      | some x => s.requestWake x
      | none => s
    | .bay false =>
      let s := { s with boot := { s.boot with supply := .reset }, bay := { s.bay with held := none } }
      (s.setFlag F.BAY_STAT_RAIL_SRC false).supervise
    | _ => (s.setFlag F.BAY_STAT_RAIL_SRC false).chargerGate

def execVauxReturn (s : State) : Res := .next s.vauxReturn

/-- CELL_CUTOFF (R449): on the cell alone, the Bay rail is lost, and store DRAM and press time with it. -/
def State.cellCutoff (s : State) : State :=
  if s.boot.supply == .off || !s.flag F.BAY_STAT_RAIL_SRC then s
  else
    let s := (s.mainReset .off).railsDown
    { s with mem := [], bay := { Bay.reset with vaux := false, railsGood := false, railsOff := 15, coldDue := false } }

def execCellCutoff (s : State) : Res := .next s.cellCutoff

/-- COLD_START (R449, R451): from OFF, on VAUX into RESET, or on a cell into BAY. -/
def State.coldStart (s : State) : State :=
  if s.boot.supply != .off then s
  else
    let vaux := s.bay.vaux
    let s := { s with
      regs := s.regs.filter (fun x => !cellIn 0x120000 0x130000 x),
      boot := { s.boot with supply := .reset },
      bay := { Bay.reset with vaux := vaux, railsGood := false, railsOff := 15, moved := !vaux, cellDue := !vaux } }
    (s.setFlag F.BAY_STAT_RAIL_SRC (!vaux)).baySettle

def execColdStart (s : State) : Res := .next s.coldStart

/-! ### Wakes (R453, R454) -/

/-- A wake source of Table BAY-2 is enabled, and its condition holds as far as the state shows it. -/
def State.wakeEnabled (s : State) (source : Nat) : Bool :=
  let slept := s.boot.supply == .sleep || s.boot.supply == .bay true
  match source with
  | 1 => slept && s.flag F.BAY_WAKE_CTL_EN_TIMER && decide (s.reg F.BAY_WAKE_PT_V ≤ s.pt.toNat)
  | 2 => s.flag F.BAY_WAKE_CTL_EN_PIN
  | 3 => s.flag F.BAY_WAKE_CTL_EN_RAILS && s.bay.railsFell
  | 4 => slept && s.clk.lfLost
  | _ => false

/-- WAKE (R453): a source requests a wake. -/
def execWake (source : Nat) (s : State) : Res :=
  .next (if s.wakeEnabled source then s.requestWake source else s)

/-! ### The charger at each round (R462) -/

/-- Reading `n` of the last round, where it was valid. -/
def State.validReading (s : State) (n : Nat) : Option Nat :=
  if s.flag (F.HKP_CH_VALID n) then some (s.reg (F.HKP_CH_VALUE n)) else none

/-- A sum and number with one more reading. -/
def addReading (a : Nat × Nat) (r : Option Nat) : Nat × Nat :=
  match r with
  | some v => (a.1 + v, a.2 + 1)
  | none => a

/-- The charger enters FAULT, without current (Table BAY-3). -/
def State.chargerFault (s : State) : State :=
  (s.endTempHold.noCurrent.setCharger 6).setFlag F.BAY_CHG_STAT_FAULTED true

/-- A round shows the cell removed: the NTC open, CELL low, or a jump of CELL under current (R462). -/
def State.cellGone (s : State) : Bool :=
  (s.validReading 13).any (fun v => decide (1200 ≤ v)) ||
    (s.validReading 12).any (fun v => decide (v < 1500) ||
      (decide (0 < s.reg F.BAY_CHG_STAT_CURRENT) &&
        s.bay.lastCell.any (fun w => decide (w + 300 < v) || decide (v + 300 < w))))

/-- A round shows a cell: the NTC neither open nor shorted, CELL from 1,500 to 5,400 mV (R462). -/
def State.cellShown (s : State) : Bool :=
  (s.validReading 13).any (fun v => decide (50 < v) && decide (v < 1200)) &&
    (s.validReading 12).any (fun v => decide (1500 ≤ v) && decide (v ≤ 5400))

/-- The charger's part of a completed round (R456, R462). -/
def State.chargerRound (s : State) : State :=
  let s := s.chargerGate
  if !s.bay.runs then s
  else
    let gone := s.cellGone
    let s := { s with bay := { s.bay with
      cellSum := addReading s.bay.cellSum (s.validReading 12), ntcSum := addReading s.bay.ntcSum (s.validReading 13),
      vauxSum := addReading s.bay.vauxSum (s.validReading 11), lastCell := s.validReading 12,
      removed := s.bay.removed || gone,
      present := if s.flag F.BAY_CHG_STAT_NO_CELL && s.cellShown then s.bay.present + 1 else 0 } }
    if gone && !(s.flag F.BAY_CHG_STAT_NO_CELL && s.reg F.BAY_CHG_STAT_STATE == 6) then
      ((s.setFlag F.BAY_CHG_STAT_NO_CELL true).chargerFault).log 0x0E03
        [(2, s.reg (F.HKP_CH_VALUE 12)), (2, s.reg (F.HKP_CH_VALUE 13))]
    else if 1024 ≤ s.bay.present then
      let s := { s with bay := { s.bay with present := 0 } }.setFlag F.BAY_CHG_STAT_NO_CELL false
      ((s.log 0x0E04 []).setReg F.BAY_CHG_STAT_FAULT 0).qualify
    else s

/-! ### The NTC (R456) -/

/-- Terms of the series of the area hyperbolic tangent of `a / b` from `term` on, whose divisor is `k`, scaled by 2^48.
-/
def athTerms (a b : Nat) : Nat → Nat → Nat → Nat
  | 0, _, _ => 0
  | n + 1, term, k => term / k + athTerms a b n (term * a * a / (b * b)) (k + 2)

/-- ln of a whole number from 1 up, times 2^48: a power of 2 and the rest by ln x = 2 artanh ((x − 1) / (x + 1)). -/
def lnScaled (n : Nat) : Nat :=
  let p := 2 ^ Nat.log2 n
  let ath (a b : Nat) : Nat := athTerms a b 16 (2 ^ 48 * a / b) 1
  2 * (Nat.log2 n * ath 1 3 + ath (n - p) (n + p))

/-- T_t in 1/16 °C for a mean NTC reading of `mv`: the resistance is 10 kΩ × mv ÷ (1,250 − mv), and 1 ÷ T is
1 ÷ 298.15 K + ln (R ÷ 10 kΩ) ÷ 3,435 K (R456). With l = 2^48 ln (R ÷ 10 kΩ) and D = 68,700 × 2^48 + 5,963 l, T is
20,482,905 × 2^48 ÷ D in K; only the rounding is free. -/
def ntcCode (mv : Nat) : Int :=
  if mv = 0 ∨ 1250 ≤ mv then signedOf 16 (Config.ntcBeyond mv).toNat
  else
    let l : Int := Int.ofNat (lnScaled mv) - Int.ofNat (lnScaled (1250 - mv))
    let d : Int := 68700 * 2 ^ 48 + 5963 * l
    let n : Int := 80 * 20482905 * 2 ^ 48 - 21852 * d
    if n % (5 * d) = 0 then n / (5 * d) else n / (5 * d) + Int.ofNat (boolBit (Config.ntcRoundsUp mv))

/-! ### The charger at each tick (R456 to R461) -/

/-- A fault of the tick: its code, the state and CHG_FAULT (R457, R461). -/
def State.tickFault (s : State) (code : Nat) : State :=
  (s.chargerFault.setReg F.BAY_CHG_STAT_FAULT code).log 0x0E02
    [(1, code), (2, s.reg F.BAY_CELL_VOLT), (2, s.reg F.BAY_CELL_TEMP)]

/-- The current of a charger state before limits, in mA (Table BAY-3): C ÷ 20 is `CAP` ÷ 2 to the nearest mA. -/
def State.stateCurrent (s : State) (st : Nat) : Nat :=
  match st with
  | 2 => 10
  | 3 => s.reg F.BAY_CHG_CTL_FAST_MA
  | 4 => divRoundUpHalf (s.reg F.BAY_CHG_CTL_CAP) 2
  | 5 => 10
  | _ => 0

/-- What the input rule makes of the current it allows, for mean VAUX `v` and the state's current (R460). -/
def inputRule (ma v full : Nat) : Nat :=
  let ma := min ma full
  if v < 3000 then (if ma ≤ 10 then (if v < 2850 then 0 else 10) else max 10 (ma - 10))
  else if 3100 ≤ v then min full (ma + 10)
  else max 10 ma

/-- What the heat rule allows for a BAYT reading (R460). -/
def heatRule (bayt : Int) (full : Nat) : Nat :=
  if 1520 < bayt then 0 else if 1360 < bayt then max 10 (full / 2) else full

/-- The count at which the safety timer ends (R461). -/
def State.timerEnd (s : State) : Nat := s.reg F.BAY_CHG_TIMER_MINUTES * 60 * 1000000 / 1048576

/-- The charger goes to a state that delivers current (Table BAY-3). -/
def State.deliver (s : State) (st : Nat) : State :=
  let s := s.setCharger st
  { s with bay := { s.bay with inputMa := s.stateCurrent st } }

/-- The current of the next tick and its limits (R458, R460). -/
def State.programCurrent (s : State) (vaux : Nat) : State :=
  let st := s.reg F.BAY_CHG_STAT_STATE
  let full := s.stateCurrent st
  if full = 0 ∨ s.bay.hold = true then s.noCurrent
  else
    let ma := inputRule s.bay.inputMa vaux full
    let heat := heatRule (signedOf 16 (s.reg (F.HKP_CH_VALUE 10))) full
    let vin := decide (ma < full)
    let hot := decide (heat < full)
    let pulse := st ≠ 5 ∨ s.bay.ticks % 16 = Config.maintPhase.toNat
    let logs := (vin || hot) && !s.bay.limitLogged
    let s := { s with bay := { s.bay with inputMa := ma, limitLogged := vin || hot } }
    let s := (s.setFlag F.BAY_CHG_STAT_LIMIT_VIN vin).setFlag F.BAY_CHG_STAT_LIMIT_HEAT hot
    let s := s.setReg F.BAY_CHG_STAT_CURRENT (if pulse then min ma heat else 0)
    if logs then s.log 0x0E05 [(1, boolBit vin + 2 * boolBit hot)] else s

/-- The safety timer counts a tick of PRE or FAST; while the charger is limited, every second one (R461). -/
def State.countTick (s : State) : State :=
  let limited := s.flag F.BAY_CHG_STAT_LIMIT_VIN || s.flag F.BAY_CHG_STAT_LIMIT_HEAT
  if limited && !s.bay.half then { s with bay := { s.bay with half := true } }
  else
    { s with bay := { s.bay with half := false } }.addReg F.BAY_CHG_ELAPSED_V 1

/-- TIMER_FAULT where the count has reached its end (R461). -/
def State.timerFault (s : State) : State :=
  if s.timerEnd ≤ s.reg F.BAY_CHG_ELAPSED_V then s.tickFault 1 else s

/-- T_t goes into the history of FAST, TEMP_HOLD or not (R459). -/
def State.pushTemp (s : State) (t : Int) : State :=
  if s.reg F.BAY_CHG_STAT_STATE = 3 then { s with bay := { s.bay with temps := (t :: s.bay.temps).take 58 } } else s

/-- T_t lies outside the range in which current flows: TEMP_HOLD begins (R458). -/
def State.tempGate (s : State) (t : Int) : State :=
  if t < 80 ∨ 720 < t then { s with bay := { s.bay with hold := true, holdGood := 0 } } else s

/-- A tick of FAST: the peak, the history, which holds this tick's T_t, and termination (R459). -/
def State.fastTick (s : State) (v : Nat) (t : Int) (ma : Nat) : State :=
  let n := s.bay.ticks
  let fresh := n = 1 ∨ ma ≠ s.bay.lastI
  let peak := if fresh then v else max v (s.reg F.BAY_CELL_PEAK_V)
  let dv := if fresh then 0 else if v + 15 ≤ peak then s.bay.dv + 1 else 0
  let s := ({ s with bay := { s.bay with dv := dv } }.setReg F.BAY_CELL_PEAK_V peak).countTick
  let rise := match s.bay.temps[57]? with
    | some old => decide (16 ≤ t - old)
    | none => false
  if 300 < n && (decide (3 ≤ dv) || rise) then s.deliver 4 else s.timerFault

/-- A tick outside TEMP_HOLD (Table BAY-3); a state that would deliver current begins under the temperature window
(R458). -/
def State.stateTick (s : State) (v : Nat) (t : Int) (ma : Nat) : State :=
  match s.reg F.BAY_CHG_STAT_STATE with
  | 1 => if s.bay.ticks < 2 then s else (if v < 3000 then s.deliver 2 else s.deliver 3).tempGate t
  | 2 =>
    let s := { s with bay := { s.bay with preGood := if 3000 ≤ v then s.bay.preGood + 1 else 0 } }.countTick
    if 3 ≤ s.bay.preGood then (s.deliver 3).timerFault
    else if 1800 ≤ s.bay.ticks then s.tickFault 2
    else s.timerFault
  | 3 => s.fastTick v t ma
  | 4 =>
    if 0 < ma then (if 3433 ≤ s.bay.ticks then s.deliver 5 else s)
    else { s with bay := { s.bay with ticks := s.bay.ticks - 1 } }
  | 5 => if ma = 0 ∧ v < 3840 then s.qualify else s
  | _ => s

/-- A tick of PRE to MAINT under the temperature window (R458). -/
def State.windowTick (s : State) (v : Nat) (t : Int) (ma : Nat) : State :=
  let s := s.pushTemp t
  if s.bay.hold then
    let n := if 96 ≤ t ∧ t ≤ 704 then s.bay.holdGood + 1 else 0
    let s := { s with bay := { s.bay with holdGood := n } }
    if 16 ≤ n then s.endTempHold else s
  else if (s.tempGate t).bay.hold then s.tempGate t
  else { s with bay := { s.bay with ticks := s.bay.ticks + 1 } }.stateTick v t ma

/-- The mean of a tick's valid readings; a free value where it had none (R456). -/
def State.tickMean (s : State) (a : Nat × Nat) : Nat × State :=
  if a.2 = 0 then s.drawFree 16 else (a.1 / a.2, s)

/-- CHARGER_TICK (R456 to R461). -/
def State.chargerTick (s : State) : State :=
  if !s.bay.runs then s
  else
    let (v, s) := s.tickMean s.bay.cellSum
    let (ntc, s) := s.tickMean s.bay.ntcSum
    let (vaux, s) := s.tickMean s.bay.vauxSum
    let t := ntcCode ntc
    let ma := s.reg F.BAY_CHG_STAT_CURRENT
    let removed := s.bay.removed
    let s := { s with bay := { s.bay with cellSum := (0, 0), ntcSum := (0, 0), vauxSum := (0, 0), removed := false } }
    let s := (s.setReg F.BAY_CELL_VOLT v).setReg F.BAY_CELL_TEMP (codeOf 16 t)
    let st := s.reg F.BAY_CHG_STAT_STATE
    let s :=
      if st = 0 ∨ st = 6 then s
      else if 5400 < v && !removed then s.tickFault 2
      else if ntc ≤ 50 then s.tickFault 3
      else if st = 1 then { s with bay := { s.bay with ticks := s.bay.ticks + 1 } }.stateTick v t ma
      else s.windowTick v t ma
    { s with bay := { s.bay with lastI := ma } }.programCurrent vaux

def execChargerTick (s : State) : Res := .next s.chargerTick

/-- CHG_FAULT_CLR (R463). -/
def State.clearChgFault (s : State) : State :=
  let s := s.setReg F.BAY_CHG_STAT_FAULT 0
  if s.reg F.BAY_CHG_STAT_STATE = 6 then s.qualify else s

def execChgFaultClr (s : State) : Res := .next (s.hostAction 0x120100 (fun s => s.clearChgFault))

/-- CHG_RESTART (R463): from any state except FAULT; a charger that R456 keeps OFF stays so. -/
def State.chgRestart (s : State) : State :=
  if s.bay.runs && s.reg F.BAY_CHG_STAT_STATE != 6 then s.qualify else s

def execChgRestart (s : State) : Res := .next (s.hostAction 0x120100 (fun s => s.chgRestart))

end Sys2Proof.Machine
end

