-- ==== Sys2Proof/Machine/Housekeeping.lean ====
section
/-! DEFINITION. Housekeeping, thermal protection and power states (14_housekeeping_thermal_and_power.md R425 to R446).
-/

namespace Sys2Proof.Machine

/-! ### A round's readings (R425 to R428) -/

/-- A reading lies within 12 mV of its nominal value (R427). -/
def nearNominal (v nominal : Nat) : Bool := decide (v ≤ nominal + 12) && decide (nominal ≤ v + 12)

/-- Channel `n` measures a voltage (Table HKP-1). -/
def isVoltage (n : Nat) : Bool := decide (11 ≤ n)

/-- The reference and ground readings of channel 15 as rotation index `rot` brings them (R426, R427). -/
def State.takeReference (s : State) (rot : Nat) (x : Nat × Bool) : State :=
  if !x.2 then s
  else if rot = 2 then { s with hkp := { s.hkp with refGood := nearNominal x.1 1250 } }
  else if rot = 3 then { s with hkp := { s.hkp with gndGood := nearNominal x.1 0 } }
  else s

/-- The reading of channel `n` is published, valid or not (R425 to R427). -/
def State.publish (s : State) (rot n : Nat) (x : Nat × Bool) : State :=
  let ok := x.2 && (!isVoltage n || (s.hkp.refGood && s.hkp.gndGood))
  let s := s.setFlag (F.HKP_CH_VALID n) ok
  let s := if ok then s.setReg (F.HKP_CH_VALUE n) x.1 else s
  let s :=
    if 14 ≤ n then
      let k := rot + 4 * (n - 14)
      let s := (s.setReg (F.HKP_CH_ROT n) rot).setFlag (F.HKP_RAIL_VALID k) ok
      if ok then s.setReg (F.HKP_RAIL_VALUE k) x.1 else s
    else s
  let was := bitAt s.hkp.invalid n
  let s := { s with hkp := { s.hkp with invalid := withBit s.hkp.invalid n (!ok) } }
  if !ok && !was then s.log 0x0D02 [(1, n)] else s

/-- A code of channel `n` in its format (R426). -/
def channelValue (n v : Nat) : Int := if isVoltage n then Int.ofNat v else signedOf 16 v

/-- The limits of channel `n` (R428). -/
def State.checkLimits (s : State) (n : Nat) : State :=
  if !bitAt (s.reg F.HKP_LIMEN_EN) n || !s.flag (F.HKP_CH_VALID n) then s
  else
    let v := s.reg (F.HKP_CH_VALUE n)
    let hi := s.reg (F.HKP_LIM_HI n)
    let lo := s.reg (F.HKP_LIM_LO n)
    let above := decide (channelValue n hi < channelValue n v)
    let below := decide (channelValue n v < channelValue n lo)
    if above || below then
      let was := bitAt s.hkp.excursion n
      let s := { s with hkp := { s.hkp with excursion := withBit s.hkp.excursion n true } }.setBitOf F.HKP_LIMSTAT_HIT n
      if was then s else s.log 0x0D01 [(1, n), (2, v), (2, if above then hi else lo)]
    else { s with hkp := { s.hkp with excursion := withBit s.hkp.excursion n false } }

/-! ### Thermal judgement (R429 to R431, R436) -/

/-- The reading that judges die `d`, none where it is not valid: 0 sensor stack, 1 hub, 2 store DRAM (Table HKP-2). -/
def State.dieReading (s : State) (d : Nat) : Option Int :=
  match d with
  | 0 => if (List.range 8).any (fun k => s.flag (F.HKP_CH_VALID k)) then some (signedOf 16 s.stackReading) else none
  | _ => if s.flag (F.HKP_CH_VALID (7 + d)) then some (signedOf 16 (s.reg (F.HKP_CH_VALUE (7 + d)))) else none

/-- Shutdown limits and resume levels in 1/16 °C (Table HKP-2). -/
def dieLimit (d : Nat) : Nat :=
  match d with
  | 0 => 1600
  | 1 => 1840
  | _ => 1520

def dieResume (d : Nat) : Nat :=
  match d with
  | 0 => 1360
  | 1 => 1600
  | _ => 1280

/-- The die is above its limit in this round (R429, R431). -/
def State.dieAbove (s : State) (d : Nat) : Bool :=
  match s.dieReading d with
  | some t => decide (Int.ofNat (dieLimit d) < t)
  | none => true

/-- The dies above their limits, bit d. -/
def State.diesAbove (s : State) : Nat :=
  (List.range 3).foldl (fun m d => withBit m d (s.dieAbove d)) 0

/-- The rounds that found die `d` at or below its resume level, counted on (R436). -/
def State.okRounds (s : State) (d : Nat) : Nat :=
  match s.dieReading d with
  | some t => if t ≤ Int.ofNat (dieResume d) then min 255 (s.hkp.ok[d]?.getD 0 + 1) else 0
  | none => 0

/-- The warning of the sensor stack: each round above 960 logs it (R430). -/
def State.warn (s : State) : State :=
  match s.dieReading 0 with
  | none => { s with hkp := { s.hkp with cool := 0 } }
  | some t =>
    let was := s.flag F.HKP_THERM_WARN
    if 960 < t then
      let s := { s with hkp := { s.hkp with cool := 0 } }
      ((s.setFlag F.HKP_THERM_WARN true).setFlag F.HKP_THERM_WARNED true).log 0x0D03 [(2, s.stackReading)]
    else
      let n : Nat := if t ≤ 928 then s.hkp.cool + 1 else 0
      let s := { s with hkp := { s.hkp with cool := n } }
      if was && decide (8 ≤ n) then (s.setFlag F.HKP_THERM_WARN false).log 0x0D04 [] else s

/-- `OK_ROUNDS`, over every die where DIES names none, and `RESUME_OK`, which then asks only for the shutdown limits
(R436, Table HKP-12, notes/assumptions/45.md). -/
def State.judgeResume (s : State) : State :=
  let s := { s with hkp := { s.hkp with ok := (List.range 3).map (fun d => s.okRounds d) } }
  let dies := if s.reg F.HKP_THERM_DIES = 0 then 7 else s.reg F.HKP_THERM_DIES
  let n : Nat := (List.range 3).foldl (fun m d => if bitAt dies d then min m (s.hkp.ok[d]?.getD 0) else m) 255
  let was := s.flag F.HKP_THERM_RESUME_OK
  let ok := (decide (s.reg F.HKP_THERM_DIES = 0) || decide (8 ≤ n)) && decide (s.diesAbove = 0)
  let s := (s.setReg F.HKP_THERM_OK_ROUNDS n).setFlag F.HKP_THERM_RESUME_OK ok
  if ok && !was then s.log 0x0D06 [] else s

/-! ### The shutdown (R431, R433, Table HKP-3) -/

/-- The first channel in slot order that was above its limit, with its reading and limit; a die without a valid reading
shows its first channel (Table HKP-4). -/
def State.tripChannel (s : State) (dies : Nat) : Nat × Nat × Nat :=
  if bitAt dies 0 then
    let outside := (List.range 8).filter (fun k =>
      s.flag (F.HKP_CH_VALID k) && decide (1600 < signedOf 16 (s.reg (F.HKP_CH_VALUE k))))
    let k := outside.head?.getD 0
    (k, s.reg (F.HKP_CH_VALUE k), 1600)
  else if bitAt dies 1 then (8, s.reg (F.HKP_CH_VALUE 8), 1840)
  else (9, s.reg (F.HKP_CH_VALUE 9), 1520)

/-- Step 2 and what ends with it: TCLK, HCLK and BCLK gated (Table HKP-3, R433). -/
def State.shutClocks (s : State) : State :=
  let s := ((s.gatePll 0).ptToHk).tclkStops 2 false
  let s := if s.isHead then (s.headStops true).stopWhenDone else s
  let s := { s with thy := { s.thy with trigOut := s.thy.trigOut.map (fun _ => false) } }
  (s.setFlag (F.CLK_PLL_STAT_GATED 1) true).setFlag (F.CLK_PLL_STAT_GATED 2) true

/-- The activities that a shutdown ends (R433). On the head a commit is aborted with reason CHAIN, since the chain
ends with its ports (R363, notes/assumptions/45.md). -/
def State.shutActivities (s : State) : State :=
  let s := s.calAbort.disarm
  let s := { s with boot := { s.boot with report := none, halted := decide (s.reg F.CFG_BOOT_STAT_PHASE < 5) } }
  let s := s.setFlag F.SEC_STAT_ATT_BUSY false
  if !s.commit.busy then s
  else if s.isHead then s.commitChain (s.positions notAccepted)
  else s.resolve

/-- The registers are held from here on for the reads of the hold (R432). -/
def State.holdRegisters (s : State) : State :=
  { s with held := some {
    regs := s.regs, shadow := s.shadow, ptc := s.ptc, thy := s.thy, arr := s.arr, cnv := s.cnv, lfl := s.lfl,
    cal := s.cal, pip := s.pip, sor := s.sor, twi := s.twi, bay := s.bay, dma := s.dma, fifo := s.fifo,
    fifoLost := s.fifoLost } }

/-- Step 5 of shutdown `x`: the log record, `HKP_THERM_CNT`, and the thermal hold; launching that has begun during the
sequence ends with it (R431, R433). -/
def State.holdBegins (s : State) (x : Shutdown) : State :=
  let s := s.addReg F.HKP_THERM_CNT_V 1
  let s := s.logWrite x.decided 1 (s.reg F.HKP_THERM_CNT_V) x.channel x.dies x.reading x.limit
  let s := if s.isHead then (s.headStops true).stopWhenDone else s
  let s := { s with hkp := { s.hkp with shut := none } }.setPower 4
  ((s.setFlag F.HKP_THERM_TRIPPED true).setFlag F.HKP_THERM_HOLD true).holdRegisters

/-- SLEEP, steps 3 to 5 (R442); step 6 comes with the LFCLK edge that takes press time over. -/
def State.sleepGoes (s : State) : State :=
  let s := s.portsOff
  { s with
    hkp := { s.hkp with sleeping := true },
    clk := { s.clk with ptMode := if s.clk.ptMode = PtMode.ticks then PtMode.lfEnter else s.clk.ptMode } }

/-- Stream 18 has delivered what stood ahead of its stop, or its time has passed: a shutdown comes to step 5 of Table
HKP-3, and an entry to SLEEP to its step 3 (R431, R442). -/
def State.drainDone (s : State) : State :=
  match s.hkp.shut with
  | some x => s.holdBegins x
  | none => if s.reg F.HKP_PWR_STATE = 5 ∧ s.hkp.sleeping = false then s.sleepGoes else s

/-- What follows where a command has ended the delivery of stream 18 that was in progress before it. -/
def State.drainOver (before s : State) : State := if before.dma.drain && !s.dma.drain then s.drainDone else s

/-- Every ring stops, and what waits for it follows once stream 18 has delivered its records (step 4 of Table HKP-3,
R442). -/
def State.stopRingsThen (s : State) : State :=
  let s := s.stopRings
  if s.dma.drain then s else s.drainDone

/-- A thermal shutdown for the dies given (R431, Table HKP-3). THERM_SHUTDOWN, which stream 18 delivers before step 5,
carries the count that step 5 leaves. -/
def State.thermShutdown (s : State) (dies : Nat) : State :=
  let (ch, reading, limit) := s.tripChannel dies
  let left := if s.hkp.resuming.isSome then s.hkp.left else s.reg F.HKP_PWR_STATE
  let s := { s with hkp := { s.hkp with
    left := left, resuming := none, sleeping := false, shut := some ⟨s.pt, dies, ch, reading, limit⟩ } }
  let s := (s.setReg F.HKP_THERM_DIES dies).shutClocks.shutActivities
  let s := s.portsOff.gatePll 4
  (s.log 0x0D05 [(1, dies), (1, ch), (2, reading), (4, s.reg F.HKP_THERM_CNT_V + 1)]).stopRingsThen

/-- Thermal protection after a completed round (R429 to R431, R436, R437). -/
def State.thermal (s : State) : State :=
  let s := s.warn.judgeResume
  let above := s.diesAbove
  let trip := !s.thermDown && (above &&& s.hkp.above) != 0
  let s := { s with hkp := { s.hkp with above := above } }
  let s := if trip then s.thermShutdown above else s
  if s.hkp.coolWait && s.hkp.ok.all (fun n => decide (8 ≤ n)) then { s with hkp := { s.hkp with coolWait := false } }.bootOn
  else s

/-! ### The round (R425) -/

/-- HKCLK is measured and trimmed while XREF is good; the frequency and the code are free values (R421). -/
def State.trimHk (s : State) : State :=
  if s.clk.refLost then s
  else
    let (f, s) := s.drawFree 16
    let (t, s) := s.drawFree 8
    let s := ((s.setReg F.CLK_HKFREQ_FREQ f).setReg F.CLK_HKFREQ_TRIM t).setFlag F.CLK_MON_HK_TRIMMED true
    if 160 < (Int.ofNat f - 16000).natAbs then s.log 0x0C06 [(2, f)] else s

/-- A zone reading has left the value that the working set used (R198). -/
def State.zoneDrift (s : State) : State :=
  let hyst := s.reg F.CAL_TEMP_HYST
  let moved := (List.range 8).any (fun k =>
    s.flag (F.HKP_CH_VALID k) &&
      decide (hyst < (signedOf 16 (s.reg (F.HKP_CH_VALUE k)) - s.cal.work.zones[k]?.getD 0).natAbs))
  if s.flag F.CAL_CTL_AUTO && moved && decide (1 ≤ s.reg F.CFG_BOOT_STAT_PHASE) && !s.thermDown then
    s.triggerRebuild
  else s

/-- HK_ROUND (R425): the time for a delivery of stream 18 has passed; the readings come in slot order, each with
whether the sensor check found it good. -/
def State.hkRound (s : State) (readings : List (Nat × Bool)) : State :=
  if s.boot.supply != .run then s
  else
    let s := s.drainEnds.drainDone.addReg F.HKP_ROUND_V 1
    let rot := s.reg F.HKP_ROUND_V % 4
    let at_ (n : Nat) : Nat × Bool := readings[n]?.getD (0, false)
    let s := s.takeReference rot (at_ 15)
    let s := (List.range 16).foldl (fun (s : State) n => s.publish rot n (at_ n)) s
    let s := (List.range 16).foldl State.checkLimits s
    s.trimHk.chargerRound.thermal.zoneDrift

def execHkRound (readings : List (Nat × Bool)) (s : State) : Res := .next (s.hkRound readings)

/-! ### Resume (R436) -/

/-- The hold ends, step 1: PLL-T and PLL-C relock (R436). `State.resumeEnds` goes on from here. -/
def State.endHold (s : State) : State :=
  let s := { s with hkp := { s.hkp with resuming := some s.pt }, held := none }.setFlag F.HKP_THERM_HOLD false
  let s := if s.clk.halted then s else (s.gatePll 0).startLock 0
  (s.gatePll 4).startLock 4

/-- THERM_CLR (R436); where there is no hold, it ends none. -/
def State.thermClr (s : State) : State :=
  if !s.flag F.HKP_THERM_RESUME_OK then s.writeIgnored 0x110300 5
  else if s.flag F.HKP_THERM_HOLD then s.endHold
  else s

def execThermClr (s : State) : Res := .next (s.hostHold State.thermClr)

/-! ### The MRAM log (R435) -/

/-- Record `i` acknowledged; an empty one stays as it is. -/
def State.ackRecord (s : State) (i : Nat) : State :=
  match Assoc.find s.hkp.log i with
  | none => s
  | some b => if recKind (s.logRecord i) = 0 then s else { s with hkp := { s.hkp with log := Assoc.insert s.hkp.log i (setAt b 2 1) } }

/-- LOG_ACK (R435). -/
def execLogAck (s : State) : Res := .next (s.hostHold (fun s => s.ackRecord (s.reg F.HKP_LOG_ACK_INDEX)))

/-- ACK_ALL (R435). -/
def execAckAll (s : State) : Res := .next (s.hostHold (fun s => (List.range 64).foldl State.ackRecord s))

/-! ### Commands that may end the delivery of stream 18 (R338, R339, R431, R442) -/

/-- FLUSH_READ_COMPLETE (R338, R339). -/
def execFlushReadComplete (r : Nat) (ok : Bool) (s : State) : Res :=
  .next (if r < 16 then s.drainOver (s.flushComplete r ok) else s)

/-- COMPLETION_TIMEOUT (R339, R340). -/
def execCompletionTimeout (r : Nat) (s : State) : Res :=
  .next (if r < 16 then s.drainOver (s.completionTimeout r) else s)

/-! ### SLEEP and brown-out (R440, R442) -/

/-- SLEEP, steps 1 and 2 (R442). -/
def State.sleepEntry (s : State) : State :=
  let st := s.reg F.HKP_PWR_STATE
  if (st = 1 ∨ st = 2) ∧ s.isRunning = false ∧ s.flag F.CLK_MON_LF_OK = true ∧ s.thermDown = false then
    (s.setPower 5).stopRingsThen
  else s.writeIgnored 0x110400 5

def execSleep (s : State) : Res := .next (s.hostAction 0x110400 State.sleepEntry)

/-- The warning level of a main rail, in mV (Table HKP-5). -/
def railWarning (rail : Nat) : Nat :=
  match rail with
  | 0 => 720
  | 1 => 768
  | 2 => 1692
  | _ => 3168

/-- BROWN_OUT: main rail `rail` reads `mv` (R440); in SLEEP or BAY a rail that falls is no brown-out. -/
def State.brownOut (s : State) (rail mv : Nat) : State :=
  if 3 < rail ∨ railWarning rail ≤ mv then s
  else
    match s.boot.supply with
    | .run =>
      let s := { s with hkp := { s.hkp with brownouts := s.hkp.brownouts + 1 } }.killStrobes 3 true
      let s := s.logWrite s.pt 2 s.hkp.brownouts rail 0 mv (railWarning rail)
      let s := (s.setFlag F.HKP_PWR_BROWNOUT true).mainReset .reset
      (s.railLow rail mv).baySettle
    | .reset => s.railLow rail mv
    | .off => s
    | _ => { s with bay := { s.bay with railsFell := true } }.railLow rail mv

def execBrownOut (rail mv : Nat) (s : State) : Res := .next (s.brownOut rail mv)

end Sys2Proof.Machine
end

