-- ==== Sys2Proof/Machine/Fields.lean ====
section
/-! DEFINITION. What a 32-bit write does to the fields of its register, by access type and class (00_scope.md R5 to R14,
02_press_time_and_counters.md R62, 11_configuration_boot_and_security.md R371, R376). A host access and a record of a
boot image both come here; the gates of a host access stand in Access.lean. -/

namespace Sys2Proof.Machine

/-- `old` with its bits of `mask` from `v`, all of `w` bits. -/
def mergeBits (w old v mask : Nat) : Nat :=
  let m := mask % 2 ^ w
  old - (old &&& m) + (v % 2 ^ w &&& m)

/-- The bits of field `f` that a 32-bit word carries: the low half of its register, or with `high` the high half of one
wider than 32 bits (R59). Place in the field, place in the word, width. -/
def Field.inWord (f : Field) (high : Bool) : Nat × Nat × Nat :=
  if high then (32 - f.lo, 0, f.lo + f.w - 32) else (0, f.lo, min f.w (32 - f.lo))

/-- The bits of `mask` that reach field `f`. -/
def Field.reached (f : Field) (high : Bool) (mask : Nat) : Nat :=
  let (_, lo, w) := f.inWord high
  bitsAt mask lo w

/-- Field `f`, of value `old`, after a write of a word under a mask. -/
def Field.merge (f : Field) (high : Bool) (old v mask : Nat) : Nat :=
  let (at_, lo, w) := f.inWord high
  let part := bitsAt old at_ w
  old - part * 2 ^ at_ + mergeBits w part (bitsAt v lo w) (bitsAt mask lo w) * 2 ^ at_

/-- A class L value that the register maps mark as refused (R11). -/
def refusedValue (f : Field) (v : Nat) : Bool :=
  let is (g : Field) : Bool := f.key == g.key
  (is F.CNV_TEST_TOL && v == 0) || (is F.CAL_CAPT_KIND && v == 3) || (is F.CAL_CAPT_LOG2N && decide (10 < v)) ||
    (is F.TWI_CTL_ATTN_REP && v == 0) || (is F.PCX_PTM_CTL_PERIOD && v == 0) ||
    (is F.BAY_CHG_CTL_FAST_MA && (decide (v < 10) || decide (100 < v))) ||
    (is F.BAY_CHG_CTL_CAP && (decide (v < 20) || decide (200 < v))) ||
    (is F.BAY_CHG_TIMER_MINUTES && (decide (v < 60) || decide (2400 < v))) ||
    (v == 0 && (List.range 16).any (fun r => is (F.DMA_RING_MOD_COUNT r)))

/-- The block of `off` reaches its line boundary with Thyme's (R7, R12, R93); the others reach it in every cycle. That
of PTC is the T of every action, as Thyme's (notes/assumptions/65.md). -/
def waitsForLine (off : Nat) : Bool :=
  decide (0x10000 ≤ off) && decide (off < 0xB0000) || decide (0x200000 ≤ off)

/-- The block of `off` is CFG or SEC, where SAFE refuses nothing (R376). -/
def inCfgOrSec (off : Nat) : Bool := decide (0xE0000 ≤ off) && decide (off < 0x100000)

/-- The block of a class X field runs (R7): the DMA while `DMA_CTL.EN`, PTC while lines are launched (R56), and Thyme
while they are and it does not count as stopped (R108). -/
def State.blockRuns (s : State) (off : Nat) : Bool :=
  if 0xD0000 ≤ off ∧ off < 0xE0000 then s.flag F.DMA_CTL_EN
  else if 0x20000 ≤ off ∧ off < 0x30000 then !s.ringStopped
  else s.isRunning

/-- A class L field takes a value, at once or at the line boundary of its block (R7, R9, R12, R108, R325, R359). -/
def State.applyLiveField (s : State) (port : Nat) (f : Field) (v : Nat) : State :=
  if f.key = F.THY_RING_PI_PI.key then s.writeRingPi v
  else if f.key = F.CFG_VIEW_SHADOW.key ∧ port = 1 then { s with twi := { s.twi with view := v != 0 } }
  else if (List.range 16).any (fun r => f.key == (F.DMA_RING_PI_PI r).key) then
    s.writePi ((f.off - (F.DMA_RING_PI_PI 0).off) / 0x40) v
  else if waitsForLine f.off then { s with live := Assoc.insert s.live f.key v }
  else if f.key = F.BAY_CHG_CTL_EN.key then (s.setReg f v).chargerGate
  else s.setReg f v

/-- The holding stage of a port for a wide class L register (R62): the low half waits, and the high half brings both. -/
def State.writeWideLive (s : State) (port : Nat) (f : Field) (high : Bool) (v mask : Nat) : State :=
  let key := latchKey port f.off
  let held := Assoc.find s.ptc.holding key
  let low := held.getD (s.reg f % 2 ^ 32)
  if high then
    let s := { s with ptc := { s.ptc with holding := Assoc.erase s.ptc.holding key } }
    s.applyLiveField port f (f.merge true (s.reg f - s.reg f % 2 ^ 32 + low) v mask)
  else
    { s with ptc := { s.ptc with holding := Assoc.insert s.ptc.holding key (f.merge false low v mask % 2 ^ 32) } }

/-- One field of a word that is written; the second part is the reason of a WRITE_IGNORED. -/
def State.writeField (s : State) (port : Nat) (high : Bool) (v mask : Nat) (f : Field) : State × Option Nat :=
  if f.reached high mask = 0 then (s, none)
  else
    match f.acc with
    | .ro => (s, none)
    | .w1s => (s, none)
    | .w1c => (s.setReg f (s.reg f - (s.reg f &&& f.reached high mask &&& bitsAt v (f.inWord high).2.1 (f.inWord high).2.2)), none)
    | .rw =>
      let safe := s.flag F.CFG_BOOT_STAT_SAFE && !inCfgOrSec f.off
      match f.cls with
      | .none => (s.setReg f (f.merge high (s.reg f) v mask), none)
      | .s =>
        if safe then (s, some 5)
        else if s.commit.frozen then (s, some 3)
        else (s.setShadow f (f.merge high (s.shadowReg f) v mask), none)
      | .l =>
        if safe then (s, some 5)
        else if 32 < f.w then (s.writeWideLive port f high v mask, none)
        else
          let new := f.merge high (s.reg f) v mask
          if refusedValue f new then (s, some 5) else (s.applyLiveField port f new, none)
      | .x =>
        if s.blockRuns f.off then (s, some 1) else (s.setReg f (f.merge high (s.reg f) v mask), none)
      | .b =>
        if s.flag F.CFG_LOCK_LOCKED then (s, some 2)
        else if s.flag (F.SEC_SLOT_CTL_STATE ((f.off - 0xF0120) / 0x40)) then (s, none)
        else (s.setReg f (f.merge high (s.reg f) v mask), none)

/-- The fields of a register in turn; a reason of WRITE_IGNORED is logged once for the access (R7, R11). -/
def State.writeFields (s : State) (port off : Nat) (high : Bool) (v mask : Nat) : List Field → List Nat → State
  | [], why => why.foldl (fun (s : State) r => s.writeIgnored off r) s
  | f :: fs, why =>
    let (s, r) := s.writeField port high v mask f
    match r with
    | some r => s.writeFields port off high v mask fs (if why.contains r then why else why ++ [r])
    | none => s.writeFields port off high v mask fs why

/-- The fields that a 32-bit word at `off` reaches, and whether it is the high half of a wide register (R59, R486). -/
def wordFields (off : Nat) : List Field × Bool :=
  if isWideHigh off then (fieldsAt (off - 4), true) else (fieldsAt off, false)

/-- Class L values that wait come into force at once while Thyme is stopped (R7, R12, R108). -/
def State.liveIfStopped (s : State) : State :=
  if s.live.isEmpty then s else if s.isRunning then s.thymeLive else s.applyLines

/-- A 32-bit word written into the register or table window at `off`, its fields alone (R5 to R14). -/
def State.writeRegister (s : State) (port off v mask : Nat) : State :=
  let (fs, high) := wordFields off
  (s.writeFields port off high v mask fs []).liveIfStopped

end Sys2Proof.Machine
end

