-- ==== Sys2Proof/Machine/Signature.lean ====
section
/-! DEFINITION. The verification of an image's signature, pure SLH-DSA-SHA2-128s with an empty context string
(11_configuration_boot_and_security.md R369, R375). The rule names the algorithm; its steps and parameters are those of
FIPS 205 (PRESUMED, notes/assumptions/5.md): n = 16, h = 63, d = 7, a = 12, k = 14, w = 16. -/

namespace Sys2Proof.Machine.Slh

/-- Big-endian bytes of a number. -/
def be (n v : Nat) : List Byte := (leBytes n v).reverse

/-- A number from big-endian bytes. -/
def ofBe (bs : List Byte) : Nat := ofLeBytes bs.reverse

/-- The address that a hash call stands at. `hop` is the chain or the tree height, `index` the place in the chain or the
tree index. -/
structure Adrs where
  layer : Nat
  tree : Nat
  ty : Nat
  pair : Nat
  hop : Nat
  index : Nat
  deriving DecidableEq, Repr

/-- The compressed address, 22 bytes. -/
def Adrs.bytes (a : Adrs) : List Byte := be 1 a.layer ++ be 8 a.tree ++ be 1 a.ty ++ be 4 a.pair ++ be 4 a.hop ++ be 4 a.index

/-- The tweakable hash of `m` at address `a` under the public seed: F, H and T of the standard, 16 bytes. -/
def tweak (seed : List Byte) (a : Adrs) (m : List Byte) : List Byte :=
  (sha256 (seed ++ List.replicate 48 0 ++ a.bytes ++ m)).take 16

/-- The message digest, 30 bytes. -/
def digest (r seed root msg : List Byte) : List Byte :=
  let inner := r ++ seed ++ sha256 (r ++ seed ++ root ++ msg)
  (sha256 (inner ++ be 4 0)).take 30

/-- `n` digits of `b` bits from bytes, the highest first. -/
def digits (b n : Nat) (bs : List Byte) : List Nat :=
  let v := ofBe bs
  let all := 8 * bs.length
  (List.range n).map (fun i => v / 2 ^ (all - b * (i + 1)) % 2 ^ b)

/-- Entry `i` of a list of 16-byte values. -/
def value (bs : List Byte) (i : Nat) : List Byte := (bs.drop (16 * i)).take 16

/-- `n` hash steps along a chain from place `j`. -/
def chain (seed : List Byte) (a : Adrs) : Nat → Nat → List Byte → List Byte
  | 0, _, x => x
  | n + 1, j, x => chain seed a n (j + 1) (tweak seed { a with index := j } x)

/-- From a node at height `k` and tree index `place`, `n` levels up by the siblings of `auth`. -/
def climb (seed : List Byte) (a : Adrs) (auth : List Byte) : Nat → Nat → Nat → List Byte → List Byte
  | 0, _, _, node => node
  | n + 1, k, place, node =>
    let sibling := value auth k
    let m := if place % 2 = 0 then node ++ sibling else sibling ++ node
    climb seed a auth n (k + 1) (place / 2) (tweak seed { a with hop := k + 1, index := place / 2 } m)

/-- The one-time public key that a WOTS+ signature of `m` gives. -/
def wotsKey (seed : List Byte) (a : Adrs) (sig m : List Byte) : List Byte :=
  let d1 := digits 4 32 m
  let sum := (d1.map (fun x => 15 - x)).foldl (· + ·) 0
  let ds := d1 ++ digits 4 3 (be 2 (16 * sum))
  let ends := (List.range 35).flatMap (fun i =>
    let x := ds[i]?.getD 0
    chain seed { a with ty := 0, hop := i, index := 0 } (15 - x) x (value sig i))
  tweak seed { a with ty := 1, hop := 0, index := 0 } ends

/-- The root of one tree of the hypertree, of height 9, from the signature of `m` by its leaf `a.pair`. -/
def xmssRoot (seed : List Byte) (a : Adrs) (sig m : List Byte) : List Byte :=
  climb seed { a with ty := 2, pair := 0 } (sig.drop 560) 9 0 a.pair (wotsKey seed a sig m)

/-- The root that `n` layers of the hypertree give, from layer `j` up. -/
def hyperRoot (seed : List Byte) : Nat → Nat → Nat → Nat → List Byte → List Byte → List Byte
  | 0, _, _, _, _, m => m
  | n + 1, j, tree, leaf, sig, m =>
    hyperRoot seed n (j + 1) (tree / 512) (tree % 512) (sig.drop 704) (xmssRoot seed ⟨j, tree, 0, leaf, 0, 0⟩ sig m)

/-- The FORS public key that a FORS signature of digest part `md` gives. -/
def forsKey (seed : List Byte) (a : Adrs) (sig md : List Byte) : List Byte :=
  let roots := ((digits 12 14 md).zip (List.range 14)).flatMap (fun (x, i) =>
    let part := sig.drop (208 * i)
    let place := 4096 * i + x
    climb seed { a with ty := 3 } (part.drop 16) 12 0 place (tweak seed { a with ty := 3, index := place } (value part 0)))
  tweak seed { a with ty := 4 } roots

/-- A signature of 7,856 bytes verifies for `msg` under a 32-byte public key, PK.seed and then PK.root. -/
def verify (key msg sig : List Byte) : Bool :=
  let seed := key.take 16
  let root := (key.drop 16).take 16
  let d := digest (sig.take 16) seed root ([0, 0] ++ msg)
  let tree := ofBe ((d.drop 21).take 7) % 2 ^ 54
  let leaf := ofBe ((d.drop 28).take 2) % 2 ^ 9
  let fors := forsKey seed ⟨0, tree, 3, leaf, 0, 0⟩ (sig.drop 16) (d.take 21)
  sig.length == 7856 && hyperRoot seed 7 0 tree leaf (sig.drop 2928) fors == root

end Sys2Proof.Machine.Slh

namespace Sys2Proof.Machine

/-- The signature in the last 7,856 bytes of an image verifies over all bytes before it, under the key of bytes 32 to 63
(R369, R375). -/
def signatureOk (img : List Byte) : Bool :=
  let n := img.length - 7856
  Slh.verify ((img.drop 32).take 32) (img.take n) (img.drop n)

end Sys2Proof.Machine
end

