-- ==== Sys2Proof/Machine/Boot.lean ====
section
/-! DEFINITION. Reset, the read of the image, its verification and application, host reboot, owner keys, the lock and
attestation (11_configuration_boot_and_security.md R369 to R383, 12_two_wire_management_port.md R397 to R404,
16_pins_package_and_electrical.md R475). -/

namespace Sys2Proof.Machine

/-! ### Reset and release (R437, R439, R443, R475) -/

/-- The straps that the release of RESET_N samples: TW_ADDR in bits [2:0], CHAIN_HEAD in bit 3 (R385, R475). -/
def State.sampleStraps (s : State) (straps : Nat) : State :=
  let head := bitAt straps 3
  ((s.setReg F.TWI_STAT_ADDR (0x68 + straps % 8)).setFlag F.CHV_POS_HEAD head).setFlag F.PTC_PT_CTL_HEAD head

/-- RESET_N_RELEASE (R373, R439, R475). -/
def State.resetReleased (s : State) (straps : Nat) : State :=
  if s.boot.resetN then s
  else ({ s with boot := { s.boot with resetN := true } }.sampleStraps straps).supervise

def execResetNRelease (straps : Nat) (s : State) : Res := .next (s.resetReleased straps)

/-- RESET_N_LOW (R42, R437, R441, R443): the main domains go into reset, which is then no longer one that follows a
brown-out (Table HKP-13); without their power only the level changes. -/
def State.resetLow (s : State) : State :=
  let s := { s with boot := { s.boot with resetN := false } }
  match s.boot.supply with
  | .bay _ => s
  | .off => s
  | _ =>
    let held := s.boot.supply == .reset
    let s := s.mainReset .reset
    let s := if held then s else s.setFlag F.HKP_PWR_BROWNOUT false
    { s with bay := { s.bay with wake := none, held := none } }.baySettle

def execResetNLow (s : State) : Res := .next s.resetLow

/-- MAIN_DOMAINS_RELEASE (R439): every main rail has stayed above its warning level for 64 LFCLK cycles. -/
def State.railsUp (s : State) : State :=
  match s.boot.supply with
  | .reset => { s with bay := { s.bay with railsGood := true, railsOff := 0 } }.supervise
  | .sleep => { s with bay := { s.bay with railsGood := true, railsOff := 0 } }.supervise
  | _ => s

def execMainDomainsRelease (s : State) : Res := .next s.railsUp

/-! ### A boot that fails (R376, R380) -/

/-- The configuration lock is set, from `source` (R380). -/
def State.lockConfig (s : State) (source : Nat) : State :=
  if s.flag F.CFG_LOCK_LOCKED then s
  else ((s.setFlag F.CFG_LOCK_LOCKED true).setReg F.CFG_LOCK_SOURCE source).log 0x0A0A [(1, source)]

/-- Boot ends in SAFE for `reason` (Table CFG-9); the PLL pairs of an image that fails never apply (R410). -/
def State.bootFail (s : State) (reason : Nat) : State :=
  let s := { s with boot := { s.boot with read := .idle, backoff := false }, clk := { s.clk with newPairs := 0 } }
  let s := ((s.setReg F.CFG_BOOT_STAT_PHASE 6).setFlag F.CFG_BOOT_STAT_SAFE true).setReg F.CFG_BOOT_STAT_FAIL reason
  ((s.log 0x0A07 [(1, reason)]).lockConfig 3).setPower 1

/-! ### The read of the image (R397 to R404) -/

/-- The boot controller acts: in phase 2, out of the halt of a shutdown, with XREF good (R421, R433). -/
def State.reads (s : State) : Bool :=
  s.boot.supply == .run && s.reg F.CFG_BOOT_STAT_PHASE == 2 && s.boot.read != .idle && !s.boot.halted && !s.clk.refLost

/-- The lowest key from `n` on that a rising list lacks. -/
def firstGap {α : Type} : Nat → Assoc α → Nat
  | n, [] => n
  | n, (k, _) :: r => if k = n then firstGap (n + 1) r else n

/-- Bytes from `a` up that are lacked so far, those below `limit`, go into the list. -/
def takeBytes (limit : Nat) : Nat → List Byte → Assoc Byte → Assoc Byte
  | _, [], m => m
  | a, b :: r, m => takeBytes limit (a + 1) r (if a < limit && (Assoc.find m a).isNone then Assoc.insert m a b else m)

/-- LENGTH as the bytes read so far give it (Table CFG-5); none before they are all there. -/
def imageLength (got : Assoc Byte) : Option Nat :=
  match Assoc.find got 8, Assoc.find got 9, Assoc.find got 10, Assoc.find got 11 with
  | some a, some b, some c, some d => some (ofLeBytes [a, b, c, d])
  | _, _, _, _ => none

/-- Bytes 0 to 3 read "VLBI". -/
def magicOk (bs : List Byte) : Bool := bs.take 4 == [0x56, 0x4C, 0x42, 0x49]

/-- The most bytes that an image may have in addressing mode `mode` (R399). -/
def imageRoom (mode : Nat) : Nat := if mode = 1 then 262144 else 524288

/-- LENGTH is one that the header and the addressing mode allow (Table CFG-5, R399). -/
def lengthOk (mode n : Nat) : Bool :=
  decide (7984 ≤ n) && decide (n ≤ imageRoom mode)

/-- After bytes have been taken: a LENGTH that cannot be read fails the boot, and the last chunk ends the read (R399,
R404). -/
def State.readProgress (s : State) : State :=
  match imageLength s.boot.got with
  | none => s
  | some n =>
    let mode := s.reg F.TWI_BOOT_STAT_MODE
    if !lengthOk mode n then s.bootFail 2
    else if firstGap 0 s.boot.got < n then s
    else
      let image := (s.boot.got.filter (fun x => decide (x.1 < n))).map (fun x => x.2)
      let s := { s with boot := { s.boot with image := some image, read := .idle, backoff := false } }
      let s := s.setFlag F.TWI_BOOT_STAT_DONE true
      (s.log 0x0B06 [(1, mode), (4, n), (4, s.reg F.TWI_BOOT_LISTENED_V), (1, min 255 (s.reg F.TWI_BOOT_STAT_ARB_LOST)),
        (4, (s.pt - s.boot.since).toNat / 1500000)]).enterPhase3

/-- Bytes of the image from `a` up are taken, up to LENGTH where it is known. -/
def State.takeImage (s : State) (a : Nat) (bs : List Byte) : State :=
  let limit := (imageLength s.boot.got).getD (imageRoom (s.reg F.TWI_BOOT_STAT_MODE))
  { s with boot := { s.boot with got := takeBytes limit a bs s.boot.got } }

/-- A lost arbitration is counted, and the back-off runs (R402). -/
def State.loseBus (s : State) : State :=
  { s with boot := { s.boot with backoff := true } }.setReg F.TWI_BOOT_STAT_ARB_LOST
    (min 65535 (s.reg F.TWI_BOOT_STAT_ARB_LOST + 1))

/-- The probe has found its mode, and keeps the chunk it read (R399). -/
def State.probeFound (s : State) (mode : Nat) (data : List Byte) : State :=
  let s := { s with boot := { s.boot with read := .chunks } }.setReg F.TWI_BOOT_STAT_MODE mode
  (s.takeImage 0 (data.take 256)).readProgress

/-- The device address of a write, and it with the word address behind it, for image bytes `b` up in addressing mode
`mode` (R400). -/
def bootAddress (mode b : Nat) : Nat × List Byte :=
  let dev := 2 * (0x50 + (if mode = 1 then b / 65536 else 0))
  let word : List Nat := if mode = 1 then [b / 256 % 256, b % 256] else [b / 65536, b / 256 % 256, b % 256]
  (dev, (dev :: word).map (BitVec.ofNat 8))

/-- The controller's transaction for image bytes `b` up in addressing mode `mode`: device and word address, and `n`
bytes read (R399, R400). `acked`: the device answers; `lost`: the controller has lost the bus behind them (R402). -/
def bootTransaction (mode b n : Nat) (acked lost : Bool) : Emission :=
  let (dev, all) := bootAddress mode b
  if acked then .bootRead all (some (BitVec.ofNat 8 (dev + 1), n)) (!lost) else .bootRead [BitVec.ofNat 8 dev] none true

/-- A transaction whose bus is lost before any byte has been read: `k` of its bytes had been driven whole, the address
byte of the read as the last of them; then it drives nothing more (R402). -/
def lostTransaction (mode b k : Nat) : Emission :=
  let (dev, all) := bootAddress mode b
  if k ≤ all.length then .bootRead (all.take k) none false else .bootRead all (some (BitVec.ofNat 8 (dev + 1), 0)) false

/-- The lowest chunk that lacks a byte: its first byte and its length (R400). -/
def State.nextChunk (s : State) : Nat × Nat :=
  let a := firstGap 0 s.boot.got / 256 * 256
  (a, min 256 ((imageLength s.boot.got).getD 524288 - a))

/-- The transaction for image bytes `b` up goes out as far as the controller has driven it; `data` is what it read.
Where it lost the bus before the first byte of them, how far it had come is a free value (R400, R402,
notes/assumptions/69.md). -/
def State.driveBoot (s : State) (mode b n : Nat) (lost : Bool) (data : List Byte) : State :=
  if lost && data.isEmpty then
    let (k, s) := s.drawFree 3
    s.emit (lostTransaction mode b (k % (mode + 4)))
  else s.emit (bootTransaction mode b (if lost then data.length else n) (!data.isEmpty) lost)

/-- The transaction that the controller drives now (R399, R400): `data` is what it read. -/
def State.bootDrives (s : State) (lost : Bool) (data : List Byte) : State :=
  let (a, n) := s.nextChunk
  match s.boot.read with
  | .chunks => s.driveBoot (s.reg F.TWI_BOOT_STAT_MODE) a n lost data
  | .probe1 => s.driveBoot 1 0 256 lost data
  | .probe2 _ => s.driveBoot 2 0 256 lost data
  | _ => s

/-- BOOT_CHUNK_READ (R398 to R400, R402): one transaction of the controller on the free bus, with the bytes it read;
with `lost`, up to the bit at which it lost arbitration. No bytes and no loss: the device did not acknowledge. After a
recovery that failed its START says that the bus has become free, by a STOP or with SCL and SDA high for a period. -/
def State.chunkRead (s : State) (lost : Bool) (data : List Byte) : State :=
  if !s.reads || s.boot.backoff then s
  else
    let s := { s with boot := { s.boot with stuck := false } }.bootDrives lost data
    match s.boot.read with
    | .chunks =>
      let s := if lost then s.loseBus else s
      (s.takeImage (s.nextChunk).1 (data.take 256)).readProgress
    | .probe1 =>
      if lost then s.loseBus
      else if magicOk data then s.probeFound 1 data
      else { s with boot := { s.boot with read := .probe2 (!data.isEmpty) } }
    | .probe2 acked =>
      if lost then s.loseBus
      else if magicOk data then s.probeFound 2 data
      else if acked || !data.isEmpty then s.bootFail 2
      else if s.boot.probes < 10 then { s with boot := { s.boot with read := .retry } }
      else s.bootFail 1
    | _ => s

def execBootChunkRead (lost : Bool) (data : List Byte) (s : State) : Res := .next (s.chunkRead lost data)

/-- EEPROM_PROBE_RETRY (R399). -/
def execEepromProbeRetry (s : State) : Res :=
  .next (if s.reads && s.boot.read == .retry then
    { s with boot := { s.boot with read := .probe1, probes := s.boot.probes + 1 } }
  else s)

/-- The image bytes of a foreign transaction in the form of R400 in addressing mode `mode`: `parts` are its bytes on the
bus, address bytes included, from each START or repeated START to the next or the STOP (R401). -/
def listenedBytes (mode : Nat) (parts : List (List Byte)) : Option (Nat × List Byte) :=
  match mode, parts with
  | 1, [[w, a1, a0], r :: data] =>
    if 0xA0 ≤ w.toNat ∧ w.toNat ≤ 0xA6 ∧ w.toNat % 2 = 0 ∧ r.toNat = w.toNat + 1 then
      let a := 256 * a1.toNat + a0.toNat
      some ((w.toNat - 0xA0) / 2 * 65536 + a, data.take (65536 - a))
    else none
  | 2, [[w, a2, a1, a0], r :: data] =>
    if w.toNat = 0xA0 ∧ r.toNat = 0xA1 then some (65536 * a2.toNat + 256 * a1.toNat + a0.toNat, data) else none
  | _, _ => none

/-- LISTENED_TRANSACTION (R401). -/
def State.listened (s : State) (parts : List (List Byte)) : State :=
  if !s.reads || s.boot.read != .chunks then s
  else
    match listenedBytes (s.reg F.TWI_BOOT_STAT_MODE) parts with
    | none => s
    | some (a, bs) =>
      let n := s.boot.got.length
      let s := s.takeImage a bs
      (s.addReg F.TWI_BOOT_LISTENED_V (s.boot.got.length - n)).readProgress

def execListenedTransaction (parts : List (List Byte)) (s : State) : Res := .next (s.listened parts)

/-- BACKOFF_EXPIRY (R402). -/
def execBackoffExpiry (s : State) : Res := .next { s with boot := { s.boot with backoff := false } }

/-- BUS_STUCK (R398): a recovery of `clocks` clocks and a STOP, which frees the bus or fails. -/
def State.busStuck (s : State) (clocks : Nat) (freed : Bool) : State :=
  if !s.reads then s
  else
    let s := { s with boot := { s.boot with stuck := !freed } }.emit (.busClocks clocks)
    let s := s.log 0x0B05 [(4, clocks), (1, boolBit (!freed))]
    if freed then s
    else
      let n := s.reg F.TWI_BOOT_STAT_RECOVERIES + 1
      let s := s.setReg F.TWI_BOOT_STAT_RECOVERIES n
      if 3 ≤ n then s.bootFail 1 else s

def execBusStuck (clocks : Nat) (freed : Bool) (s : State) : Res := .next (s.busStuck clocks freed)

/-! ### The image (R369 to R372) -/

/-- A section table entry (Table CFG-6). -/
structure Sect where
  ty : Nat
  pos : Nat
  zero1 : Nat
  off : Nat
  len : Nat
  zero4 : Nat
  deriving DecidableEq, Repr

/-- Sections of an image. -/
def imageSects (img : List Byte) : List Sect :=
  (List.range (leAt img 12 2)).map (fun i =>
    let e := (img.drop (64 + 16 * i)).take 16
    ⟨leAt e 0 2, leAt e 2 1, leAt e 3 1, leAt e 4 4, leAt e 8 4, leAt e 12 4⟩)

/-- The bytes of a section. -/
def Sect.bytes (x : Sect) (img : List Byte) : List Byte := (img.drop x.off).take x.len

/-- Records of `n` bytes. -/
def recordsOf (n : Nat) (bs : List Byte) : List (List Byte) :=
  (List.range (bs.length / n)).map (fun i => (bs.drop (n * i)).take n)

/-- The header keeps Table CFG-5. -/
def headerOk (img : List Byte) : Bool :=
  magicOk img && leAt img 4 2 == 1 && decide (leAt img 6 2 < 4) && lengthOk 2 (leAt img 8 4)
    && img.length == leAt img 8 4 && decide (1 ≤ leAt img 12 2) && decide (leAt img 12 2 ≤ 64)
    && leAt img 14 2 == 0 && leAt img 24 8 == 0

/-- A seed record keeps R372. -/
def seedRecordOk (r : List Byte) : Bool :=
  let kind := leAt r 4 1
  leAt r 6 2 == 0 && (if kind = 0 then decide (leAt r 5 1 < 6)
    else (kind == 1 || kind == 2) && decide (leAt r 5 1 < 3) && leAt r 16 8 == 0)

/-- A table section's target range lies inside `lo … hi` (Table CFG-7). -/
def tableOk (lo hi : Nat) (bs : List Byte) : Bool :=
  decide (4 ≤ bs.length) && decide (lo ≤ leAt bs 0 4) && decide (leAt bs 0 4 + (bs.length - 4) ≤ hi + 1)

/-- One section keeps Table CFG-6, R370 and R372. -/
def sectOk (img : List Byte) (nsect length : Nat) (x : Sect) : Bool :=
  let pos := if x.ty = 2 then decide (x.pos ≤ 23) else x.pos == 0xFF
  let content :=
    match x.ty with
    | 1 => x.len % 12 == 0
    | 2 => x.len % 12 == 0
    | 3 => tableOk 0x200000 0x2020FF (x.bytes img)
    | 4 => tableOk 0x220000 0x2DFFFF (x.bytes img)
    | 5 => x.len % 24 == 0 && (recordsOf 24 (x.bytes img)).all seedRecordOk
    | _ => false
  pos && x.zero1 == 0 && x.zero4 == 0 && x.off % 4 == 0 && x.len % 4 == 0 && decide (64 + 16 * nsect ≤ x.off)
    && decide (x.off + x.len ≤ length - 7856) && content

/-- Two sections do not overlap. -/
def sectApart (a b : Sect) : Bool := decide (a.off + a.len ≤ b.off) || decide (b.off + b.len ≤ a.off)

/-- No two sections of a list overlap. -/
def sectsApart : List Sect → Bool
  | [] => true
  | a :: r => r.all (fun b => sectApart a b) && sectsApart r

/-- The section table keeps R369, R370 and R372. -/
def sectionsOk (img : List Byte) : Bool :=
  (imageSects img).all (sectOk img (leAt img 12 2) (leAt img 8 4)) && sectsApart (imageSects img)

/-! ### Phase 3 (R373, R375) -/

/-- The stored hash of slot `k`. -/
def State.slotHash (s : State) (k : Nat) : List Byte :=
  (List.range 8).flatMap (fun j => leBytes 4 (s.reg (F.SEC_SLOT_HASH_V k j)))

/-- A slot is not EMPTY. -/
def State.owned (s : State) : Bool := (List.range 4).any (fun k => s.flag (F.SEC_SLOT_CTL_STATE k))

/-- The ACTIVE slot whose hash is that of the image's public key (R375). -/
def State.keySlot (s : State) (img : List Byte) : Option Nat :=
  let h := sha256 ((img.drop 32).take 32)
  (List.range 4).find? (fun k => s.reg (F.SEC_SLOT_CTL_STATE k) == 1 && s.slotHash k == h)

/-- Store DRAM as a host reboot takes its image: LENGTH bytes, within the bounds of Table CFG-5 (R377). -/
def State.hostImage (s : State) : List Byte :=
  s.dram 0x1800000 (max 64 (min 524288 (leAt (s.dram 0x1800000 64) 8 4)))

/-- The first signature failure causes a complete re-read (R373, R404). -/
def State.reread (s : State) : State :=
  let s := s.setFlag F.CFG_BOOT_STAT_REREAD true
  if s.flag F.CFG_BOOT_STAT_FROM_HOST then { s with boot := { s.boot with image := some s.hostImage } }
  else (s.bootRead .chunks).setReg F.CFG_BOOT_STAT_PHASE 2

/-- IMAGE_VERIFIED (R373, R375): header, key, signature, rollback, section table, in this order. -/
def State.verifyImage (s : State) : State :=
  if s.reg F.CFG_BOOT_STAT_PHASE ≠ 3 || s.boot.halted then s
  else
    match s.boot.image with
    | none => s
    | some img =>
      if !headerOk img then s.bootFail 2
      else if s.owned && (s.keySlot img).isNone then s.bootFail 3
      else if !signatureOk img then
        if s.flag F.CFG_BOOT_STAT_REREAD then s.bootFail 4 else s.reread
      else if leAt img 16 4 < s.reg F.SEC_RB_V then s.bootFail 5
      else if !sectionsOk img then s.bootFail 2
      else s.setReg F.CFG_BOOT_STAT_PHASE 4

def execImageVerified (s : State) : Res := .next s.verifyImage

/-! ### Phase 4 (R371 to R373) -/

/-- A register record may write `off` under `mask` (R371). -/
def recordAllowed (off mask : Nat) : Bool :=
  let place := decide (off < 0xE0000) || (decide (0x100000 ≤ off) && decide (off < 0x150000))
    || (decide (0x200000 ≤ off) && decide (off < 0x202100)) || (decide (0x220000 ≤ off) && decide (off < 0x2E0000))
  let (fs, high) := wordFields off
  off % 4 == 0 && place && fs.all (fun f => (f.acc != .w1c && f.acc != .w1s) || f.reached high mask == 0)

/-- A PLL pair that the image writes: a record whose mask reaches REF_MODE or N (R410). -/
def State.notePair (s : State) (off mask : Nat) : State :=
  (List.range 5).foldl (fun (s : State) x =>
    if (F.CLK_PLL_CTL_N x).off = off ∧
        ((F.CLK_PLL_CTL_N x).reached false mask ≠ 0 ∨ (F.CLK_PLL_CTL_REF_MODE x).reached false mask ≠ 0) then
      { s with clk := { s.clk with newPairs := withBit s.clk.newPairs x true } }
    else s) s

/-- The image's accesses use no port of a host; its number keeps their holding stage apart (R62). -/
def imagePort : Nat := 2

/-- The value `v` is kept in word `i` of the MSI-X table: the address is a multiple of 4, the mask is bit 0 of the
control word, and a pending message of a vector that is unmasked goes out (R326, R342). -/
def State.putMsix (s : State) (i v : Nat) : State :=
  let v := v % 2 ^ 32
  let v := if i % 16 = 0 then v / 4 * 4 else if i % 16 = 12 then v % 2 else v
  let table := if v = msixReset i then Assoc.erase s.dma.msix i else Assoc.insert s.dma.msix i v
  let s := { s with dma := { s.dma with msix := table } }
  let n := i / 16
  if i % 16 = 12 ∧ v = 0 ∧ bitAt s.dma.pba n = true then
    ({ s with dma := { s.dma with pba := withBit s.dma.pba n false } }).sendMsix n
  else s

/-- A record writes `v` under `mask` at `off` (R371): into the MSI-X table, or into the fields of a register or
window. -/
def State.writeRecordWord (s : State) (off v mask : Nat) : State :=
  if 0x148000 ≤ off ∧ off < 0x148400 then
    let i := off - 0x148000
    s.putMsix i (mergeBits 32 (s.msixWord i) v mask)
  else (s.writeRegister imagePort off v mask).notePair off mask

/-- The register records of a section in turn, and whether all keep R371. The first that breaks it ends them; what stood
before it stays written. -/
def State.applyRecords : List (List Byte) → State → State × Bool
  | [], s => (s, true)
  | r :: rs, s =>
    let off := leAt r 0 4
    let mask := leAt r 4 4
    if recordAllowed off mask then State.applyRecords rs (s.writeRecordWord off (leAt r 8 4) mask) else (s, false)

/-- Bytes copied into the table windows from `a` up (Table CFG-7). -/
def State.copyTable : Nat → List Byte → State → State
  | _, [], s => s
  | a, b :: r, s =>
    let k := 8 * (a % 4)
    State.copyTable (a + 1) r (s.writeRegister imagePort (a - a % 4) (b.toNat * 2 ^ k) (0xFF * 2 ^ k))

/-- One section is applied, and whether it keeps R371 (Table CFG-7). -/
def State.applySect (s : State) (img : List Byte) (x : Sect) : State × Bool :=
  let bs := x.bytes img
  match x.ty with
  | 1 => State.applyRecords (recordsOf 12 bs) s
  | 2 => if x.pos = s.posNow then State.applyRecords (recordsOf 12 bs) s else (s, true)
  | 5 => ({ s with cal := { s.cal with seed := some (s.cal.seed.getD [] ++ bs) } }, true)
  | _ => (State.copyTable (leAt bs 0 4) (bs.drop 4) s, true)

/-- The sections in table order, up to one that breaks R371. -/
def State.applySects (img : List Byte) : List Sect → State → State × Bool
  | [], s => (s, true)
  | x :: xs, s =>
    let (s, good) := s.applySect img x
    if good then State.applySects img xs s else (s, false)

/-- The configuration takes effect as a commit with NOW, and the pins are driven (R43, R174, R364, R365, R373). The
commit's ID and TARGET_SN are those of `CFG_COMMIT` as the image leaves them (notes/assumptions/64.md). -/
def State.bootCommit (s : State) : State :=
  let s := s.setDigest F.CFG_DIGEST_PEND_V (digestOf s.target)
  let s := s.commitEffect (s.reg F.CFG_COMMIT_ID) (BitVec.ofNat 32 (s.reg F.CFG_COMMIT_SN_V)) s.snNow s.opensNow
  let s := s.driveStrobes.evtDrive true (!s.tclkRuns)
  { s with thy := { s.thy with trigOut := some false } }

/-- The PLL pairs that the image has written are applied, T, H, B and C; that of PLL-P waits (R410). -/
def State.applyPairs (s : State) : State :=
  [0, 1, 2, 4].foldl State.applyPair
    { s with clk := { s.clk with imagePairs := s.clk.imagePairs ||| s.clk.newPairs, newPairs := 0 } }

/-- The rollback counter takes a higher value (R375, R379). -/
def State.advanceRollback (s : State) (v : Nat) : State :=
  let old := s.reg F.SEC_RB_V
  if old < v then (s.setReg F.SEC_RB_V v).log 0x0A08 [(4, old), (4, v)] else s

/-- Boot has reached STANDBY with image `img` (R373, R375, R380). -/
def State.bootDone (s : State) (img : List Byte) : State :=
  let slot := s.keySlot img
  let s := { s with boot := { s.boot with hash := sha256 img } }
  let s := (s.setReg F.CFG_IMAGE_ID_V (leAt img 20 4)).setReg F.CFG_IMAGE_RB_V (leAt img 16 4)
  let s := (s.setReg F.SEC_STAT_KEY_USED (slot.getD 0)).setFlag F.SEC_STAT_KEY_VALID slot.isSome
  let s := if s.validSets = [] ∧ s.cal.seed.isSome then s.triggerRebuild else s
  let s := s.applyPairs
  let s := (s.setReg F.CFG_BOOT_STAT_PHASE 5).setPower 2
  let s := s.log 0x0A06 [(4, leAt img 20 4), (1, slot.getD 0xFF), (1, s.reg F.CFG_BOOT_STAT_FROM_HOST)]
  let s := if bitAt (leAt img 6 2) 1 then s.advanceRollback (leAt img 16 4) else s
  if bitAt (leAt img 6 2) 0 then s.lockConfig 1 else s

/-- BOOT_APPLY_DONE (R371, R373, R376). -/
def State.applyImage (s : State) : State :=
  if s.reg F.CFG_BOOT_STAT_PHASE ≠ 4 || s.boot.halted then s
  else
    match s.boot.image with
    | none => s
    | some img =>
      let (s, good) := State.applySects img (imageSects img) s
      if !good then s.bootFail 6
      else
        match s.checkConfig none s.target with
        | some (r, off) => ((s.setReg F.CFG_STAT_REASON r).setReg F.CFG_REJ_OFS_V off).bootFail 7
        | none => s.bootCommit.bootDone img

def execBootApplyDone (s : State) : Res := .next s.applyImage

/-! ### Host reboot (R377) -/

/-- Cells of the blocks that a host reboot leaves: PTC, CHV, DMA, CLK, HKP, BAY and PCX. -/
def rebootCell (x : Nat × Nat) : Bool :=
  cellIn 0x10000 0x20000 x || cellIn 0xC0000 0xE0000 x || cellIn 0x100000 0x130000 x || cellIn 0x140000 0x150000 x

/-- The other blocks return to reset. -/
def State.rebootBlocks (s : State) : State :=
  let z := State.reset
  { s with
    regs := s.regs.filter (fun x => rebootCell x || s.keptCell x), shadow := [], live := [], lines := [],
    thy := z.thy, arr := { z.arr with kills := s.arr.kills }, cnv := z.cnv, lfl := z.lfl, cal := z.cal, pip := z.pip,
    sor := z.sor, commit := z.commit, twi := z.twi,
    mem := s.mem.filter (fun c => decide (c.1 < dramBase + 0x8000000)) }

/-- HOST_REBOOT (R377): phase 1 with the set checks alone, and phase 3 on the image in store DRAM. -/
def State.hostReboot (s : State) : State :=
  if s.flag F.CFG_BOOT_STAT_SAFE || (s.reg F.HKP_PWR_STATE == 2 && !s.isRunning) then
    let s := s.rebootBlocks
    let s := { s with boot := { s.boot with
      read := .idle, got := [], backoff := false, report := none, hash := List.replicate 32 0,
      image := some s.hostImage } }
    let s := (s.setFlag F.THY_CTL_SYNCED s.isSynced).setFlag F.CFG_BOOT_STAT_FROM_HOST true
    let s := ((s.setPower 0).setReg F.CFG_BOOT_STAT_PHASE 1).bootSets
    (if s.isHead then s.checkLead else s).setReg F.CFG_BOOT_STAT_PHASE 3
  else s.writeIgnored 0xE0034 5

def execHostReboot (s : State) : Res := .next (s.hostAction 0xE0034 State.hostReboot)

/-! ### Keys, rollback, lock (R378 to R380) -/

/-- CFG_LOCK (R380, R432). -/
def execCfgLock (s : State) : Res := .next (s.hostHold (fun s => s.lockConfig 2))

/-- A key slot takes a state (R378). -/
def State.setSlot (s : State) (k st : Nat) : State :=
  ((s.setReg (F.SEC_SLOT_CTL_STATE k) st).setFlag F.SEC_STAT_OWNED true).log 0x0A09 [(1, k), (1, st)]

/-- SLOT_PROGRAM (R378). -/
def State.programSlot (s : State) (k : Nat) : State :=
  if s.reg (F.SEC_SLOT_CTL_STATE k) = 0 ∧ s.flag F.CFG_LOCK_LOCKED = false then s.setSlot k 1
  else s.writeIgnored (F.SEC_SLOT_CTL_PROGRAM k).off 2

def execSlotProgram (k : Nat) (s : State) : Res :=
  .next (if k < 4 then s.hostAction (F.SEC_SLOT_CTL_PROGRAM k).off (fun s => s.programSlot k) else s)

/-- SLOT_REVOKE (R378): `KEY_USED` counts while `KEY_VALID` says that it means something. -/
def State.revokeSlot (s : State) (k : Nat) : State :=
  let used := s.flag F.SEC_STAT_KEY_VALID && s.reg F.SEC_STAT_KEY_USED == k
  if s.reg (F.SEC_SLOT_CTL_STATE k) = 1 ∧ s.flag F.CFG_LOCK_LOCKED = false ∧ used = false then s.setSlot k 2
  else s.writeIgnored (F.SEC_SLOT_CTL_REVOKE k).off 2

def execSlotRevoke (k : Nat) (s : State) : Res :=
  .next (if k < 4 then s.hostAction (F.SEC_SLOT_CTL_REVOKE k).off (fun s => s.revokeSlot k) else s)

/-- SEC_RB_ADVANCE (R379, R380). -/
def State.rbAdvance (s : State) : State :=
  if s.flag F.CFG_LOCK_LOCKED then s.writeIgnored 0xF0014 2 else s.advanceRollback (s.reg F.CFG_IMAGE_RB_V)

def execSecRbAdvance (s : State) : Res := .next (s.hostAction 0xF0014 State.rbAdvance)

/-! ### Attestation (R381) -/

/-- The 32-bit words of `n` registers as bytes. -/
def State.regBytes (s : State) (f : Nat → Field) (n : Nat) : List Byte :=
  (List.range n).flatMap (fun i => leBytes 4 (s.reg (f i)))

/-- Report bytes 0 to 255 at this moment (Table CFG-10). -/
def State.reportBody (s : State) : List Byte :=
  let thermal := (List.range 64).any (fun i => recOpen (s.logRecord i) && recKind (s.logRecord i) == 1)
  let flags := boolBit s.owned + 2 * s.reg F.CFG_LOCK_LOCKED + 4 * s.reg F.CFG_BOOT_STAT_SAFE + 8 * boolBit thermal
  let slots := (List.range 4).foldl (fun n k => n + 4 ^ k * s.reg (F.SEC_SLOT_CTL_STATE k)) 0
  let used := if s.flag F.SEC_STAT_KEY_VALID then s.reg F.SEC_STAT_KEY_USED else 0xFF
  [0x56, 0x4C, 0x41, 0x52] ++ leBytes 2 1 ++ leBytes 2 flags ++ s.regBytes F.SEC_DEVICE_ID_V 4 ++ s.regBytes F.SEC_ID_PK_V 8
    ++ s.regBytes F.SEC_NONCE_V 8 ++ leBytes 8 s.pt.toNat ++ s.boot.hash ++ leBytes 4 (s.reg F.CFG_IMAGE_ID_V)
    ++ leBytes 4 (s.reg F.CFG_IMAGE_RB_V) ++ leBytes 4 (s.reg F.SEC_RB_V) ++ leBytes 1 used ++ leBytes 1 slots
    ++ leBytes 1 s.posNow ++ [0] ++ s.regBytes F.CFG_DIGEST_V 8 ++ leBytes 4 s.snNow.toNat
    ++ leBytes 4 (s.reg F.CFG_BOOT_COUNT_V) ++ sha256 ((List.range 4).flatMap s.slotHash) ++ List.replicate 40 0

/-- ATTEST_RUN. -/
def State.attestRun (s : State) : State :=
  if s.flag F.SEC_STAT_ATT_BUSY then s.writeIgnored 0xF0020 5
  else { s with boot := { s.boot with report := some s.reportBody } }.setFlag F.SEC_STAT_ATT_BUSY true

def execAttestRun (s : State) : Res := .next (s.hostAction 0xF0020 State.attestRun)

/-- ATTEST_DONE: the report with its signature is written (R381). -/
def State.attestDone (s : State) : State :=
  match s.boot.report with
  | none => s
  | some b =>
    let sig := (List.range 17088).map (Config.reportSignature b)
    let s := { s with boot := { s.boot with report := none }, mem := writeBytes s.mem (dramBase + 0x1F00000) (b ++ sig) }
    ((s.setFlag F.SEC_STAT_ATT_BUSY false).setFlag F.SEC_STAT_ATT_DONE true).log 0x0A0B [(8, s.pt.toNat)]

def execAttestDone (s : State) : Res := .next s.attestDone

end Sys2Proof.Machine
end

