-- ==== Sys2Proof/Machine/Reads.lean ====
section
/-! DEFINITION. What reads of BAR0 return: the fields that show other state, the wide registers and their latches, the
table windows, and the registers that the thermal hold keeps (00_scope.md R4, R5, R8; 02_press_time_and_counters.md R59
to R61; 14_housekeeping_thermal_and_power.md R432; 17_register_index.md R485 to R487). -/

namespace Sys2Proof.Machine

/-! ### Fields that show other state -/

/-- The value that a list gives field `f`. -/
def pick (f : Field) (l : List (Field × Nat)) : Option Nat := (l.find? (fun x => x.1.key == f.key)).map (fun x => x.2)

/-- GLB (Tables REG-20 and REG-21). -/
def State.glbField (s : State) (f : Field) : Option Nat :=
  pick f [
    (F.GLB_ID_STEP, Config.dieStep.toNat),
    (F.GLB_SUMMARY_SYNCED, s.reg F.CHV_SYNC_SYNCED),
    (F.GLB_SUMMARY_RUNNING, s.reg F.THY_CTL_RUNNING),
    (F.GLB_SUMMARY_SAFE, s.reg F.CFG_BOOT_STAT_SAFE),
    (F.GLB_SUMMARY_HOLD, s.reg F.HKP_THERM_HOLD),
    (F.GLB_SUMMARY_LOCKED, s.reg F.CFG_LOCK_LOCKED),
    (F.GLB_SUMMARY_ALARM, s.reg F.SOR_ALARM_ACTIVE),
    (F.GLB_SUMMARY_EVT_PEND, boolBit (!s.fifo.isEmpty)),
    (F.GLB_SUMMARY_PLL_GATED, boolBit ((List.range 5).any s.gated))]

/-- A slew of press time is in progress (R57). -/
def State.slewing (s : State) : Bool := s.ptc.slewLeft != 0

/-- PTC (R83, R85, Tables PTC-4, PTC-5 and PTC-10). -/
def State.ptcField (s : State) (f : Field) : Option Nat :=
  let n := min 7 ((f.off - 0x10100) / 0x40)
  pick f [
    (F.PTC_PT_CTL_SLEWING, boolBit s.slewing),
    (F.PTC_ENC_STAT_LFRES, boolBit s.lfRes),
    (F.PTC_ENC_POS_V, (s.ptc.pos.signExtend 64).toNat),
    (F.PTC_CNT_CTL_RUNNING n, boolBit (s.cntRuns n)),
    (F.PTC_CNT_COUNT_V n, (s.cnt n).count),
    (F.PTC_CNT_STAT_CMP_UNREACH n, boolBit (decide (s.period n ≤ s.reg (F.PTC_CNT_CMP_V n))))]

/-- Thyme: STOP and NOW read 1 until the last action is executed and the boundary has come (R5); R97, R101, R110, Tables
THY-10, THY-12 and THY-15. -/
def State.thyField (s : State) (f : Field) : Option Nat :=
  pick f [
    (F.THY_CTL_STOP, boolBit (s.isHead && s.thy.stopping)),
    (F.THY_SEG_NOW, boolBit s.thy.reqHost),
    (F.THY_LEAD_LEAD_EFF, s.leadEff),
    (F.THY_FLOOR_FLOOR, Cfg.floor s.regs),
    (F.THY_VEL_VALID, boolBit (s.thy.tc != 0)),
    (F.THY_TC_V, s.thy.tc)]

/-- The array (R28, R34, R38, R42, Tables ARR-10, ARR-15 and ARR-17). -/
def State.arrField (s : State) (f : Field) : Option Nat :=
  let g := min 5 ((f.off - 0x30104) / 0x10)
  let n := min 15 ((f.off - 0x30440) / 4)
  let win : Nat × Nat := if Cfg.grpEn s.regs g then Cfg.window s.regs g else (0, 0)
  pick f [
    (F.ARR_CWIN_CONV_START g, win.1),
    (F.ARR_CWIN_CONV_END g, win.2),
    (F.ARR_STRB_STAT_FORCED, s.forcedMask),
    (F.ARR_HDR_RATIO_V n, Cfg.hdrRatio s.regs n),
    (F.ARR_STAT_PWR_OK, boolBit (decide (1 ≤ s.reg F.CFG_BOOT_STAT_PHASE))),
    (F.ARR_STAT_HELD, boolBit s.pixelsHeld),
    (F.ARR_STAT_FLUSH, boolBit (s.arr.frames.any (fun x => x.flush)))]

/-- The converters: RUN reads 1 while the test runs (R5); IN_USE and its number are those of the map that frames run
with, which takes up a changed one at the next frame start (R128, R129, R143, Tables CNV-5, CNV-12, CNV-13 and CNV-16,
notes/assumptions/68.md). -/
def State.cnvField (s : State) (f : Field) : Option Nat :=
  let i := min 773 ((f.off - 0x41000) / 4)
  let (cg, b) := (i / 3, i % 3)
  let failed (x : Nat) : Bool := s.cnv.fails.contains x
  pick f [
    (F.CNV_TEST_RUN, s.reg F.CNV_TEST_STAT_BUSY),
    (F.CNV_SHIFT_EFF_S1, (Cfg.shifts s.regs).1),
    (F.CNV_SHIFT_EFF_S2, (Cfg.shifts s.regs).2.1),
    (F.CNV_SHIFT_EFF_S3, (Cfg.shifts s.regs).2.2),
    (F.CNV_FS_FS, Cfg.fs s.regs),
    (F.CNV_FS_CLAMPS, boolBit (decide (0xFFFFF < Cfg.fs s.regs))),
    (F.CNV_STAT_SPARES_IN_USE, s.cnv.spares.length),
    (F.CNV_STAT_SPARES_FAILED, (s.cnv.fails.filter (fun x => decide (spareConv 0 0 ≤ x))).length),
    (F.CNV_SPARE_IN_USE i, boolBit (s.cnv.spares.any (fun x => x.1 == cg && x.2.1 == b))),
    (F.CNV_SPARE_SPARE_FAIL i, boolBit (failed (spareConv cg b))),
    (F.CNV_SPARE_MEMBER_FAIL i, boolBit (failed (colConv (64 * cg + s.reg (F.CNV_SPARE_MEMBER i)) b)))]

/-- The line filters (R159, R173, Tables LFL-9 and LFL-14). -/
def State.lflField (s : State) (f : Field) : Option Nat :=
  let g := min 5 ((f.off - 0x50104) / 0x10)
  let d := min 63 ((f.off - 0x51014) / 0x40)
  pick f [
    (F.LFL_GD_SPAN g, Cfg.chainSpan s.regs g),
    (F.LFL_GD_GD2 g, Cfg.gd2 s.regs g),
    (F.LFL_GD_TOTAL2 g, Cfg.chainSpan s.regs g - 1),
    (F.LFL_DET_STAT_QUEUED d, (s.det d).queue.length)]

/-- The alignment and the streams (R215, R248, Tables PIP-7 and PIP-17). -/
def State.pipField (s : State) (f : Field) : Option Nat :=
  let c : Cfg := s.regs
  let k := min 15 ((f.off - 0x8100C) / 0x20)
  pick f [
    (F.PIP_ALIGN_AMAX, c.alignMax),
    (F.PIP_ALIGN_HELD, c.alignMax - c.alignMin),
    (F.PIP_ROI_STAT_DROPPING k, boolBit (s.stream k).dropping.isSome),
    (F.PIP_INSP_STAT_DROPPING, boolBit (s.stream 16).dropping.isSome),
    (F.PIP_ALIGN_HALF_ACTIVE, boolBit (c.enabledGroups.any (fun g => c.ag2 g % 2 == 1)))]

/-- Sorrel (R252, Tables SOR-13 and SOR-19). -/
def State.sorField (s : State) (f : Field) : Option Nat :=
  pick f [
    (F.SOR_RT_CTL_ARM, s.reg F.SOR_RT_STAT_VALIDATING),
    (F.SOR_GEOM_CX, Cfg.cells s.regs),
    (F.SOR_GEOM_NT, Cfg.tiles s.regs),
    (F.SOR_STAT_DROPPING, boolBit (s.stream 17).dropping.isSome),
    (F.SOR_STAT_OPEN, s.sor.open_.length)]

/-- The stream of ring `r` is dropping records (Table DMA-20). -/
def State.ringDrops (s : State) (r : Nat) : Bool :=
  match (s.ring r).stream with
  | none => false
  | some k =>
    if k = 18 then s.fifoLost != 0
    else match s.pip.streams[k]? with
      | none => false
      | some x => x.dropping.isSome || x.linkDrop.isSome

/-- A charge of Table DMA-9 in 10 MB/s, rounded up (Table DMA-14). -/
def Cfg.charge10 (c : Cfg) (n : Nat) : Nat := (n + 10000000 * c.chargeDen - 1) / (10000000 * c.chargeDen)

/-- The DMA (Tables DMA-14, DMA-15 and DMA-20). -/
def State.dmaField (s : State) (f : Field) : Option Nat :=
  let r := min 15 ((f.off - 0xD0120) / 0x40)
  let c : Cfg := s.regs
  pick f [
    (F.DMA_CHARGE_WR, c.charge10 c.charges.1),
    (F.DMA_CHARGE_RD, c.charge10 c.charges.2),
    (F.DMA_STAT_EVT_LEVEL, s.fifo.length),
    (F.DMA_RING_STAT_DROPPING r, boolBit (s.ringDrops r))]

/-- What a field that shows other state reads; none for a field that stands in the register file. -/
def State.shown (s : State) (f : Field) : Option Nat :=
  match f.off / 0x10000 with
  | 0x00 => s.glbField f
  | 0x01 => s.ptcField f
  | 0x02 => s.thyField f
  | 0x03 => s.arrField f
  | 0x04 => s.cnvField f
  | 0x05 => s.lflField f
  | 0x06 => pick f [(F.CAL_CTL_REBUILD, boolBit (s.cal.asked || s.cal.askedAgain))]
  | 0x08 => s.pipField f
  | 0x0A => s.sorField f
  | 0x0C => pick f [(F.CHV_SYNC_SLEWING, boolBit s.slewing)]
  | 0x0D => s.dmaField f
  | 0x0E => pick f [(F.CFG_COMMIT_GO, boolBit s.commit.asked)]
  | 0x0F => pick f [(F.SEC_ATTEST_RUN, s.reg F.SEC_STAT_ATT_BUSY)]
  | 0x10 => pick f ([(F.CLK_TPHASE_QUEUED, min 255 s.clk.steps.natAbs),
      (F.CLK_TPHASE_QUEUED_DN, boolBit (decide (s.clk.steps < 0)))]
      ++ (List.range 5).map (fun x => (F.CLK_PLL_CTL_APPLY x, boolBit (bitAt s.clk.applied x))))
  | 0x11 => pick f [(F.HKP_LOG_STAT_UNACK, s.openRecords.length),
      (F.HKP_PWR_SLEEP, boolBit (s.reg F.HKP_PWR_STATE == 5)),
      (F.HKP_THERM_CLR, boolBit s.hkp.resuming.isSome)]
  | 0x12 => pick f [(F.BAY_CHG_STAT_LAMP, s.lamp),
      (F.BAY_CHG_STAT_FAULT, if s.bay.hold then 4 else s.reg F.BAY_CHG_STAT_FAULT)]
  | 0x13 => pick f [(F.TWI_STAT_ATTN_PEND, boolBit s.twi.unanswered)]
  | 0x14 => pick f [(F.PCX_PTM_CTL_NOW, boolBit s.dma.ptmAsked)]
  | _ => none

/-- `CFG_VIEW.SHADOW` of a port (R359). -/
def State.shadowView (s : State) (port : Nat) : Bool := if port = 1 then s.twi.view else s.flag F.CFG_VIEW_SHADOW

/-- The value of field `f` through a port (R5, R8, R359). -/
def State.readField (s : State) (port : Nat) (f : Field) : Nat :=
  if f.key = F.CFG_VIEW_SHADOW.key then boolBit (s.shadowView port)
  else
    match s.shown f with
    | some v => v % 2 ^ f.w
    | none => if f.cls = .s ∧ s.shadowView port = true then s.shadowReg f else s.reg f

/-! ### The thermal hold (R432) -/

/-- Registers whose reads stay live in the thermal hold: `PTC_PT`, CFG, SEC, CLK and HKP. -/
def liveInHold (off : Nat) : Bool :=
  decide (off = 0x10000) || decide (off = 0x10004) || (decide (0xE0000 ≤ off) && decide (off < 0x120000))

/-- The state that a read of `off` shows: in the thermal hold, that of the shutdown. -/
def State.viewAt (s : State) (off : Nat) : State :=
  if s.flag F.HKP_THERM_HOLD && !liveInHold off then
    match s.held with
    | none => s
    | some h =>
      { s with
        regs := h.regs, shadow := h.shadow, ptc := h.ptc, thy := h.thy, arr := h.arr, cnv := h.cnv, lfl := h.lfl,
        cal := h.cal, pip := h.pip, sor := h.sor, twi := { h.twi with view := s.twi.view }, bay := h.bay, dma := h.dma,
        fifo := h.fifo, fifoLost := h.fifoLost }
  else s

/-! ### Wide registers (R59, R60, R355) -/

/-- `PCX_PTM_PT` and `PCX_PTM_HOST`. -/
def ptmPt : Nat := 0x140108
def ptmHost : Nat := 0x140110

/-- Where the latch of the low half of `PCX_PTM_HOST` stands (R355). -/
def ptmHostLow : Nat := 0x140111

/-- The 64-bit value at the low offset `off`, and the edge window's press times with it. -/
def State.wideValue (s : State) (port off : Nat) : Nat :=
  if off = 0x10000 then s.pt.toNat
  else if 0x10800 ≤ off ∧ off < 0x10C00 then
    match s.ptc.snap[(off - 0x10800) / 16]? with
    | some e => e.pt.toNat
    | none => 0
  else (fieldsAt off).foldl (fun (n : Nat) f => n + s.readField port f * 2 ^ f.lo) 0

/-- `off` is the low half of a value wider than 32 bits. -/
def isWideLow (off : Nat) : Bool :=
  decide (off = 0x10000) || (decide (0x10800 ≤ off) && decide (off < 0x10C00) && decide (off % 16 = 0)) || isWide off

/-- A port's latch of a high half. -/
def State.setLatch (s : State) (port off v : Nat) : State :=
  { s with ptc := { s.ptc with latches := Assoc.insert s.ptc.latches (latchKey port off) v } }

/-- A read of the low half at `off`: the latch that the port holds there is released, and the high half is latched anew
(R59, R60); `PCX_PTM_PT` latches both halves of `PCX_PTM_HOST` too, whose low half then reads as latched (R355). -/
def State.readLow (s : State) (port off : Nat) : Nat × State :=
  match (if off = ptmHost then Assoc.find s.ptc.latches (latchKey port ptmHostLow) else none) with
  | some low => (low, { s with ptc := { s.ptc with latches := Assoc.erase s.ptc.latches (latchKey port ptmHostLow) } })
  | none =>
    let held := (Assoc.find s.ptc.latches (latchKey port off)).isSome
    let s := if held then s.releaseLatch port off else s
    let v := (s.viewAt off).wideValue port off
    let s := s.setLatch port off (v / 2 ^ 32 % 2 ^ 32)
    let s := if off = ptmPt then
        let h := (s.viewAt ptmHost).wideValue port ptmHost
        (s.setLatch port ptmHost (h / 2 ^ 32 % 2 ^ 32)).setLatch port ptmHostLow (h % 2 ^ 32)
      else s
    (v % 2 ^ 32, s)

/-- A read of the high half of the register whose low half is at `off` (R59, R60). -/
def State.readHigh (s : State) (port off : Nat) : Nat × State :=
  match Assoc.find s.ptc.latches (latchKey port off) with
  | some v => (v, s.releaseLatch port off)
  | none => ((s.viewAt off).wideValue port off / 2 ^ 32 % 2 ^ 32, s)

/-! ### Table windows (R487) -/

/-- A word of the region table window: the inactive bank (R263, R487). -/
def State.regionWord (s : State) (off : Nat) : Nat :=
  ofLeBytes (readBytes s.mem (bankBase s.idleBank + (off - 0x300000)) 4)

/-- The last two words of an entry of the edge window (Table PTC-2). -/
def State.edgeWord (s : State) (off : Nat) : Nat :=
  match s.ptc.snap[(off - 0x10800) / 16]? with
  | none => 0
  | some e =>
    if off % 16 = 8 then e.posLo
    else boolBit e.dir + 2 * boolBit e.pin + 4 * boolBit e.lfres + 8 * boolBit e.valid + 2 ^ 16 * e.seq

/-- A word of the fail bitmap (Table CNV-6). -/
def State.failWord (s : State) (off : Nat) : Nat :=
  let cg := (off - 0x42000) / 32
  let w := (off - 0x42000) % 32 / 4
  let bit (i : Nat) : Nat :=
    if w < 6 then colConv (64 * cg + 32 * (w % 2) + i) (w / 2) else spareConv cg i
  let n := if w < 6 then 32 else if w = 6 then 3 else 0
  (List.range n).foldl (fun (v : Nat) i => if s.cnv.fails.contains (bit i) then v + 2 ^ i else v) 0

/-- A word of the self-calibration log (Table CAL-5). -/
def State.scLogWord (s : State) (off : Nat) : Nat :=
  let pair := (off - 0x61000) / 16
  let spare := s.pending_ (spareConv (pair / 3) (pair % 3))
  let (t, n, o, g) := (Assoc.find s.cal.scLog pair).getD (0, 0, spare.1, spare.2)
  match off % 16 / 4 with
  | 0 => t.toNat % 2 ^ 32
  | 1 => t.toNat / 2 ^ 32
  | 2 => n
  | _ => codeOf 16 o + 2 ^ 16 * (g % 2 ^ 16)

/-- A word of the MRAM log (R434). -/
def State.logWord (s : State) (off : Nat) : Nat := leAt (s.logBytes ((off - 0x111000) / 64)) (off % 64) 4

/-- A 32-bit word of the plain registers. -/
def State.plainWord (s : State) (port off : Nat) : Nat :=
  (fieldsAt off).foldl (fun (n : Nat) f => n + s.readField port f * 2 ^ f.lo) 0

/-- A word that is no part of a wide register. -/
def State.narrowWord (s : State) (port off : Nat) : Nat :=
  let v := s.viewAt off
  if 0x300000 ≤ off then v.regionWord off
  else if 0x148000 ≤ off ∧ off < 0x148400 then s.msixWord (off - 0x148000)
  else if off = 0x149000 then s.dma.pba % 2 ^ 32
  else if off = 0x149004 then s.dma.pba / 2 ^ 32 % 2 ^ 32
  else if 0x10800 ≤ off ∧ off < 0x10C00 then v.edgeWord off
  else if 0x42000 ≤ off ∧ off < 0x44040 then v.failWord off
  else if 0x61000 ≤ off ∧ off < 0x64060 then v.scLogWord off
  else if 0x111000 ≤ off ∧ off < 0x112000 then v.logWord off
  else v.plainWord port off

/-- The module answers BAR accesses before its registers can be read: the phases of boot below 5, outside the thermal
hold (R374, R392). -/
def State.booting (s : State) : Bool :=
  decide (s.reg F.CFG_BOOT_STAT_PHASE < 5) && !s.flag F.HKP_THERM_HOLD

/-- A 32-bit read at the aligned offset `off` (R4, R59, R374, R392). -/
def State.readWord (s : State) (port off : Nat) : Nat × State :=
  if s.booting && off != 0xE0030 then (0xB0070000 + s.reg F.CFG_BOOT_STAT_PHASE, s)
  else if isWideLow off then s.readLow port off
  else if 4 ≤ off ∧ isWideLow (off - 4) = true then s.readHigh port (off - 4)
  else (s.narrowWord port off, s)

/-- Words read at consecutive offsets, ascending. -/
def State.readWords (port : Nat) : Nat → Nat → State → List Nat × State
  | 0, _, s => ([], s)
  | n + 1, off, s =>
    let (w, s) := s.readWord port off
    let (ws, s) := State.readWords port n (off + 4) s
    (w :: ws, s)

/-- A read of BAR0 of `size` bytes at `off` (R4, R61); the module answers none while its main domains are off. -/
def State.bar0Read (s : State) (port off size : Nat) : State :=
  if s.boot.supply != .run then s
  else if (size = 4 ∨ size = 8) ∧ off % size = 0 then
    let (ws, s) := State.readWords port (size / 4) off s
    s.emit (.readData port size (ofLeBytes (ws.flatMap (leBytes 4))))
  else (s.log 0x0901 [(4, off), (1, size)]).emit (.readData port size (2 ^ (8 * size) - 1))

/-- BAR0 is 4 MiB, BAR2 256 MiB (Table DMA-1). -/
def bar0Size : Nat := 0x400000
def bar2Size : Nat := 0x10000000

/-- BAR0_READ (R4, R61, R374, R432). -/
def execBar0Read (port off size : Nat) (s : State) : Res :=
  if bar0Size < off + size then .fault .outsideBar else .next (s.bar0Read port off size)

/-- WIDE_READ (R59 to R61, R355): a 32-bit read of one half. -/
def execWideRead (port off : Nat) (s : State) : Res :=
  if bar0Size < off + 4 then .fault .outsideBar else .next (s.bar0Read port off 4)

/-- LATCH_TMO (R60): a latch that the port holds on the register at `off` is released; "the block offset" is read as the
BAR0 offset of the register's block. -/
def State.latchTimeout (s : State) (port off : Nat) : State :=
  if (Assoc.find s.ptc.latches (latchKey port off)).isSome then
    let s := s.releaseLatch port off
    let s := if off = ptmHost then s.releaseLatch port ptmHostLow else s
    (s.setFlag F.PTC_PT_CTL_LATCH_TMO true).log 0x0184 [(4, off / 0x10000 * 0x10000), (1, port)]
  else s

def execLatchTmo (port off : Nat) (s : State) : Res := .next (s.latchTimeout port off)

end Sys2Proof.Machine
end

