-- ==== Sys2Proof/Machine/Access.lean ====
section
/-! DEFINITION. Writes of a host to BAR0 and BAR2: the gates of boot and of the thermal hold, the fields, the action
bits after them, the table windows, and the layout of BAR2 (00_scope.md R4 to R14; 10_host_interface_and_dma.md R326 to
R328; 11_configuration_boot_and_security.md R374; 14_housekeeping_thermal_and_power.md R432; 17_register_index.md R486
to R489). -/

namespace Sys2Proof.Machine

/-! ### Action bits (R5, R488) -/

/-- The action bits of the word at `off`, in the order in which one write of several acts: their bits and what they
do. A STOP comes after the START of the same write (R71). -/
def wordActions (off : Nat) : List (Nat × (State → State)) :=
  let n := (off - 0x10100) / 0x40
  let r := (off - 0xD0100) / 0x40
  let k := (off - 0xF0100) / 0x40
  let x := (off - 0x100100) / 0x20
  if off = 0x10010 then [(0, State.loadPt)]
  else if 0x10100 ≤ off ∧ off < 0x10300 ∧ off % 0x40 = 0 then
    [(26, fun s => s.resetCnt n), (24, fun s => s.startCnt n), (25, fun s => s.stopCnt n)]
  else if 0x10100 ≤ off ∧ off < 0x10300 ∧ off % 0x40 = 0x1C then [(16, fun s => s.capture n s.pt)]
  else if off = 0x10400 then [(16, State.clearPos)]
  else if off = 0x10450 then [(0, State.requestSnap)]
  else if off = 0x20000 then [(16, State.startCmd), (17, State.stopCmd)]
  else if off = 0x20040 then [(31, State.segNow)]
  else if off = 0x30340 then [(19, State.clearKillCause)]
  else if off = 0x40100 then [(0, State.runTest), (1, State.abortTest), (2, State.clearFails)]
  else if off = 0x60000 then [(0, State.requestRebuild)]
  else if off = 0x60300 then [(20, State.scFull)]
  else if off = 0x60500 then [(16, State.startCapture)]
  else if off = 0xA0030 then [(0, State.rtArm), (1, State.disarm)]
  else if off = 0xA0040 then [(16, State.clearAlarm)]
  else if off = 0xC0010 then [(1, fun s => s.retrain 0), (2, fun s => s.retrain 1)]
  else if 0xD0100 ≤ off ∧ off < 0xD0500 ∧ off % 0x40 = 0 then [(30, fun s => s.stopRing r)]
  else if off = 0xE0000 then [(24, State.go), (25, State.discard)]
  else if off = 0xE0020 then [(0, fun s => s.lockConfig 2)]
  else if off = 0xE0034 then [(0, State.hostReboot)]
  else if off = 0xF0014 then [(0, State.rbAdvance)]
  else if off = 0xF0020 then [(0, State.attestRun)]
  else if 0xF0100 ≤ off ∧ off < 0xF0200 ∧ off % 0x40 = 0 then
    [(8, fun s => s.programSlot k), (9, fun s => s.revokeSlot k)]
  else if 0x100100 ≤ off ∧ off < 0x1001A0 ∧ off % 0x20 = 0 then [(16, fun s => s.pllApply x)]
  else if off = 0x110300 then [(8, State.thermClr)]
  else if off = 0x110400 then [(8, State.sleepEntry)]
  else if off = 0x110504 then
    [(8, fun s => s.ackRecord (s.reg F.HKP_LOG_ACK_INDEX)), (9, fun s => (List.range 64).foldl State.ackRecord s)]
  else if off = 0x120100 then [(24, State.clearChgFault), (25, State.chgRestart)]
  else if off = 0x140100 then [(1, State.ptmWrite)]
  else []

/-- The actions that a word requests, in their order. -/
def State.runActions (v : Nat) : List (Nat × (State → State)) → State → State
  | [], s => s
  | a :: as, s => State.runActions v as (if bitAt v a.1 then a.2 s else s)

/-! ### Table windows (R326, R487, R489) -/

/-- A word written into the region table window: the inactive bank stores every byte, unless it is armed (R14, R263). -/
def State.writeRegionWord (s : State) (off v : Nat) : State :=
  match s.sor.arm with
  | .idle => { s with mem := writeBytes s.mem (bankBase s.idleBank + (off - 0x300000)) (leBytes 4 v) }
  | _ => s.log 0x070A [(4, off)]

/-- A word written into the MSI-X table through PCIe (R326); a two-wire write is discarded (R489). -/
def State.writeMsix (s : State) (port i v : Nat) : State := if port != 0 then s else s.putMsix i v

/-! ### BAR0 writes -/

/-- The writes that the thermal hold accepts: the HKP block, `CFG_LOCK`, the two-wire block and MSI-X, its PBA among
them (R432, R489). -/
def writtenInHold (off : Nat) : Bool :=
  (decide (0x110000 ≤ off) && decide (off < 0x120000)) || off == 0xE0020 ||
    (decide (0x130000 ≤ off) && decide (off < 0x140000)) || (decide (0x148000 ≤ off) && decide (off < 0x148400)) ||
    off == 0x149000 || off == 0x149004

/-- A register or a window stands at `off` (R486). -/
def assigned (off : Nat) : Bool :=
  decide (0x300000 ≤ off) || (decide (0x148000 ≤ off) && decide (off < 0x148400)) || off == 0x149000 || off == 0x149004 ||
    (decide (0x42000 ≤ off) && decide (off < 0x44040)) || (decide (0x61000 ≤ off) && decide (off < 0x64060)) ||
    (decide (0x111000 ≤ off) && decide (off < 0x112000)) || off == 0x10000 || off == 0x10004 ||
    (decide (0x10800 ≤ off) && decide (off < 0x10C00)) || !(wordFields off).1.isEmpty

/-- A word at `off` takes effect: the fields first, then the action bits (R488). -/
def State.writeWordAt (s : State) (port off v : Nat) : State :=
  if 0x300000 ≤ off then s.writeRegionWord off v
  else if 0x148000 ≤ off ∧ off < 0x148400 then s.writeMsix port (off - 0x148000) v
  else State.runActions v (wordActions off) (s.writeRegister port off v 0xFFFFFFFF)

/-- A 32-bit write at the aligned offset `off`, under the gates of boot and of the thermal hold (R374, R432, R486). -/
def State.writeWord (s : State) (port off v : Nat) : State :=
  if !assigned off then s
  else if writtenInHold off then s.hostHold (fun s => s.writeWordAt port off v)
  else s.hostAction off (fun s => s.writeWordAt port off v)

/-- Words written at consecutive offsets, ascending. -/
def State.writeWords (port : Nat) : Nat → List Nat → State → State
  | _, [], s => s
  | off, v :: vs, s => State.writeWords port (off + 4) vs (s.writeWord port off v)

/-- A write of BAR0 of `size` bytes at `off` (R4): a 64-bit one is the lower word and then the higher. -/
def State.bar0Write (s : State) (port off size v : Nat) : State :=
  if (size = 4 ∨ size = 8) ∧ off % size = 0 then
    State.writeWords port off ((List.range (size / 4)).map (fun i => v / 2 ^ (32 * i) % 2 ^ 32)) s
  else if s.boot.supply != .run || s.booting then s
  else s.log 0x0901 [(4, off), (1, size)]

/-- REGISTER_WRITE (R4 to R14, R62, R486 to R488). -/
def execRegisterWrite (port off size value : Nat) (s : State) : Res :=
  if bar0Size < off + size then .fault .outsideBar else .next (s.bar0Write port off size value)

/-- WIDE_WRITE_LOW (R62): a 32-bit write of the low half of a wide register. -/
def execWideWriteLow (port off value : Nat) (s : State) : Res :=
  if bar0Size < off + 4 then .fault .outsideBar else .next (s.bar0Write port off 4 value)

/-! ### BAR2 (R327, Tables DMA-2 and DMA-3) -/

/-- What a host may do with a range of BAR2. -/
inductive Bar2Range where
  | readWrite
  /-- A set slot, by store DRAM offset (R192). -/
  | slot (d : Nat)
  | readOnly
  | reserved
  deriving DecidableEq, Repr

/-- The range of BAR2 that offset `a` lies in (Tables DMA-2 and DMA-3). -/
def bar2Range (a : Nat) : Bar2Range :=
  if a < 0x1000000 then .readWrite
  else if a < 0x2000000 then .slot (a - dramBase)
  else if a < 0x3000000 then .readWrite
  else if a < 0x3D00000 then .readOnly
  else if a < 0x4000000 then .reserved
  else if a < 0x5000000 then .readWrite
  else if a < 0xA800000 then .readOnly
  else .reserved

/-- Bytes written at BAR2 offset `a`, within one 4 KiB page, outside boot and hold. -/
def State.bar2Store (s : State) (a : Nat) (bytes : List Byte) : State :=
  match bar2Range a with
  | .readWrite => { s with mem := writeBytes s.mem a bytes }
  | .slot d =>
    match s.lockedSlot d with
    | some k => s.log 0x0504 [(1, k), (4, d)]
    | none => { s with mem := writeBytes s.mem a bytes }
  | .readOnly => s.log 0x090F [(4, a)]
  | .reserved => s.log 0x090F [(4, a)]

/-- `n` bytes from `a` lie in one 4 KiB page. -/
def onePage (a n : Nat) : Bool := decide (0 < n) && decide (a / 4096 = (a + n - 1) / 4096)

/-- A write to BAR2 (R327, R374, R432); one that leaves its page is not accepted. -/
def State.bar2Write (s : State) (a : Nat) (bytes : List Byte) : State :=
  if onePage a bytes.length then s.hostAction a (fun s => s.bar2Store a bytes) else s

/-- BAR2_WRITE (R192, R327). -/
def execBar2Write (off : Nat) (bytes : List Byte) (s : State) : Res :=
  if bar2Size < off + bytes.length then .fault .outsideBar else .next (s.bar2Write off bytes)

/-- BAR_READ_TIMEOUT (R328): a read of `size` bytes that has not obtained its data in time completes with all bytes
0xFF. -/
def State.readLate (s : State) (bar off size : Nat) : State :=
  if s.boot.supply != .run || s.booting then s
  else (s.log 0x0902 [(1, bar), (4, off)]).emit (.readData 0 size (2 ^ (8 * size) - 1))

def execBarReadTimeout (bar : Nat) (read : ReadSpan) (s : State) : Res :=
  if (if bar = 0 then bar0Size else bar2Size) < read.off + read.size then .fault .outsideBar
  else .next (s.readLate bar read.off read.size)

end Sys2Proof.Machine
end

