-- ==== Sys2Proof/Machine/TwoWire.lean ====
section
/-! DEFINITION. The two-wire port as a target: transactions, the pointer, PEC, events and attention
(12_two_wire_management_port.md R384 to R396; 17_register_index.md R489). A transaction comes as one command, whose
bytes are those that follow the command code; a read says how many bytes the controller clocked out. The port's own
number is 1. -/

namespace Sys2Proof.Machine

/-! ### The port and the PEC (R384, R385, R389) -/

/-- The target address byte of a write; a read sets bit 0 (R385, R386). -/
def State.twAddress (s : State) : Nat := 2 * s.reg F.TWI_STAT_ADDR

/-- The PEC over the bytes of a transaction (R389). -/
def pecOf (bs : List Nat) : Byte := crc8 (bs.map (BitVec.ofNat 8))

/-- The port takes a transaction: the main domains run, and no abandoned transaction waits for its STOP (R384, R393). -/
def State.twAnswers (s : State) : Bool := s.boot.supply == .run && !s.twi.waitStop

/-- A transaction is refused: the byte that breaks the rule is NACKed, counting from the command code as byte 0 (R386 to
R388). -/
def State.badCommand (s : State) (code index : Nat) : State := (s.emit .twNack).log 0x0B02 [(1, code), (2, index)]

/-- A write that its STOP cuts short is discarded: no byte offends, so none is NACKed (R388). -/
def State.shortWrite (s : State) (code index : Nat) : State := s.log 0x0B02 [(1, code), (2, index)]

/-- A write is discarded for its PEC (R388). -/
def State.pecError (s : State) (code : Nat) : State := (s.setFlag F.TWI_STAT_PEC_ERR true).log 0x0B01 [(1, code)]

/-- A write of `n` bytes after the code takes effect as `f` does, where its length and its PEC allow (R388). -/
def State.twWrite (s : State) (code n : Nat) (bytes : List Byte) (f : State → State) : State :=
  if bytes.length < n then s.shortWrite code bytes.length
  else if bytes.length = n then if s.flag F.TWI_CTL_PEC_REQ then s.pecError code else f s
  else
    let sent := [s.twAddress, code] ++ (bytes.take n).map (fun b => b.toNat)
    if bytes[n]? = some (pecOf sent) then
      if bytes.length = n + 1 then f s else s.badCommand code (n + 2)
    else (s.emit .twNack).pecError code

/-- A read sends as many bytes as the controller takes: those of the command, then the PEC, then 0xFF for every further
byte (R389). -/
def State.twSend (s : State) (code : Nat) (written : List Nat) (bytes : List Byte) (taken : Nat) : State :=
  let all := [s.twAddress, code] ++ written ++ [s.twAddress + 1] ++ bytes.map (fun b => b.toNat)
  s.emit (.twBytes ((bytes ++ [pecOf all] ++ List.replicate (taken - bytes.length) 0xFF).take taken))

/-! ### The pointer (R387) -/

/-- The pointer, and the space that it selects: true for BAR2. -/
def State.twPtr (s : State) : Nat := s.reg F.TWI_PTR_V
def spaceOf (p : Nat) : Bool := bitAt p 31

/-- A pointer that R387 allows. -/
def pointerOk (p : Nat) : Bool :=
  bitsAt p 28 3 == 0 && (if spaceOf p then true else decide (p < bar0Size) && decide (p % 4 = 0))

/-- Data bytes from the pointer that lie in its 4 KiB page; none where the pointer has left its space (R387). -/
def State.twRoom (s : State) : Nat := if pointerOk s.twPtr then 4096 - s.twPtr % 4096 else 0

/-- The COUNT that R387 allows at the pointer. -/
def State.countOk (s : State) (n : Nat) : Bool :=
  decide (1 ≤ n) && decide (n ≤ 255) && decide (n ≤ s.twRoom) && (spaceOf s.twPtr || decide (n % 4 = 0))

/-- Words of a list of bytes. -/
def wordsOf : List Byte → List Nat
  | a :: b :: c :: d :: r => ofLeBytes [a, b, c, d] :: wordsOf r
  | _ => []

/-- Data bytes written at the pointer, which then moves on; before boot phase 5 they are discarded (R388, R390, R392).
-/
def State.twStore (s : State) (bytes : List Byte) : State :=
  if s.booting then s
  else
    let off := s.twPtr % 2 ^ 28
    let n := bytes.length
    let s' := if spaceOf s.twPtr then s.bar2Write off bytes else State.writeWords 1 off (wordsOf bytes) s
    s'.setReg F.TWI_PTR_V (s.twPtr + n)

/-! ### Reads (R390 to R392) -/

/-- Store DRAM is in self-refresh, and the hub's clocks stand: the thermal hold, or a gated PLL-H (R418, R433). -/
def State.hubStopped (s : State) : Bool := s.flag F.HKP_THERM_HOLD || s.gated 1

/-- A byte of BAR2 as a read finds it (R327): the seam buffer, the band backlog and the rest of hub SRAM have no
layout in the spec, and their bytes are free values. -/
def State.bar2Byte (s : State) (a : Nat) : Byte :=
  match bar2Range a with
  | .readWrite => readByte s.mem a
  | .slot _ => readByte s.mem a
  | .readOnly => if 0x9000000 ≤ a ∧ a < 0x9200000 then readByte s.mem a else Config.freeByte a s.freeCtr
  | .reserved => 0

/-- The bytes of BAR2 from `a`, and the state that has drawn the free ones. -/
def State.bar2Read (s : State) (a n : Nat) : List Byte × State :=
  ((List.range n).map (fun i => s.bar2Byte (a + i)), { s with freeCtr := s.freeCtr + 1 })

/-- The data of a word at `off` are not ready within the stretch limit (R391): the host's clock of the command says so
by `late`, and store DRAM or hub SRAM whose clocks stand never has them. -/
def State.wordLate (s : State) (off : Nat) (late : Bool) : Bool :=
  !s.booting && (late || (spaceOf s.twPtr && s.hubStopped && bar2Range off != .reserved))

/-- A word that is late: bytes 0xFF, and TW_RD_LATE with the pointer (R391). -/
def State.twLate (s : State) (n : Nat) : List Byte × State :=
  (List.replicate n 0xFF, (s.setFlag F.TWI_STAT_RD_LATE true).log 0x0B04 [(4, s.twPtr)])

/-- A word of `n` bytes, at most 4, read at offset `off` of the pointer's space (R390, R392). -/
def State.twWord (s : State) (off n : Nat) : List Byte × State :=
  if spaceOf s.twPtr then if s.booting then (List.replicate n 0xFF, s) else s.bar2Read off n
  else
    let (w, s) := s.readWord 1 off
    (leBytes 4 w, s)

/-- `n` data bytes read from offset `off` on, in words counted from there, `k` words of them taken by the controller;
bit i of `late` says that word i was not ready. A word that the controller never reached is not read (R391). -/
def State.twLoad : Nat → Nat → Nat → Nat → State → List Byte × State
  | 0, _, n, _, s => (List.replicate n 0xFF, s)
  | k + 1, off, n, late, s =>
    if n = 0 then ([], s)
    else
      let m := min 4 n
      let (bs, s) := if s.wordLate off (bitAt late 0) then s.twLate m else s.twWord off m
      let (rest, s) := State.twLoad k (off + m) (n - m) (late / 2) s
      (bs ++ rest, s)

/-- A read of `n` bytes at the pointer, which moves on however many bytes the controller took (R389). -/
def State.twRead (s : State) (code n : Nat) (written : List Nat) (taken late : Nat) : State :=
  let p := s.twPtr
  let head := if code = 7 then [BitVec.ofNat 8 n] else []
  let (bs, s) := State.twLoad ((taken - head.length + 3) / 4) (p % 2 ^ 28) n late s
  (s.twSend code written (head ++ bs) taken).setReg F.TWI_PTR_V (p + n)

/-! ### Commands (Table TWI-2) -/

/-- PTR (R387): the byte that completes an invalid pointer is refused. -/
def State.setPointer (s : State) (bytes : List Byte) : State :=
  if s.twAnswers then
    let p := ofLeBytes (bytes.take 4)
    if 4 ≤ bytes.length ∧ pointerOk p = false then s.badCommand 1 4
    else s.twWrite 1 4 bytes (fun s => s.setReg F.TWI_PTR_V p)
  else s

/-- A command code that Table TWI-2 does not list is refused, whatever follows (R386). -/
def State.unknownCommand (s : State) (code : Nat) : State := if s.twAnswers then s.badCommand code 0 else s

/-- PTR, with its command code 0x01. A transaction whose code is none of the table's comes as PTR too, with that code,
as no row of the table stands for it (notes/assumptions/41.md). -/
def execPtr (w : TwWrite) (s : State) : Res :=
  .next (if w.code = 1 then s.setPointer w.bytes else s.unknownCommand w.code)

/-- WR4 and WR8: `n` data bytes (R386 to R390, R392). A data byte that leaves the page of the first is refused. -/
def State.writeCommand (s : State) (code n : Nat) (bytes : List Byte) : State :=
  if s.twAnswers && !s.booting then
    if s.twRoom < min n bytes.length then s.badCommand code (s.twRoom + 1)
    else s.twWrite code n bytes (fun s => s.twStore (bytes.take n))
  else s

/-- WR4. -/
def execWr4 (bytes : List Byte) (s : State) : Res := .next (s.writeCommand 2 4 bytes)

/-- WR8. -/
def execWr8 (bytes : List Byte) (s : State) : Res := .next (s.writeCommand 4 8 bytes)

/-- BWR (R386 to R390): COUNT, and COUNT data bytes. -/
def State.blockWrite (s : State) (bytes : List Byte) : State :=
  if s.twAnswers && !s.booting then
    match bytes with
    | [] => s.shortWrite 6 0
    | c :: data =>
      if s.countOk c.toNat then s.twWrite 6 (c.toNat + 1) bytes (fun s => s.twStore (data.take c.toNat))
      else s.badCommand 6 1
  else s

def execBwr (bytes : List Byte) (s : State) : Res := .next (s.blockWrite bytes)

/-- RD4 and RD8: `n` data bytes (R386, R389 to R392). -/
def State.readCommand (s : State) (code n : Nat) (k : TwRead) : State :=
  if s.twAnswers then if s.twRoom < n then s.badCommand code 0 else s.twRead code n [] k.taken k.late else s

/-- RD4. -/
def execRd4 (k : TwRead) (s : State) : Res := .next (s.readCommand 3 4 k)

/-- RD8. -/
def execRd8 (k : TwRead) (s : State) : Res := .next (s.readCommand 5 8 k)

/-- BRD (R386 to R392): COUNT data bytes, after a byte that gives COUNT. -/
def State.blockRead (s : State) (count : Nat) (k : TwRead) : State :=
  if s.twAnswers then
    if s.countOk count then s.twRead 7 count [count] k.taken k.late else s.badCommand 7 1
  else s

def execBrd (count : Nat) (k : TwRead) (s : State) : Res := .next (s.blockRead count k)

/-- ATTN: `TWI_ATTN_SRC`, and zero bytes before boot phase 5 (R386, R392). -/
def State.attnRead (s : State) (taken : Nat) : State :=
  let v := if s.booting then 0 else s.reg F.TWI_ATTN_SRC_ALARM + 2 * s.reg F.TWI_ATTN_SRC_CLASS
  if s.twAnswers then s.twSend 8 [] (leBytes 4 v) taken else s

def execAttn (taken : Nat) (s : State) : Res := .next (s.attnRead taken)

/-- Of the descriptors of a ring the first that holds event records holds one less (R345). -/
def takeOneEvent : List Desc → List Desc
  | [] => []
  | d :: r => if d.evts = 0 then d :: takeOneEvent r else { d with evts := d.evts - 1 } :: r

/-- The first ring of stream 18 whose descriptors hold event records holds one less. -/
def ringsLess : List Ring → List Ring
  | [] => []
  | x :: r =>
    if x.stream == some 18 && x.held.any (fun d => d.evts != 0) then { x with held := takeOneEvent x.held } :: r
    else x :: ringsLess r

/-- The oldest record leaves the event FIFO, whose others are `rest`; where it stands in a descriptor that is not
confirmed, that one accounts for one record less (R345, R394, notes/assumptions/41.md). -/
def State.popEvent (s : State) (rest : List FifoRec) : State :=
  let dma := if s.dma.evtSent = 0 then s.dma
    else { s.dma with evtSent := s.dma.evtSent - 1, rings := ringsLess s.dma.rings }
  { s with fifo := rest, dma := dma }.fifoFreed

/-- EVT (R394): the oldest record is sent, and leaves the event FIFO once the controller has taken all its bytes; 32
zero bytes while the FIFO is empty or stream 18 is enabled. -/
def State.takeEvent (s : State) (taken : Nat) : State :=
  let none_ := s.twSend 9 [] (List.replicate 32 0) taken
  if s.twAnswers then
    if s.booting || s.flag F.DMA_EVT_EN then none_
    else
      match s.fifo with
      | [] => none_
      | r :: rs =>
        let s := s.twSend 9 [] r.bytes taken
        if taken < 32 then s else s.popEvent rs
  else s

def execEvt (taken : Nat) (s : State) : Res := .next (s.takeEvent taken)

/-- TW_TIMEOUT (R393): kind 1 SCL low, 2 SDA held; a transaction is one command here, so none of it has taken effect. -/
def State.twTimeout (s : State) (kind : Nat) : State :=
  if s.twAnswers ∧ (kind = 1 ∨ kind = 2) then
    ({ s with twi := { s.twi with waitStop := true } }.setFlag F.TWI_STAT_TIMEOUT true).log 0x0B03 [(1, kind)]
  else s

def execTwTimeout (kind : Nat) (s : State) : Res := .next (s.twTimeout kind)

/-! ### Attention (R395, R396, R432) -/

/-- Attention is signalled in boot phases 5 and 6, and in the thermal hold. -/
def State.mayAttend (s : State) : Bool := s.boot.supply == .run && !s.booting

/-- ATTENTION_PULSE (R395): a source that has become pending. -/
def State.attentionPulse (s : State) : State :=
  if s.mayAttend && s.twi.newly then { s with twi := { s.twi with newly := false } }.emit .attention else s

def execAttentionPulse (s : State) : Res := .next s.attentionPulse

/-- ATTENTION_REPEAT (R395): no alert response has followed the pulse. -/
def execAttentionRepeat (s : State) : Res :=
  .next (if s.mayAttend && s.twi.unanswered && !s.twi.newly then s.emit .attention else s)

/-- ALERT_RESPONSE (R396): a read of address 0x0C; `won` says that the arbitration let the whole byte out. A port that
waits for a STOP answers nothing (R393). -/
def State.alertResponse (s : State) (won : Bool) : State :=
  if s.mayAttend && !s.twi.waitStop && s.twi.unanswered && won then
    { s with twi := { s.twi with unanswered := false, newly := false } }.emit (.twBytes [BitVec.ofNat 8 s.twAddress])
  else s

def execAlertResponse (won : Bool) (s : State) : Res := .next (s.alertResponse won)

end Sys2Proof.Machine
end

