-- ==== Sys2Proof/Machine/Jtag.lean ====
section
/-! DEFINITION. The JTAG port's boundary scan, and the lands whose state is no pin of another chapter
(16_pins_package_and_electrical.md R474, R476; 11_configuration_boot_and_security.md R380). -/

namespace Sys2Proof.Machine

/-! ### Boundary scan (R476) -/

/-- The device's identity code. -/
def idCode : Nat := 0x124164E5

/-- The register between JT_TDI and JT_TDO. -/
inductive ScanRegister where
  | boundary
  | idCode
  | bypass
  /-- That of another instruction, which the spec does not describe. -/
  | unstated
  deriving DecidableEq, Repr

/-- The register that the instruction in force selects: EXTEST and INTEST, codes 1 and 2 (notes/assumptions/52.md),
act as BYPASS where they were loaded while Thyme ran. -/
def State.scanRegister (s : State) : ScanRegister :=
  match s.jtag.ir with
  | none => .idCode
  | some ir =>
    if s.jtag.scan then .boundary else if ir = 1 ∨ ir = 2 then .bypass else .unstated

/-- The device drives the strobes again after a scan: a kill whose condition stands acts now, a strobe that the scan has
kept high past its on-time limit falls, and outside ACTIVE none stays high (R41, R42, notes/assumptions/67.md). -/
def State.scanEnds (s : State) : State :=
  let high (s : State) (n : Nat) : Bool := match s.strobe n with
    | .high _ => true
    | _ => false
  let late (s : State) (n : Nat) : Bool := match s.strobe n with
    | .high since => decide (Int.ofNat (16 * s.reg (F.ARR_STRB_MAXON_MAXON n)) ≤ signedDiff s.pt since)
    | _ => false
  let s := (List.range 6).foldl (fun (s : State) n => if late s n then s.watchdog n else s) s
  if !(List.range 6).any (high s) then s
  else
    match (List.range 4).find? (bitAt s.arr.kills) with
    | some c => s.killStrobes (c + 1) false
    | none => if s.reg F.HKP_PWR_STATE = 3 then s else s.killStrobes 5 false

/-- BOUNDARY_SCAN_INSTRUCTION (R476): EXTEST and INTEST hand the strobes to the boundary register, whose bits are free
values, unless Thyme runs; every other instruction ends the scan. Without the main rails the port is dead. -/
def State.scanInstruction (s : State) (ir : Nat) : State :=
  if !s.mainPower then s
  else if (ir = 1 ∨ ir = 2) ∧ s.isRunning = false then
    let (levels, s) := s.drawFree 6
    { s with jtag := { tap := .other, ir := some ir, scan := true, strobes := levels } }
  else
    let was := s.jtag.scan
    let s := { s with jtag := { tap := .other, ir := some ir, scan := false, strobes := 0 } }
    if was then s.scanEnds else s

def execBoundaryScanInstruction (ir : Nat) (s : State) : Res := .next (s.scanInstruction ir)

/-! ### Lands (R474, Table PKG-3) -/

/-- What a transmitter's lands do. -/
inductive TxLand where
  | hiZ
  | idle
  /-- Powered down, where Table PKG-3 says "off". -/
  | off
  /-- As the port's state, or the base specification, has it. -/
  | driven
  deriving DecidableEq, Repr

/-- The column Reset of Table PKG-3: the main rails are on, and the device has not yet applied configuration (R474). -/
def State.beforeConfig (s : State) : Bool := s.boot.supply != .run || decide (s.reg F.CFG_BOOT_STAT_PHASE < 5)

/-- PE_TX: electrical idle until configuration is applied, then as the base specification has it
(notes/assumptions/67.md). -/
def State.peTx (s : State) : TxLand :=
  if !s.mainPower then .hiZ else if s.beforeConfig then .idle else .driven

/-- CW_TX (port 0) and CE_TX (port 1): electrical idle until configuration is applied; then as the port stands, and off
where it is powered down, as CW of the head and CE at position 23 always are (R287, R289, notes/assumptions/67.md). -/
def State.chiveTx (s : State) (p : Nat) : TxLand :=
  if !s.mainPower then .hiZ
  else if s.beforeConfig then .idle
  else if !s.portTrains p || s.portState p == 0 then .off
  else .driven

/-- JT_TDO is high-impedance but in the shift states. -/
def State.jtTdoDrives (s : State) : Bool := s.mainPower && (s.jtag.tap == .shiftDr || s.jtag.tap == .shiftIr)

end Sys2Proof.Machine
end

