-- ==== Sys2Proof/Machine/Dispatch.lean ====
section
/-! DEFINITION. The dispatch: one arm for each command, each one direct call of its meaning. -/

namespace Sys2Proof.Machine

open Host

/-- The effect of a command on everything but the queue (spec/opcode_table.json). -/
def exec (i : Instr) (s : State) : Host.Outcome State Fault Refusal :=
  match i with
  | .registerWrite port off size value => Sys2Proof.Machine.execRegisterWrite port off size value s
  | .wideRead port off => Sys2Proof.Machine.execWideRead port off s
  | .wideWriteLow port off value => Sys2Proof.Machine.execWideWriteLow port off value s
  | .latchTmo port off => Sys2Proof.Machine.execLatchTmo port off s
  | .ptLoad => Sys2Proof.Machine.execPtLoad s
  | .ptStep => Sys2Proof.Machine.execPtStep s
  | .cntStart n => Sys2Proof.Machine.execCntStart n s
  | .cntStop n => Sys2Proof.Machine.execCntStop n s
  | .cntRst n => Sys2Proof.Machine.execCntRst n s
  | .captNow n => Sys2Proof.Machine.execCaptNow n s
  | .counterInputEvent n => Sys2Proof.Machine.execCounterInputEvent n s
  | .linkAction => Sys2Proof.Machine.execLinkAction s
  | .encCount a b t => Sys2Proof.Machine.execEncCount a b t s
  | .encZIndex level t => Sys2Proof.Machine.execEncZIndex level t s
  | .posClr => Sys2Proof.Machine.execPosClr s
  | .snap => Sys2Proof.Machine.execSnap s
  | .snapComplete => Sys2Proof.Machine.execSnapComplete s
  | .lfclkEdge => Sys2Proof.Machine.execLfclkEdge s
  | .debugHalt => Sys2Proof.Machine.execDebugHalt s
  | .debugHaltExit => Sys2Proof.Machine.execDebugHaltExit s
  | .thyCtlStart => Sys2Proof.Machine.execThyCtlStart s
  | .thyCtlStop => Sys2Proof.Machine.execThyCtlStop s
  | .lineDue => Sys2Proof.Machine.execLineDue s
  | .encStall => Sys2Proof.Machine.execEncStall s
  | .trigEdge rising t => Sys2Proof.Machine.execTrigEdge rising t s
  | .thyRingPiWrite pi => Sys2Proof.Machine.execThyRingPiWrite pi s
  | .segNow => Sys2Proof.Machine.execSegNow s
  | .launchAction => Sys2Proof.Machine.execLaunchAction s
  | .skipAction => Sys2Proof.Machine.execSkipAction s
  | .programStep => Sys2Proof.Machine.execProgramStep s
  | .flushFrame => Sys2Proof.Machine.execFlushFrame s
  | .trigOutPulseEnd => Sys2Proof.Machine.execTrigOutPulseEnd s
  | .strbMaxon n => Sys2Proof.Machine.execStrbMaxon n s
  | .killClr => Sys2Proof.Machine.execKillClr s
  | .lineSample g bits bg => Sys2Proof.Machine.execLineSample g bits bg s
  | .chainOutput g => Sys2Proof.Machine.execChainOutput g s
  | .calibratedSample g => Sys2Proof.Machine.execCalibratedSample g s
  | .cnvTestRun => Sys2Proof.Machine.execCnvTestRun s
  | .selftestDone codes => Sys2Proof.Machine.execSelftestDone codes s
  | .cnvTestAbort => Sys2Proof.Machine.execCnvTestAbort s
  | .cnvFailClr => Sys2Proof.Machine.execCnvFailClr s
  | .detectorDecision d => Sys2Proof.Machine.execDetectorDecision d s
  | .levelRecordDequeue d => Sys2Proof.Machine.execLevelRecordDequeue d s
  | .evtPulseEnd k => Sys2Proof.Machine.execEvtPulseEnd k s
  | .calSetsWrite en => Sys2Proof.Machine.execCalSetsWrite en s
  | .rebuild => Sys2Proof.Machine.execRebuild s
  | .rebuildComplete => Sys2Proof.Machine.execRebuildComplete s
  | .scVisitEnd codes => Sys2Proof.Machine.execScVisitEnd codes s
  | .scFull => Sys2Proof.Machine.execScFull s
  | .scFullDone means => Sys2Proof.Machine.execScFullDone means s
  | .captStart => Sys2Proof.Machine.execCaptStart s
  | .alignedRecord => Sys2Proof.Machine.execAlignedRecord s
  | .seam words => Sys2Proof.Machine.execSeam words s
  | .seamMark words => Sys2Proof.Machine.execSeamMark words s
  | .seamWaitExpiry => Sys2Proof.Machine.execSeamWaitExpiry s
  | .bandRecord => Sys2Proof.Machine.execBandRecord s
  | .bandResident sn y0 => Sys2Proof.Machine.execBandResident sn y0 s
  | .cellRow => Sys2Proof.Machine.execCellRow s
  | .floodToken => Sys2Proof.Machine.execFloodToken s
  | .alarmWidthEnd => Sys2Proof.Machine.execAlarmWidthEnd s
  | .alarmClr => Sys2Proof.Machine.execAlarmClr s
  | .rtArm => Sys2Proof.Machine.execRtArm s
  | .rtDisarm => Sys2Proof.Machine.execRtDisarm s
  | .rtValidationDone => Sys2Proof.Machine.execRtValidationDone s
  | .signalDetect port => Sys2Proof.Machine.execSignalDetect port s
  | .trainingComplete port rtt swap pol => Sys2Proof.Machine.execTrainingComplete port rtt swap pol s
  | .trainingTimeout port reason => Sys2Proof.Machine.execTrainingTimeout port reason s
  | .retrainTimer port => Sys2Proof.Machine.execRetrainTimer port s
  | .retrainCw => Sys2Proof.Machine.execRetrainCw s
  | .retrainCe => Sys2Proof.Machine.execRetrainCe s
  | .lossOfSignal port => Sys2Proof.Machine.execLossOfSignal port s
  | .lossOfBlockLock port => Sys2Proof.Machine.execLossOfBlockLock port s
  | .sprigSend => Sys2Proof.Machine.execSprigSend s
  | .sprig lane0 lane1 rx => Sys2Proof.Machine.execSprig lane0 lane1 rx s
  | .echo lane0 lane1 rx => Sys2Proof.Machine.execEcho lane0 lane1 rx s
  | .echoDeadline id => Sys2Proof.Machine.execEchoDeadline id s
  | .sprigTimeout => Sys2Proof.Machine.execSprigTimeout s
  | .tclkPhaseStep => Sys2Proof.Machine.execTclkPhaseStep s
  | .ceNoSignalTimeout => Sys2Proof.Machine.execCeNoSignalTimeout s
  | .positionTimeout => Sys2Proof.Machine.execPositionTimeout s
  | .line w0 w1 w2 => Sys2Proof.Machine.execLine w0 w1 w2 s
  | .stop w0 w1 => Sys2Proof.Machine.execStop w0 w1 s
  | .commitPrepare w => Sys2Proof.Machine.execCommitPrepare w s
  | .commitConfirm w => Sys2Proof.Machine.execCommitConfirm w s
  | .commitAbort w => Sys2Proof.Machine.execCommitAbort w s
  | .sync w0 w1 => Sys2Proof.Machine.execSync w0 w1 s
  | .delay w => Sys2Proof.Machine.execDelay w s
  | .enum w => Sys2Proof.Machine.execEnum w s
  | .chainEnd w => Sys2Proof.Machine.execChainEnd w s
  | .chainInfo w => Sys2Proof.Machine.execChainInfo w s
  | .conflict => Sys2Proof.Machine.execConflict s
  | .digest w0 w1 => Sys2Proof.Machine.execDigest w0 w1 s
  | .syncState w => Sys2Proof.Machine.execSyncState w s
  | .commitResult w => Sys2Proof.Machine.execCommitResult w s
  | .dmaPiWrite r pi => Sys2Proof.Machine.execDmaPiWrite r pi s
  | .recordWrite w => Sys2Proof.Machine.execRecordWrite w s
  | .flushReadComplete r ok => Sys2Proof.Machine.execFlushReadComplete r ok s
  | .bufferAgeExpiry r => Sys2Proof.Machine.execBufferAgeExpiry r s
  | .modTimerExpiry r => Sys2Proof.Machine.execModTimerExpiry r s
  | .ringStop r => Sys2Proof.Machine.execRingStop r s
  | .linkLoss down => Sys2Proof.Machine.execLinkLoss down s
  | .linkRecovery => Sys2Proof.Machine.execLinkRecovery s
  | .hotReset => Sys2Proof.Machine.execHotReset s
  | .hostReadCompletion r status bytes => Sys2Proof.Machine.execHostReadCompletion r status bytes s
  | .linkSpeed speed width mode => Sys2Proof.Machine.execLinkSpeed speed width mode s
  | .evtSegclose => Sys2Proof.Machine.execEvtSegclose s
  | .ptmNow => Sys2Proof.Machine.execPtmNow s
  | .ptmPeriodExpiry => Sys2Proof.Machine.execPtmPeriodExpiry s
  | .ptmDialogDone ok times host => Sys2Proof.Machine.execPtmDialogDone ok times host s
  | .bar2Write off bytes => Sys2Proof.Machine.execBar2Write off bytes s
  | .barReadTimeout bar read => Sys2Proof.Machine.execBarReadTimeout bar read s
  | .go => Sys2Proof.Machine.execGo s
  | .cfgCheckDone => Sys2Proof.Machine.execCfgCheckDone s
  | .discard => Sys2Proof.Machine.execDiscard s
  | .cfgLock => Sys2Proof.Machine.execCfgLock s
  | .hostReboot => Sys2Proof.Machine.execHostReboot s
  | .resetNRelease straps => Sys2Proof.Machine.execResetNRelease straps s
  | .resetNLow => Sys2Proof.Machine.execResetNLow s
  | .mainDomainsRelease => Sys2Proof.Machine.execMainDomainsRelease s
  | .imageVerified => Sys2Proof.Machine.execImageVerified s
  | .bootApplyDone => Sys2Proof.Machine.execBootApplyDone s
  | .slotProgram k => Sys2Proof.Machine.execSlotProgram k s
  | .slotRevoke k => Sys2Proof.Machine.execSlotRevoke k s
  | .secRbAdvance => Sys2Proof.Machine.execSecRbAdvance s
  | .attestRun => Sys2Proof.Machine.execAttestRun s
  | .attestDone => Sys2Proof.Machine.execAttestDone s
  | .ptr w => Sys2Proof.Machine.execPtr w s
  | .wr4 bytes => Sys2Proof.Machine.execWr4 bytes s
  | .rd4 k => Sys2Proof.Machine.execRd4 k s
  | .wr8 bytes => Sys2Proof.Machine.execWr8 bytes s
  | .rd8 k => Sys2Proof.Machine.execRd8 k s
  | .bwr bytes => Sys2Proof.Machine.execBwr bytes s
  | .brd count k => Sys2Proof.Machine.execBrd count k s
  | .attn taken => Sys2Proof.Machine.execAttn taken s
  | .evt taken => Sys2Proof.Machine.execEvt taken s
  | .twTimeout kind => Sys2Proof.Machine.execTwTimeout kind s
  | .attentionPulse => Sys2Proof.Machine.execAttentionPulse s
  | .attentionRepeat => Sys2Proof.Machine.execAttentionRepeat s
  | .alertResponse won => Sys2Proof.Machine.execAlertResponse won s
  | .bootChunkRead lost data => Sys2Proof.Machine.execBootChunkRead lost data s
  | .listenedTransaction data => Sys2Proof.Machine.execListenedTransaction data s
  | .backoffExpiry => Sys2Proof.Machine.execBackoffExpiry s
  | .busStuck clocks freed => Sys2Proof.Machine.execBusStuck clocks freed s
  | .eepromProbeRetry => Sys2Proof.Machine.execEepromProbeRetry s
  | .pllApply x => Sys2Proof.Machine.execPllApply x s
  | .pllLock x => Sys2Proof.Machine.execPllLock x s
  | .pllLoss x cause => Sys2Proof.Machine.execPllLoss x cause s
  | .referenceGood => Sys2Proof.Machine.execReferenceGood s
  | .lfLost => Sys2Proof.Machine.execLfLost s
  | .lfOk => Sys2Proof.Machine.execLfOk s
  | .hkclkPtAdvance => Sys2Proof.Machine.execHkclkPtAdvance s
  | .hkRound readings => Sys2Proof.Machine.execHkRound readings s
  | .thermClr => Sys2Proof.Machine.execThermClr s
  | .logAck => Sys2Proof.Machine.execLogAck s
  | .ackAll => Sys2Proof.Machine.execAckAll s
  | .sleep => Sys2Proof.Machine.execSleep s
  | .brownOut rail mv => Sys2Proof.Machine.execBrownOut rail mv s
  | .wake source => Sys2Proof.Machine.execWake source s
  | .vauxLoss => Sys2Proof.Machine.execVauxLoss s
  | .vauxReturn => Sys2Proof.Machine.execVauxReturn s
  | .cellCutoff => Sys2Proof.Machine.execCellCutoff s
  | .coldStart => Sys2Proof.Machine.execColdStart s
  | .chargerTick => Sys2Proof.Machine.execChargerTick s
  | .chgFaultClr => Sys2Proof.Machine.execChgFaultClr s
  | .chgRestart => Sys2Proof.Machine.execChgRestart s
  | .boundaryScanInstruction ir => Sys2Proof.Machine.execBoundaryScanInstruction ir s
  | .bar0Read port off size => Sys2Proof.Machine.execBar0Read port off size s
  | .completionTimeout r => Sys2Proof.Machine.execCompletionTimeout r s
  | .packetDropped port => Sys2Proof.Machine.execPacketDropped port s
  | .linkRetrain => Sys2Proof.Machine.execLinkRetrain s
  | .fundamentalReset => Sys2Proof.Machine.execFundamentalReset s
  | .busStop => Sys2Proof.Machine.execBusStop s

end Sys2Proof.Machine
end

