-- ==== Sys2Proof/Machine/Tick.lean ====
section
/-! DEFINITION. One TCLK tick, which is what a step does while no command waits (notes/assumptions/1.md): press time
advances by 1, or by 2 or 0 in the one tick of 256 that a slew alters (02_press_time_and_counters.md R55, R57). -/

namespace Sys2Proof.Machine

/-- Press time counts ticks: TCLK runs, or is to stop at the next LFCLK edge (R55, R80). -/
def State.ticks (s : State) : Bool :=
  match s.clk.ptMode with
  | .ticks => true
  | .lfEnter => true
  | .off => false
  | .hk => false
  | .lf => false

/-- A tick of a slew, the last of 256: PT advances by 2 or by 0, and the rest of the correction is one less (R57). -/
def State.slewTick (s : State) : State :=
  let forward := decide (0 < s.ptc.slewLeft)
  let left := if forward then s.ptc.slewLeft - 1 else s.ptc.slewLeft + 1
  { s with pt := if forward then s.pt + 2 else s.pt, ptc := { s.ptc with slewLeft := left, slewPhase := 0 } }.reportSync
    false

/-- One tick. -/
def State.tick (s : State) : State :=
  if !s.ticks then s
  else if s.ptc.slewLeft = 0 then { s with pt := s.pt + 1 }
  else if s.ptc.slewPhase < 255 then
    { s with pt := s.pt + 1, ptc := { s.ptc with slewPhase := s.ptc.slewPhase + 1 } }
  else s.slewTick

end Sys2Proof.Machine
end

