-- ==== Sys2Proof/WellFormed.lean ====
section
/-! DEFINITION. Well-formed commands: operands within the ranges that the spec gives their port, ring, counter, group,
detector, PLL or address. -/

namespace Sys2Proof

/-- `n` is one of `k` things numbered from 0. -/
def below (k n : Nat) : Bool := decide (n < k)

/-- A port: 0 or 1. -/
def portOk (p : Nat) : Bool := below 2 p

/-- An access of 1 to 8 bytes inside the 4 MiB of BAR0 (10_host_interface_and_dma.md Table DMA-1). -/
def barAccess (off size : Nat) : Bool := decide (1 ≤ size) && decide (size ≤ 8) && decide (off + size ≤ 0x400000)

/-- An aligned word of BAR0 (00_scope.md R4). -/
def barWord (off : Nat) : Bool := decide (off % 4 = 0) && decide (off + 4 ≤ 0x400000)

/-- The command is well formed. -/
def Instr.wf : Instr → Bool
  | .registerWrite port off size value => portOk port && barAccess off size && decide (value < 2 ^ (8 * size))
  | .wideRead port off => portOk port && barWord off
  | .wideWriteLow port off value => portOk port && barWord off && decide (value < 2 ^ 32)
  | .latchTmo port off => portOk port && decide (off < 0x400000)
  | .ptLoad => true
  | .ptStep => true
  | .cntStart n => below 8 n
  | .cntStop n => below 8 n
  | .cntRst n => below 8 n
  | .captNow n => below 8 n
  | .counterInputEvent n => below 8 n
  | .linkAction => true
  | .encCount _ _ _ => true
  | .encZIndex _ _ => true
  | .posClr => true
  | .snap => true
  | .snapComplete => true
  | .lfclkEdge => true
  | .debugHalt => true
  | .debugHaltExit => true
  | .thyCtlStart => true
  | .thyCtlStop => true
  | .lineDue => true
  | .encStall => true
  | .trigEdge _ _ => true
  | .thyRingPiWrite pi => decide (pi < 2 ^ 32)
  | .segNow => true
  | .launchAction => true
  | .skipAction => true
  | .programStep => true
  | .flushFrame => true
  | .trigOutPulseEnd => true
  | .strbMaxon n => below 6 n
  | .killClr => true
  | .lineSample g bits bg => 
      below 6 g && bits.all (fun x => decide (x.1 < 16512)) && bg.all (fun x => decide (x.1 < 50310))
  | .chainOutput g => below 6 g
  | .calibratedSample g => below 6 g
  | .cnvTestRun => true
  | .selftestDone codes => codes.all (fun x => decide (x.1 < 50310) && x.2.1.length == 16 && x.2.2.1.length == 16
      && x.2.2.2.length == 16)
  | .cnvTestAbort => true
  | .cnvFailClr => true
  | .detectorDecision d => below 64 d
  | .levelRecordDequeue d => below 64 d
  | .evtPulseEnd k => below 4 k
  | .calSetsWrite en => below 256 en
  | .rebuild => true
  | .rebuildComplete => true
  | .scVisitEnd codes => codes.all (fun x => decide (x.1 < 50310))
  | .scFull => true
  | .scFullDone means => means.all (fun x => decide (x.1 < 50310))
  | .captStart => true
  | .alignedRecord => true
  | .seam _ => true
  | .seamMark _ => true
  | .seamWaitExpiry => true
  | .bandRecord => true
  | .bandResident _ _ => true
  | .cellRow => true
  | .floodToken => true
  | .alarmWidthEnd => true
  | .alarmClr => true
  | .rtArm => true
  | .rtDisarm => true
  | .rtValidationDone => true
  | .signalDetect port => portOk port
  | .trainingComplete port _ _ pol => portOk port && decide (pol < 4)
  | .trainingTimeout port reason => portOk port && decide (reason < 256)
  | .retrainTimer port => portOk port
  | .retrainCw => true
  | .retrainCe => true
  | .lossOfSignal port => portOk port
  | .lossOfBlockLock port => portOk port
  | .sprigSend => true
  | .sprig _ _ _ => true
  | .echo _ _ _ => true
  | .echoDeadline id => below 65536 id
  | .sprigTimeout => true
  | .tclkPhaseStep => true
  | .ceNoSignalTimeout => true
  | .positionTimeout => true
  | .line _ _ _ => true
  | .stop _ _ => true
  | .commitPrepare _ => true
  | .commitConfirm _ => true
  | .commitAbort _ => true
  | .sync _ _ => true
  | .delay _ => true
  | .enum _ => true
  | .chainEnd _ => true
  | .chainInfo _ => true
  | .conflict => true
  | .digest _ _ => true
  | .syncState _ => true
  | .commitResult _ => true
  | .dmaPiWrite r pi => below 16 r && decide (pi < 2 ^ 32)
  | .recordWrite w => below 16 w.ring
  | .flushReadComplete r _ => below 16 r
  | .bufferAgeExpiry r => below 16 r
  | .modTimerExpiry r => below 16 r
  | .ringStop r => below 16 r
  | .linkLoss _ => true
  | .linkRecovery => true
  | .hotReset => true
  | .hostReadCompletion r status _ => below 16 r && decide (status < 8)
  | .linkSpeed speed width mode =>
      decide (1 ≤ speed) && decide (speed ≤ 6) && [1, 2, 4, 8].contains width && decide (mode.flit < 2)
        && below 2048 mode.ctl && decide (mode.ctl / 2 % 4 < 3) && decide (mode.ctl / 64 % 8 < 6)
  | .evtSegclose => true
  | .ptmNow => true
  | .ptmPeriodExpiry => true
  | .ptmDialogDone _ times host => decide (times.turn < 2 ^ 32) && decide (host < 2 ^ 64)
  | .bar2Write off bytes => decide (off + bytes.length ≤ 0x10000000)
  | .barReadTimeout bar ⟨off, size⟩ =>
      (bar == 0 && (size == 4 || size == 8) && off % size == 0 && decide (off + size ≤ 0x400000))
        || (bar == 2 && decide (0 < size) && decide (off / 4096 = (off + size - 1) / 4096)
          && decide (off + size ≤ 0x10000000))
  | .go => true
  | .cfgCheckDone => true
  | .discard => true
  | .cfgLock => true
  | .hostReboot => true
  | .resetNRelease straps => below 16 straps
  | .resetNLow => true
  | .mainDomainsRelease => true
  | .imageVerified => true
  | .bootApplyDone => true
  | .slotProgram k => below 4 k
  | .slotRevoke k => below 4 k
  | .secRbAdvance => true
  | .attestRun => true
  | .attestDone => true
  | .ptr ⟨code, bytes⟩ => decide (bytes.length < 256) && below 256 code && (code == 1 || code == 0 || decide (9 < code))
  | .wr4 bytes => decide (bytes.length < 256)
  | .rd4 k => below 2 k.late
  | .wr8 bytes => decide (bytes.length < 256)
  | .rd8 k => below 4 k.late
  | .bwr bytes => decide (bytes.length < 512)
  | .brd count k => below 256 count && below (2 ^ 64) k.late
  | .attn _ => true
  | .evt _ => true
  | .twTimeout kind => kind == 1 || kind == 2
  | .attentionPulse => true
  | .attentionRepeat => true
  | .alertResponse _ => true
  | .bootChunkRead _ _ => true
  | .listenedTransaction _ => true
  | .backoffExpiry => true
  | .busStuck clocks _ => decide (clocks ≤ 9)
  | .eepromProbeRetry => true
  | .pllApply x => below 5 x
  | .pllLock x => below 5 x
  | .pllLoss x cause => below 5 x && decide (1 ≤ cause) && decide (cause ≤ 3)
  | .referenceGood => true
  | .lfLost => true
  | .lfOk => true
  | .hkclkPtAdvance => true
  | .hkRound readings => readings.length == 16 && readings.all (fun x => decide (x.1 < 65536))
  | .thermClr => true
  | .logAck => true
  | .ackAll => true
  | .sleep => true
  | .brownOut rail mv => below 4 rail && decide (mv < 65536)
  | .wake source => decide (1 ≤ source) && decide (source ≤ 4)
  | .vauxLoss => true
  | .vauxReturn => true
  | .cellCutoff => true
  | .coldStart => true
  | .chargerTick => true
  | .chgFaultClr => true
  | .chgRestart => true
  | .boundaryScanInstruction ir => below 4 ir
  | .bar0Read port off size => portOk port && barAccess off size
  | .completionTimeout r => below 16 r
  | .packetDropped port => portOk port
  | .linkRetrain => true
  | .fundamentalReset => true
  | .busStop => true

end Sys2Proof
end

