-- ==== Sys2Proof/Safety.lean ====
section
/-! DEFINITION. What the claims speak of: the parts of the state and what "only these parts change" says, the records of
the event FIFO, when the module takes a host's writes, and the invariants that its steps keep. -/

namespace Sys2Proof.Machine

/-! ### Frames -/

/-- The parts of `State`, one for each field. -/
inductive Part where
  | pending | regs | shadow | live | pt | lines | ptc | thy | arr | cnv | lfl | cal | pip | sor | chv
  | clk | commit | twi | boot | jtag | hkp | bay | dma | held | fifo | fifoLost | evtSeq | outbox
  | mem | freeCtr
  deriving DecidableEq, Repr

/-- The part is the same in the two states. -/
def Part.same : Part → State → State → Prop
  | .pending, s, t => t.pending = s.pending
  | .regs, s, t => t.regs = s.regs
  | .shadow, s, t => t.shadow = s.shadow
  | .live, s, t => t.live = s.live
  | .pt, s, t => t.pt = s.pt
  | .lines, s, t => t.lines = s.lines
  | .ptc, s, t => t.ptc = s.ptc
  | .thy, s, t => t.thy = s.thy
  | .arr, s, t => t.arr = s.arr
  | .cnv, s, t => t.cnv = s.cnv
  | .lfl, s, t => t.lfl = s.lfl
  | .cal, s, t => t.cal = s.cal
  | .pip, s, t => t.pip = s.pip
  | .sor, s, t => t.sor = s.sor
  | .chv, s, t => t.chv = s.chv
  | .clk, s, t => t.clk = s.clk
  | .commit, s, t => t.commit = s.commit
  | .twi, s, t => t.twi = s.twi
  | .boot, s, t => t.boot = s.boot
  | .jtag, s, t => t.jtag = s.jtag
  | .hkp, s, t => t.hkp = s.hkp
  | .bay, s, t => t.bay = s.bay
  | .dma, s, t => t.dma = s.dma
  | .held, s, t => t.held = s.held
  | .fifo, s, t => t.fifo = s.fifo
  | .fifoLost, s, t => t.fifoLost = s.fifoLost
  | .evtSeq, s, t => t.evtSeq = s.evtSeq
  | .outbox, s, t => t.outbox = s.outbox
  | .mem, s, t => t.mem = s.mem
  | .freeCtr, s, t => t.freeCtr = s.freeCtr

/-- Every part that is not listed is the same in the two states. -/
def OnlyIn (changed : List Part) (s t : State) : Prop := ∀ p, p ∉ changed → p.same s t

/-- Every register field that is not listed has the same value in the two states. -/
def RegsSame (written : List Field) (s t : State) : Prop :=
  ∀ f : Field, f.key ∉ written.map Field.key → t.reg f = s.reg f

/-- From `s` to `t` only the listed parts change, and of the register file only the listed fields. -/
def Changes (parts : List Part) (fields : List Field) (s t : State) : Prop := OnlyIn parts s t ∧ RegsSame fields s t

/-! ### Events -/

/-- The register fields and the parts that logging an event may change (10_host_interface_and_dma.md R345;
12_two_wire_management_port.md R395). -/
def attnFields : List Field := [F.TWI_ATTN_SRC_ALARM, F.TWI_ATTN_SRC_CLASS, F.DMA_STAT_EVT_LOST]

def logParts : List Part := [.regs, .twi, .fifo, .fifoLost, .evtSeq]

/-- From `s` to `t` one common event has been logged, with the SN and PT given: its record is the newest of the FIFO,
or it is counted, and EVT_LOST set, where the FIFO held 256 (R344, R345, R357). -/
def LoggedAt (s t : State) (code : Nat) (sn : SegNo) (pt : PressTime) (args : List (Nat × Nat)) : Prop :=
  if s.fifo.length < 256 then
    t.fifo = s.fifo ++ [.common ⟨code, s.posNow, sn, pt, args, s.evtSeq⟩] ∧ t.evtSeq = (s.evtSeq + 1) % 65536
  else t.fifo = s.fifo ∧ t.fifoLost = s.fifoLost + 1 ∧ t.reg F.DMA_STAT_EVT_LOST = 1

/-- The same with the segment and press time in force in `s`. -/
def Logged (s t : State) (code : Nat) (args : List (Nat × Nat)) : Prop := LoggedAt s t code s.snNow s.pt args

/-! ### The lines of Thyme -/

/-- No value waits for field `f`, neither for a line nor for a commit (00_scope.md R8, R9). -/
def State.settled (s : State) (f : Field) : Prop :=
  Assoc.find s.live f.key = none ∧ Assoc.find s.shadow f.key = none

/-- The class L fields of the blocks whose line boundary is the T of an action (00_scope.md R7, R12, Table SCOPE-5), but
`CAL_SETS.EN`, whose bits the slot checks of R191 judge. -/
def lineFields : List Field :=
  [F.THY_CTL_EN, F.THY_RING_PI_PI, F.CNV_TEST_TOL, F.CNV_BG_EN, F.CAL_CTL_AUTO, F.CAL_CTL_REPAIR_AUTO, F.CAL_TEMP_HYST,
    F.CAL_TEMP_EXT_TOL, F.CAL_SC_EN, F.CAL_SC_SHIFT, F.CAL_CAPT_KIND, F.CAL_CAPT_GROUPS, F.CAL_CAPT_LOG2N,
    F.CAL_CAPT_SLOT, F.SOR_RT_CTL_SRC, F.SOR_RT_CTL_GEN, F.SOR_RT_COUNT_V, F.SOR_RT_SWAP_SN_V] ++
  (List.range 8).flatMap (fun k => [F.PTC_CNT_CTL_EN k, F.PTC_CNT_CTL_LOG_MATCH k, F.PTC_CNT_CTL_LOG_LAP k,
    F.PTC_CNT_PERIOD_V k, F.PTC_CNT_CMP_V k])

/-- From `s` to `t` the head has issued action `a` for its next line, due at `t0`, `direct` on the direct trigger path
(03_thyme_line_launch.md R91, R101, R107, R111 to R113, R117 to R121; 09_chive_chain_and_sync.md R308, Table CHV-9):
whether the line opens a segment and why, its T at the end of the flush hold where `t0` falls inside it, its skip for
PAST or OVERSPEED, the LINE packet that goes east, and what the next line goes on from. -/
def State.issuedAs (s t : State) (t0 : PressTime) (direct : Bool) (a : Action) : Prop :=
  let req := 2 * boolBit s.thy.reqZ + 4 * boolBit s.thy.reqLvl + 8 * boolBit s.thy.reqHost
  let n := s.thy.sinceBoundary
  let len := s.flag F.THY_SEG_SRC_LEN && n == s.reg F.THY_SEG_SEGLEN
  let new := Cfg.minper (s.issueCfg a.sn)
  let minper := if a.boundary then max (Cfg.minper s.regs) new else new
  t.thy.armed = s.thy.armed ++ [a] ∧ a.ln = s.thy.ln ∧ a.start = s.thy.first ∧ a.t = s.heldTime t0 ∧ a.own = false ∧
    a.lost = none ∧
    (s.thy.first = true → a.boundary = true ∧ a.cause = 16 + req) ∧
    (s.thy.first = false → n < 64 → a.boundary = len ∧ a.cause = boolBit len) ∧
    (s.thy.first = false → 64 ≤ n → a.boundary = decide (a.cause ≠ 0) ∧
      a.cause = boolBit len + req + (if n = 65536 ∧ len = false then 16 else 0)) ∧
    a.sn = (if a.boundary then s.thy.sn + 1 else s.thy.sn) ∧ a.idx = (if a.boundary then 0 else n) ∧
    (direct = false → signedDiff a.t s.pt < Int.ofNat s.lmin → a.reason = 5) ∧
    ((direct = true ∨ Int.ofNat s.lmin ≤ signedDiff a.t s.pt) →
      (s.thy.last = none → a.reason = 0) ∧
      (∀ tp f, s.thy.last = some (tp, f) →
        a.reason = if signedDiff a.t (tp + BitVec.ofNat 64 minper) < 0 then 4 else 0)) ∧
    a.skip = decide (a.reason ≠ 0) ∧ t.outbox = (s.sendEast 1 0 a.words).outbox ∧
    t.thy.ln = s.thy.ln + 1 ∧ t.thy.sn = a.sn ∧ t.thy.first = false ∧
    t.thy.sinceBoundary = (if a.boundary then 1 else n + 1) ∧
    t.thy.reqZ = false ∧ t.thy.reqLvl = false ∧ t.thy.reqHost = false ∧
    t.thy.last = (if a.reason = 0 then some (a.t, Cfg.frameLen (s.issueCfg a.sn)) else s.thy.last) ∧
    (a.t ≠ t0 → t.reg F.THY_STAT_HELD = 1) ∧ t.pt = s.pt

/-- From `s` to `t` action `a`, ahead of `r` in the queue, has been executed (03_thyme_line_launch.md R93, R94, R112,
R115, R116; 09_chive_chain_and_sync.md R310, R311): the class L values that waited are in force, lines lost before it
stand in the ledger or make a gap, and its line `i` stands behind them, launched or skipped for a reason that is
counted. -/
def State.executedAs (s t : State) (a : Action) (r : List Action) (i : LineInfo) : Prop :=
  t.thy.armed = r ∧ t.thy.index = a.idx ∧ t.reg F.THY_LN_V = a.ln.toNat ∧ t.reg F.THY_SN_V = a.sn.toNat ∧
    t.chv.lastExec = some a.ln ∧ t.pt = s.pt ∧
    (Assoc.rising s.live = true → t.live = [] ∧ ∀ f ∈ lineFields, ∀ v, Assoc.find s.live f.key = some v → v < 2 ^ f.w →
      Assoc.find s.shadow f.key = none → t.reg f = v) ∧
    (∃ more, t.lines = s.lines ++ more ++ [i] ∧
      (a.lost = none → more = [] ∧ i.gap = none) ∧
      (∀ l idx sn, a.lost = some (l, idx, sn) →
        let n := (a.ln - l - 1).toNat
        (s.settled F.CHV_ACT_LOST_V → t.reg F.CHV_ACT_LOST_V = (s.reg F.CHV_ACT_LOST_V + n) % 2 ^ 32) ∧
        (sn = a.sn → n ≤ 4096 → i.gap = none ∧ more.length = n ∧
          ∀ k x, more[k]? = some x → x.ln = l + 1 + BitVec.ofNat 48 k ∧ x.sn = sn ∧ x.launched = false ∧ x.reason = 2) ∧
        (sn ≠ a.sn ∨ 4096 < n → more = [] ∧ i.gap = some (l + 1, a.ln - 1, sn)))) ∧
    i.ln = a.ln ∧ i.sn = a.sn ∧ i.t = a.t ∧ i.idx = a.idx ∧ i.start = a.start ∧
    i.prog = Cfg.progAt i.cfg a.idx ∧ i.ctx = Cfg.progCtx i.cfg i.prog ∧
    i.boundary = (a.start || s.chv.lastExec.isNone || snLater a.sn s.snNow) ∧
    ((a.start || s.chv.lastExec.isNone) = true → i.restarts = List.range 6) ∧
    t.cnv.run = (if a.start then some a.ln else s.cnv.run) ∧
    i.launched = decide (i.reason = 0) ∧
    (i.launched = true → t.arr.unconverted = some ⟨a.ln, a.sn, a.t, i.ctx, i.prog⟩ ∧ t.arr.hold = none ∧
      (s.ptc.counters.length = 8 → ∀ k, k < 8 → t.reg (F.PTC_CNT_CTL_SRC k) = 7 →
        (t.cnt k).inDue.getLast? = some false) ∧
      ∀ u j, s.arr.unconverted = some u → s.lineInfo u.ln = some j → j.cfg.enabledGroups ≠ [] →
        ∃ f, t.arr.frames = s.arr.frames ++ [f] ∧ f.ln = j.ln ∧ f.start = s.pt ∧ f.flush = false ∧
          f.waiting = j.cfg.enabledGroups) ∧
    (i.launched = false → t.arr.unconverted = s.arr.unconverted ∧ t.arr.hold = s.arr.hold ∧
      t.arr.frames = s.arr.frames ∧ t.reg F.THY_STAT_SKIPPED = 1 ∧
      (1 ≤ i.reason → i.reason ≤ 5 → s.settled (F.THY_SKIP_V (i.reason - 1)) →
        t.reg (F.THY_SKIP_V (i.reason - 1)) = (s.reg (F.THY_SKIP_V (i.reason - 1)) + 1) % 2 ^ 32))

/-- The boundary of segment `a.sn`, which action `a` opens, has been crossed from `s` to `t` with no class L value
waiting (03_thyme_line_launch.md R121): a confirmed commit of this segment or an earlier one is in force, one without
CONFIRM is an orphan (11_configuration_boot_and_security.md R364), a working set that was complete 256 ticks before T
has been swapped in (06_calibration_and_redundancy.md R200), and so has a READY region bank
(08_sorrel_reference_compare.md R265). -/
def State.boundaryCrossed (s t : State) (a : Action) : Prop :=
  let due : Prop := s.commit.busy = true ∧ snLater s.commit.target a.sn = false
  (¬ due → t.commit = s.commit ∧ t.shadow = s.shadow) ∧
    (due → s.cal.repairDue = false →
      t.commit.busy = false ∧ t.commit.frozen = false ∧ t.reg F.CFG_STAT_STATE = 0 ∧
      (s.reg F.CFG_STAT_STATE = 3 → Assoc.rising s.shadow = true → t.shadow = [] ∧ t.reg F.CFG_STAT_APPLIED = 1 ∧
        t.reg F.CFG_APPLIED_SN_V = s.commit.target.toNat ∧
        ∀ f : Field, f ∈ fieldsAt f.off → f.cls = .s → s.shadowReg f < 2 ^ f.w → t.reg f = s.shadowReg f) ∧
      (s.reg F.CFG_STAT_STATE ≠ 3 → t.shadow = s.shadow ∧ t.reg F.CFG_STAT_ORPHAN = 1)) ∧
    (∀ w p, s.cal.shadow = some (w, p) →
      (0 ≤ signedDiff a.t (p + 256) → t.cal.work = w ∧ t.cal.shadow = none ∧ t.cal.epoch = s.cal.epoch + 1 ∧
        t.reg F.CAL_STAT_PENDING = 0 ∧
        (s.settled F.CAL_SWAPS_V → t.reg F.CAL_SWAPS_V = (s.reg F.CAL_SWAPS_V + 1) % 2 ^ 32) ∧
        t.reg F.CAL_SWAP_SN_V = a.sn.toNat ∧ t.reg F.CAL_SWAP_PT_V = s.pt.toNat) ∧
      (signedDiff a.t (p + 256) < 0 → t.cal.work = s.cal.work ∧ t.cal.shadow = s.cal.shadow)) ∧
    (∀ count gen want since, s.sor.arm = .ready count gen want since →
      (snLater want a.sn = true → t.sor.arm = s.sor.arm) ∧
      (snLater want a.sn = false → 256 ≤ signedDiff a.t since → s.settled F.SOR_RT_STAT_IN_FORCE →
        t.sor.arm = .idle ∧ t.sor.count = count ∧ t.reg F.SOR_RT_STAT_IN_FORCE = s.idleBank ∧
        t.reg F.SOR_RT_STAT_GEN_IN_FORCE = gen % 256) ∧
      (want = a.sn → signedDiff a.t since < 256 → t.sor.arm = s.sor.arm ∧ t.reg F.SOR_RT_STAT_MISSED = 1))

/-- Launching has ended from `s` to `t` (03_thyme_line_launch.md R95; 14_housekeeping_thermal_and_power.md R436, R441):
RUNNING is 0, and the module is back in STANDBY, which waits while a shutdown or a resume has the power state. -/
def State.launchingEnded (s t : State) : Prop :=
  t.isRunning = false ∧ t.thy.stopping = false ∧ t.thy.first = false ∧ t.pt = s.pt ∧
    t.reg F.HKP_PWR_STATE = if t.thermDown || t.hkp.resuming.isSome then s.reg F.HKP_PWR_STATE else 2

/-- From `s` to `t` the head has aborted its commit for `reason`, or for its own refusal of it where it refused, and
names the positions of `who` (11_configuration_boot_and_security.md R363, R366). -/
def State.abortedFor (s t : State) (reason : Nat) (who : Nat → Bool) : Prop :=
  t.commit.busy = false ∧ t.commit.frozen = false ∧ t.shadow = s.shadow ∧ t.reg F.CFG_STAT_STATE = 0 ∧
    t.reg F.CFG_STAT_ABORTED = 1 ∧ ((∀ r, s.commit.own = some r → r = 0) → t.reg F.CFG_STAT_REASON = reason) ∧
    ∀ p, p < 24 → bitAt (t.reg F.CFG_REJ_POS_V) p = (decide (p < s.chainLen) && who p)

/-! ### What a host may do, and the invariants -/

/-- The command completes: `exec` answers a next state. -/
def Completes (i : Instr) (s : State) : Prop := ∃ t, exec i s = .next t

/-- The module takes a host's writes: the main domains run, boot has reached phase 5 or 6, and no thermal hold is in
force (11_configuration_boot_and_security.md R374; 14_housekeeping_thermal_and_power.md R432). -/
def State.takesWrites (s : State) : Prop :=
  s.boot.supply = .run ∧ 5 ≤ s.reg F.CFG_BOOT_STAT_PHASE ∧ s.flag F.HKP_THERM_HOLD = false

/-- A table window stands at `off`, in place of plain registers (17_register_index.md R487): the edge window, the fail
bitmap, the self-calibration log, the MRAM log, the MSI-X table with its PBA, and the region table. -/
def inWindow (off : Nat) : Prop :=
  0x10800 ≤ off ∧ off < 0x10C00 ∨ 0x42000 ≤ off ∧ off < 0x44040 ∨ 0x61000 ≤ off ∧ off < 0x64060 ∨
    0x111000 ≤ off ∧ off < 0x112000 ∨ 0x148000 ≤ off ∧ off < 0x149008 ∨ 0x300000 ≤ off

/-- The fields at `off` have their own places in one 32-bit word (00_scope.md R5). -/
def ownPlaces (off : Nat) : Prop :=
  (∀ f ∈ fieldsAt off, f.off = off ∧ 0 < f.w ∧ f.lo + f.w ≤ 32) ∧
    (fieldsAt off).Pairwise (fun f g => f.lo + f.w ≤ g.lo ∨ g.lo + g.w ≤ f.lo)

/-- Every field at `off` that a write reaches has access `a` and class `c`; the others are read-only or action bits. -/
def writesOf (off : Nat) (a : Access) (c : Option Class) : Prop :=
  (∃ f ∈ fieldsAt off, f.acc = a) ∧
    ∀ f ∈ fieldsAt off, f.acc = .ro ∨ f.acc = .w1s ∨ f.acc = a ∧ ∀ k ∈ c, f.cls = k

/-- The memory is in its canonical form. -/
def State.memOk (s : State) : Prop := Memory.wf s.mem = true

/-- The event FIFO holds at most 256 records (10_host_interface_and_dma.md R345). -/
def State.fifoOk (s : State) : Prop := s.fifo.length ≤ 256

/-- The parts that there are a fixed number of: counters, groups, strobes, detectors, pins, streams, ports and rings. -/
def State.partsOk (s : State) : Prop :=
  s.ptc.counters.length = 8 ∧ s.arr.groups.length = 6 ∧ s.arr.strobes.length = 6 ∧ s.arr.strobeForced.length = 6 ∧
    s.cnv.stages.length = 6 ∧ s.cnv.restart.length = 6 ∧ s.cnv.out.length = 6 ∧ s.lfl.hist.length = 6 ∧
    s.lfl.out.length = 6 ∧ s.lfl.dets.length = 64 ∧ s.lfl.pins.length = 4 ∧ s.cal.dark.length = 6 ∧
    s.cal.out.length = 6 ∧ s.pip.held.length = 6 ∧ s.pip.streams.length = 18 ∧ s.chv.ports.length = 2 ∧
    s.dma.rings.length = 16

/-- The shape of the state: `partsOk`, and the keys of the shadow and of the reliability log rise strictly. -/
def State.shapeOk (s : State) : Prop :=
  s.partsOk ∧ Assoc.rising s.shadow = true ∧ Assoc.rising s.hkp.log = true

end Sys2Proof.Machine
end

