-- ==== Sys2Proof/Certificates/Slice0/Obligations.lean ====
section
/-! DEFINITION. The statements for the provers, one for each group of rules: what a command changes, that it
completes, and what it leaves alone, from the numbered rules of the spec. -/

open Sys2Proof Sys2Proof.Machine

/-! ### The step, the reset and press time -/

/-- The step takes the command at the front of the queue and runs `exec` on it with the rest of the queue. The queue
is the model's (notes/assumptions/8.md). -/
def Obligations.StepRunsTheFrontCommand : Prop :=
  ∀ (s : State) (c : Instr) (rest : List Instr), s.pending = c :: rest → step s = exec c { s with pending := rest }

/-- With no command waiting a step is one TCLK tick (the model's choice, notes/assumptions/1.md): press time advances
by exactly 1 while TCLK runs and no slew is in progress (R55), and nothing changes while press time does not count
ticks. A slew moves press time by 2, or by 0, in one tick of 256 (R57): over 256 idle ticks press time advances by 257
or by 255, and one tick of the correction is used up. -/
def Obligations.IdleStepsAdvancePressTime : Prop :=
  (∀ s : State, s.pending = [] →
     (s.ticks = true → s.ptc.slewLeft = 0 → step s = .next { s with pt := s.pt + 1 }) ∧
     (s.ticks = false → step s = .next s)) ∧
  (∀ s : State, s.pending = [] → s.ticks = true → s.ptc.slewPhase = 0 → s.ptc.slewLeft ≠ 0 →
     ∃ t : State, Host.Core.run core 256 s = .next t ∧ t.ptc.slewPhase = 0 ∧
       (0 < s.ptc.slewLeft → t.pt = s.pt + 257 ∧ t.ptc.slewLeft = s.ptc.slewLeft - 1) ∧
       (s.ptc.slewLeft < 0 → t.pt = s.pt + 255 ∧ t.ptc.slewLeft = s.ptc.slewLeft + 1))

/-- What the spec gives for reset: every register field reads its reset value of the register index, the event FIFO
and the queue are empty, the strobes are high-impedance with kill cause 3 present, the eight counters stand at 0. For
the fields that notes/assumptions/3.md names, the spec gives no reset value, and the value is the model's choice. -/
def Obligations.ResetLeavesTheResetValues : Prop :=
  (∀ f : Field, State.reset.reg f = f.reset ∧ State.reset.shadowReg f = f.reset) ∧
    State.reset.pending = [] ∧ State.reset.fifo = [] ∧ State.reset.fifoLost = 0 ∧
    State.reset.arr.strobes = List.replicate 6 .z ∧ bitAt State.reset.arr.kills 2 = true ∧
    (∀ n, n < 8 → (State.reset.cnt n).count = 0 ∧ State.reset.cntRuns n = false) ∧
    State.reset.memOk ∧ State.reset.fifoOk ∧ State.reset.shapeOk

/-- PT_LOAD and PT_STEP (R56, R57). On the head, with Thyme stopped, LOAD makes press time take `PTC_PT_LOAD`; on
another module it has no effect and WRITE_IGNORED is logged. A module that has stopped makes the step that waits:
press time takes the corrected value, STEPPED is set and PT_STEP gives the old value, its record the new one; the time
that a read of the image has taken so far goes on (R404). Where it
says more than these rules it rests on the model's readings and choices in notes/assumptions/9.md,
notes/assumptions/12.md and notes/assumptions/33.md. -/
def Obligations.PressTimeLoadAndStep : Prop :=
  (∀ s : State, s.takesWrites → s.isHead = true → s.isRunning = false →
    exec .ptLoad s = .next { s with pt := BitVec.ofNat 64 (s.reg F.PTC_PT_LOAD_V) }) ∧
  (∀ s : State, s.takesWrites → s.isHead = false →
    ∃ t, exec .ptLoad s = .next t ∧ Logged s t 0x0A01 [(4, 0x10010), (1, 4)] ∧ Changes logParts attnFields s t) ∧
  (∀ (s : State) (d : Int), s.chv.stepDue = some d → s.lineInFlight = false →
    ∃ t, exec .ptStep s = .next t ∧ t.pt = s.pt + BitVec.ofInt 64 d ∧ t.chv.stepDue = none ∧
      t.reg F.PTC_PT_CTL_STEPPED = 1 ∧ LoggedAt s t 0x0183 s.snNow t.pt [(8, s.pt.toNat)] ∧
      t.boot = { s.boot with since := s.boot.since + BitVec.ofInt 64 d } ∧ t.arr = { s.arr with killAt := none } ∧
      Changes ([.pt, .chv, .boot, .arr] ++ logParts) (F.PTC_PT_CTL_STEPPED :: attnFields) s t)

/-! ### Counters and the encoder -/

/-- CNT_START, CNT_STOP, CNT_RST and CAPT_NOW (R70 to R73): a START makes an armed counter run and means nothing to
one that is not armed; a STOP stops it; a RST sets count and prescaler to 0, begins a count and leaves an armed
counter waiting; a capture with no latch held stores the count and the press time as one set. STOP beats START in the
same cycle (R71): after a write to the control register with both bits set, the counter has not been started, and the
two actions alone leave all else of the counter. Where it says more than these rules it rests on the model's readings
and choices in notes/assumptions/9.md and notes/assumptions/12.md. -/
def Obligations.CounterActionsOfTheHost : Prop :=
  (∀ (s : State) (n : Nat), s.takesWrites → n < 8 →
     exec (.cntStart n) s = .next
       (if s.flag (F.PTC_CNT_CTL_ARM n) then s.setCnt n { s.cnt n with started := true } else s) ∧
     exec (.cntStop n) s = .next (s.setCnt n { s.cnt n with started := false }) ∧
     (s.ptc.counters.length = 8 → ∃ t, exec (.cntRst n) s = .next t ∧
       (t.cnt n).count = 0 ∧ (t.cnt n).n = 0 ∧ (t.cnt n).started = false ∧
       (t.cnt n).need = s.reg (F.PTC_CNT_PRESC_P n) + s.reg (F.PTC_CNT_FRAC_F n) / 2 ^ 24 ∧
       (t.cnt n).acc = s.reg (F.PTC_CNT_FRAC_F n) % 2 ^ 24 ∧
       (∀ k, k ≠ n → t.cnt k = s.cnt k) ∧ Changes [.ptc] [] s t) ∧
     (s.latched (F.PTC_CNT_CAPT_PT_V n).off = false →
       exec (.captNow n) s = .next
         ((s.setReg (F.PTC_CNT_CAPT_CNT_V n) (s.cnt n).count).setReg (F.PTC_CNT_CAPT_PT_V n) s.pt.toNat))) ∧
  (∀ (s : State) (n : Nat), n < 8 → s.ptc.counters.length = 8 →
     (State.runActions (2 ^ 24 + 2 ^ 25) (wordActions (F.PTC_CNT_CTL_START n).off) s).cnt n
       = { s.cnt n with started := false }) ∧
  (∀ (s : State) (n port v : Nat), s.takesWrites → n < 8 → v < 2 ^ 32 → bitAt v 24 = true → bitAt v 25 = true →
     ∃ t, exec (.registerWrite port (F.PTC_CNT_CTL_START n).off 4 v) s = .next t ∧ (t.cnt n).started = false)

/-- A forward input event of a running counter, of every source (R64 to R66, Table PTC-1): it counts toward the `need`
of the present count; the event that reaches it advances the count, which goes from PERIOD − 1 to 0, and begins the
next count with the fraction carried over. The step that makes the count equal to CMP is a match, but not below PERIOD
or in the lap in which CMP was written at or below the count (R68); match and lap raise the link actions of
`PTC_CNTn_LINK` for the next cycle, the input events of the counters that count them, and the captures of a match (R70
to R72); a lap ends a one-shot run (R70); both are logged where they are wanted, at most once in 65,536 ticks (R84).
TCLK/16, XREF and LFCLK bring single events while press time counts ticks (R80, R81), and whole bursts with each LFCLK
edge while it advances from LFCLK, which count as their events one at a time; two laps or more set MULTI_LAP (R82).
LINK_ACTION (R70, R71): in the next cycle the RESETs raised are applied and then the STARTs; afterwards none waits.
Where it says more than these rules it rests on the model's readings and choices in notes/assumptions/9.md and
notes/assumptions/57.md. -/
def Obligations.CountersCountAndLink : Prop :=
  (∀ (s : State) (n : Nat), n < 8 → s.ptc.counters.length = 8 → s.cntRuns n = true →
     let c := s.cnt n
     let src := s.reg (F.PTC_CNT_CTL_SRC n)
     let left (k : Nat) : List Bool := if k = n ∧ 4 ≤ src then c.inDue.tail else (s.cnt k).inDue
     (1 ≤ src ∧ src ≤ 3 ∧ s.edgesCount = true ∨ 4 ≤ src ∧ src ≤ 11 ∧ c.inDue.head? = some false ∧ c.captDue = []) →
     ∃ t, exec (.counterInputEvent n) s = .next t ∧
       (c.n + 1 ≠ c.need → t = s.setCnt n { c with n := c.n + 1, inDue := left n }) ∧
       (c.n + 1 = c.need →
         let lap : Prop := s.period n ≤ c.count + 1
         let count := if lap then 0 else c.count + 1
         let hit : Prop := count = s.reg (F.PTC_CNT_CMP_V n) ∧ count < s.period n ∧ (c.cmpHeld = true → lap)
         (t.cnt n).count = count ∧ (t.cnt n).n = 0 ∧
         (t.cnt n).need = s.reg (F.PTC_CNT_PRESC_P n) + (c.acc + s.reg (F.PTC_CNT_FRAC_F n)) / 2 ^ 24 ∧
         (t.cnt n).acc = (c.acc + s.reg (F.PTC_CNT_FRAC_F n)) % 2 ^ 24 ∧
         (hit → t.reg (F.PTC_CNT_STAT_MATCHED n) = 1) ∧
         (¬ hit → t.reg (F.PTC_CNT_STAT_MATCHED n) = s.reg (F.PTC_CNT_STAT_MATCHED n)) ∧
         (lap → t.reg (F.PTC_CNT_STAT_LAPPED n) = 1) ∧
         (¬ lap → t.reg (F.PTC_CNT_STAT_LAPPED n) = s.reg (F.PTC_CNT_STAT_LAPPED n)) ∧
         ((t.cnt n).started = true ↔ c.started = true ∧ ¬ (lap ∧ s.flag (F.PTC_CNT_CTL_ONESHOT n) = true)) ∧
         (∀ k, k < 8 →
           ((t.cnt k).rstDue = true ↔ (s.cnt k).rstDue = true ∨ hit ∧ bitAt (s.reg (F.PTC_CNT_LINK_MATCH_RST n)) k = true ∨
             lap ∧ bitAt (s.reg (F.PTC_CNT_LINK_LAP_RST n)) k = true) ∧
           ((t.cnt k).startDue = true ↔ (s.cnt k).startDue = true ∨
             hit ∧ bitAt (s.reg (F.PTC_CNT_LINK_MATCH_START n)) k = true ∨
             lap ∧ bitAt (s.reg (F.PTC_CNT_LINK_LAP_START n)) k = true) ∧
           (t.cnt k).inDue = left k ++
             (if hit ∧ s.reg (F.PTC_CNT_CTL_SRC k) = 10 ∧ s.reg (F.PTC_CNT_CTL_SRC_SEL k) = n then [false] else []) ++
             (if lap ∧ s.reg (F.PTC_CNT_CTL_SRC k) = 11 ∧ s.reg (F.PTC_CNT_CTL_SRC_SEL k) = n then [false] else []) ∧
           (hit → s.reg (F.PTC_CNT_CAPTCTL_CAPT_SRC k) = 6 → s.reg (F.PTC_CNT_CAPTCTL_CAPT_SEL k) = n →
             (k = n ∨ (s.cnt k).inDue = []) → s.latched (F.PTC_CNT_CAPT_PT_V k).off = false →
             t.reg (F.PTC_CNT_CAPT_CNT_V k) = (if k = n then count else (s.cnt k).count) % 2 ^ 32 ∧
             t.reg (F.PTC_CNT_CAPT_PT_V k) = s.pt.toNat)) ∧
         ((∀ k, k < 8 → s.latched (F.PTC_CNT_CAPT_PT_V k).off = false) →
           (hit ∧ ¬ lap ∧ s.flag (F.PTC_CNT_CTL_LOG_MATCH n) = true ∨
             lap ∧ ¬ hit ∧ s.flag (F.PTC_CNT_CTL_LOG_LAP n) = true) →
           (c.lastLog = none → (t.cnt n).lastLog = some s.pt ∧
             ∃ kind, Logged s t 0x0187 [(1, n), (1, kind), (4, count), (8, s.pt.toNat)]) ∧
           (∀ x, c.lastLog = some x → (s.pt - x).toNat < 65536 →
             t.fifo = s.fifo ∧ t.fifoLost = s.fifoLost ∧ (t.cnt n).lastLog = some x ∧
             t.reg (F.PTC_CNT_STAT_LOG_MISSED n) = (s.reg (F.PTC_CNT_STAT_LOG_MISSED n) + 1) % 2 ^ 8)))) ∧
  (∀ (s : State) (n : Nat), n < 8 → s.ptc.counters.length = 8 →
     (s.reg (F.PTC_CNT_CTL_SRC n) = 0 → exec (.counterInputEvent n) s = .next s) ∧
     (s.cntRuns n = false → s.reg (F.PTC_CNT_CTL_SRC n) ≤ 3 → exec (.counterInputEvent n) s = .next s) ∧
     (s.cntRuns n = false → 4 ≤ s.reg (F.PTC_CNT_CTL_SRC n) → (s.cnt n).captDue = [] →
       exec (.counterInputEvent n) s = .next (s.setCnt n { s.cnt n with inDue := (s.cnt n).inDue.tail }))) ∧
  (∀ (s : State) (n k : Nat), n < 8 → s.ptc.counters.length = 8 → s.clk.ptMode = .lf → s.clk.lfLost = false →
     s.hkp.sleeping = false → s.cntRuns n = true →
     let c := s.cnt n
     let src := s.reg (F.PTC_CNT_CTL_SRC n)
     (src = 1 ∧ k = (if 2048 ≤ c.lfTclk + 47 then 2862 else 2861) ∨
       src = 2 ∧ k = (if 128 ≤ c.lfXref + 97 then 3052 else 3051) ∨ src = 3 ∧ k = 1) →
     ¬ (s.flag (F.PTC_CNT_CTL_ONESHOT n) = true ∧ s.flag (F.PTC_CNT_CTL_ARM n) = true) →
     let one (c : Counter) : Counter := (forwardEvent (s.reg (F.PTC_CNT_PRESC_P n)) (s.reg (F.PTC_CNT_FRAC_F n))
       (s.period n) (s.reg (F.PTC_CNT_CMP_V n)) c).1
     ∃ t, exec .lfclkEdge s = .next t ∧
       (t.cnt n).count = (Nat.repeat one k c).count ∧ (t.cnt n).n = (Nat.repeat one k c).n ∧ (t.cnt n).need = (Nat.repeat one k c).need ∧
       (t.cnt n).acc = (Nat.repeat one k c).acc ∧
       (t.cnt n).lfTclk = (if src = 1 then (c.lfTclk + 47) % 2048 else c.lfTclk) ∧
       (t.cnt n).lfXref = (if src = 2 then (c.lfXref + 97) % 128 else c.lfXref) ∧
       (s.reg (F.PTC_CNT_PRESC_P n) = 1 → s.reg (F.PTC_CNT_FRAC_F n) = 0 → c.need = 1 → c.n = 0 → c.acc = 0 →
         c.count < s.period n →
         let laps := (c.count + k) / s.period n
         (t.cnt n).count = (c.count + k) % s.period n ∧
         (1 ≤ laps → t.reg (F.PTC_CNT_STAT_LAPPED n) = 1) ∧
         t.reg (F.PTC_CNT_STAT_MULTI_LAP n) = (if 2 ≤ laps then 1 else s.reg (F.PTC_CNT_STAT_MULTI_LAP n)) ∧
         (c.cmpHeld = false → (∃ j, 1 ≤ j ∧ j ≤ k ∧ (c.count + j) % s.period n = s.reg (F.PTC_CNT_CMP_V n)) →
           t.reg (F.PTC_CNT_STAT_MATCHED n) = 1))) ∧
  (∀ s : State, s.ptc.counters.length = 8 →
     ∃ t, exec .linkAction s = .next t ∧ Changes [.ptc] [] s t ∧
       ∀ n, n < 8 → (t.cnt n).rstDue = false ∧ (t.cnt n).startDue = false ∧
         (t.cnt n).count = (if (s.cnt n).rstDue then 0 else (s.cnt n).count) ∧
         ((s.cnt n).startDue = true → s.flag (F.PTC_CNT_CTL_ARM n) = true → (t.cnt n).started = true))

/-- A count of the encoder (R67): a forward one is an input event to the prescaler; a reverse one undoes one: n falls
by 1; at n = 0 the count falls by 1 with n = need − 1; a reverse step from 0 sets the count to PERIOD − 1 and sets
BACKLAP. A reverse step itself changes nothing else, so it raises neither a match nor a lap; captures that waited for
the event of the same cycle are taken after it (R71, R72). -/
def Obligations.ReverseCountUndoesOne : Prop :=
  ∀ (s : State) (n : Nat) (r : List Bool), n < 8 → s.ptc.counters.length = 8 →
    s.reg (F.PTC_CNT_CTL_SRC n) = 5 → s.cntRuns n = true →
    ((s.cnt n).inDue = false :: r →
      ∃ t, exec (.counterInputEvent n) s = .next t ∧
        ((s.cnt n).n + 1 ≠ (s.cnt n).need →
          t = (s.setCnt n { s.cnt n with inDue := r, n := (s.cnt n).n + 1 }).takeCaptures n) ∧
        ((s.cnt n).n + 1 = (s.cnt n).need → (t.cnt n).n = 0 ∧
          (t.cnt n).count = if s.period n ≤ (s.cnt n).count + 1 then 0 else (s.cnt n).count + 1)) ∧
    ((s.cnt n).inDue = true :: r →
      (0 < (s.cnt n).n →
        exec (.counterInputEvent n) s =
          .next ((s.setCnt n { s.cnt n with inDue := r, n := (s.cnt n).n - 1 }).takeCaptures n)) ∧
      ((s.cnt n).n = 0 → 0 < (s.cnt n).count →
        exec (.counterInputEvent n) s = .next
          ((s.setCnt n { s.cnt n with
            inDue := r, count := (s.cnt n).count - 1, n := (s.cnt n).need - 1 }).takeCaptures n)) ∧
      ((s.cnt n).n = 0 → (s.cnt n).count = 0 →
        exec (.counterInputEvent n) s = .next
          (((s.setCnt n { s.cnt n with inDue := r, count := s.period n - 1, n := (s.cnt n).need - 1 }).setFlag
            (F.PTC_CNT_STAT_BACKLAP n) true).takeCaptures n)))

/-- ENC_COUNT (R75 to R77, R79, R83): an accepted edge that MODE decodes adds 1 to the position, or subtracts 1 where it
is reverse, which INVERT turns round, enters the edge FIFO with the press time of its crossing, or at LF resolution
with press time as it stands, and sets DIR; one that MODE does not decode leaves the position; edges of both channels
in one tick count nothing and are a quadrature error.
Where it says more than these rules it rests on the model's readings and choices in notes/assumptions/9.md. -/
def Obligations.EncoderCounts : Prop :=
  ∀ (s : State) (t0 : PressTime), s.encPowered = true →
    let mode := s.reg F.PTC_ENC_CTL_MODE
    let counted (t : State) (rev pin : Bool) : Prop :=
      let pos := if rev then s.ptc.pos - 1 else s.ptc.pos + 1
      t.ptc.pos = pos ∧ t.reg F.PTC_ENC_STAT_DIR = boolBit rev ∧
        t.ptc.edges = (⟨s.edgeTime t0, pos.toNat % 2 ^ 32, rev, pin, s.lfRes, true, s.ptc.encSeq⟩ ::
          s.ptc.edges).take 64 ∧
        Changes [.ptc, .thy, .regs] [F.PTC_ENC_STAT_DIR, F.THY_STAT_STALLED] s t
    (∀ a : Bool, a ≠ s.ptc.encA →
      ∃ t, exec (.encCount (some a) none t0) s = .next t ∧ t.ptc.encA = a ∧
        ((mode = 1 ∧ a = true ∨ mode = 2 ∨ mode = 3) →
          counted t ((a == s.ptc.encB) != s.flag F.PTC_ENC_CTL_INVERT) false) ∧
        ((mode = 0 ∨ mode = 1 ∧ a = false) → t.ptc.pos = s.ptc.pos ∧ t.ptc.edges = s.ptc.edges ∧ OnlyIn [.ptc] s t)) ∧
    (∀ b : Bool, b ≠ s.ptc.encB →
      ∃ t, exec (.encCount none (some b) t0) s = .next t ∧ t.ptc.encB = b ∧
        (mode = 3 → counted t ((b != s.ptc.encA) != s.flag F.PTC_ENC_CTL_INVERT) true) ∧
        (mode ≠ 3 → t.ptc.pos = s.ptc.pos ∧ t.ptc.edges = s.ptc.edges ∧ OnlyIn [.ptc] s t)) ∧
    (∀ a b : Bool,
      ∃ t, exec (.encCount (some a) (some b) t0) s = .next t ∧ t.ptc.pos = s.ptc.pos ∧
        t.ptc.edges = s.ptc.edges ∧ t.reg F.PTC_ENC_STAT_QUAD_ERR = 1 ∧ Logged s t 0x0182 [(8, s.pt.toNat)] ∧
        Changes (.ptc :: logParts) ([F.PTC_ENC_STAT_QUAD_ERR, F.PTC_ENC_STAT_QUAD_ERRS] ++ attnFields) s t)

/-- A capture while a port holds a latch on its register (R73): it waits in the second stage and CAPT_PEND reads 1; a
second one is discarded, flagged and logged; the release of the latch, here by its timeout, moves the first into the
capture registers. The index, POS_CLR and the snapshot (R78, R79, R85): a qualified index edge captures the position
and its press time, sets Z_SEEN and with Z_RST clears the position; POS_CLR clears it; a SNAP is requested and its
completion shows the edge FIFO in the window. A capture by an event of the module that is also an input event stores
the count after that input event, with the capture's own press time (R71, R72): here the index edge of capture source
1 while input events wait, and a capture that waited for one input event. Where it says more than these rules it rests
on the model's readings and choices in notes/assumptions/9.md and notes/assumptions/12.md. -/
def Obligations.CapturesIndexAndSnapshot : Prop :=
  (∀ (s : State) (n port : Nat), s.takesWrites → n < 8 → s.ptc.counters.length = 8 → (port = 0 ∨ port = 1) →
     (s.latched (F.PTC_CNT_CAPT_PT_V n).off = true →
       ((s.cnt n).capt2 = none →
         ∃ t, exec (.captNow n) s = .next t ∧ t.cnt n = { s.cnt n with capt2 := some ((s.cnt n).count, s.pt) } ∧
           t.reg (F.PTC_CNT_STAT_CAPT_PEND n) = 1 ∧
           Changes [.ptc, .regs] [F.PTC_CNT_STAT_CAPT_PEND n] s t) ∧
       ((s.cnt n).capt2 ≠ none →
         ∃ t, exec (.captNow n) s = .next t ∧ t.cnt n = s.cnt n ∧ t.reg (F.PTC_CNT_STAT_CAPT_OVR n) = 1 ∧
           Logged s t 0x0181 [(1, n)] ∧ Changes logParts (F.PTC_CNT_STAT_CAPT_OVR n :: attnFields) s t)) ∧
     (∀ v c pt, Assoc.find s.ptc.latches (latchKey port (F.PTC_CNT_CAPT_PT_V n).off) = some v →
       Assoc.find s.ptc.latches (latchKey (1 - port) (F.PTC_CNT_CAPT_PT_V n).off) = none →
       (s.cnt n).capt2 = some (c, pt) →
       ∃ t, exec (.latchTmo port (F.PTC_CNT_CAPT_PT_V n).off) s = .next t ∧ t.cnt n = { s.cnt n with capt2 := none } ∧
         t.reg (F.PTC_CNT_CAPT_CNT_V n) = c % 2 ^ 32 ∧ t.reg (F.PTC_CNT_CAPT_PT_V n) = pt.toNat ∧
         t.reg (F.PTC_CNT_STAT_CAPT_PEND n) = 0 ∧ t.reg F.PTC_PT_CTL_LATCH_TMO = 1)) ∧
  ((∀ (s : State) (level : Bool) (t0 : PressTime), s.encPowered = true → level ≠ s.flag F.PTC_ENC_CTL_Z_EDGE →
     (s.flag F.PTC_ENC_CTL_Z_GATE = true → s.ptc.encA = true ∧ s.ptc.encB = true) →
     ∃ t, exec (.encZIndex level t0) s = .next t ∧ t.reg F.PTC_ENC_Z_POS_V = (s.ptc.pos.signExtend 64).toNat ∧
       t.reg F.PTC_ENC_Z_PT_V = (s.edgeTime t0).toNat ∧ t.reg F.PTC_ENC_STAT_Z_SEEN = 1 ∧
       (t.ptc.pos = if s.flag F.PTC_ENC_CTL_Z_RST then 0 else s.ptc.pos) ∧
       (∀ n, n < 8 → s.ptc.counters.length = 8 → s.reg (F.PTC_CNT_CAPTCTL_CAPT_SRC n) = 1 → (s.cnt n).inDue ≠ [] →
         t.cnt n = { s.cnt n with captDue := (s.cnt n).captDue ++ [((s.cnt n).inDue.length, s.edgeTime t0)] })) ∧
   (∀ (s : State) (n : Nat) (rev : Bool) (t0 : PressTime), n < 8 → s.ptc.counters.length = 8 →
     4 ≤ s.reg (F.PTC_CNT_CTL_SRC n) → s.latched (F.PTC_CNT_CAPT_PT_V n).off = false → (s.cnt n).inDue = [rev] →
     (s.cnt n).captDue = [(1, t0)] →
     ∃ t, exec (.counterInputEvent n) s = .next t ∧ (t.cnt n).captDue = [] ∧
       t.reg (F.PTC_CNT_CAPT_CNT_V n) = (t.cnt n).count % 2 ^ 32 ∧ t.reg (F.PTC_CNT_CAPT_PT_V n) = t0.toNat) ∧
   (∀ s : State, s.takesWrites →
     exec .posClr s = .next { s with ptc := { s.ptc with pos := 0 } } ∧
     ∃ t, exec .snap s = .next t ∧ t.ptc.snapDue = true ∧ t.reg F.PTC_EDGE_CTL_SNAP_VALID = 0 ∧
       Changes [.ptc, .regs] [F.PTC_EDGE_CTL_SNAP, F.PTC_EDGE_CTL_SNAP_VALID] s t) ∧
   (∀ s : State, s.ptc.snapDue = true →
     ∃ t, exec .snapComplete s = .next t ∧ t.ptc.snap = s.ptc.edges ∧ t.ptc.edges = s.ptc.edges ∧
       t.reg F.PTC_EDGE_CTL_SNAP_VALID = 1 ∧
       Changes [.ptc, .regs] [F.PTC_EDGE_CTL_SNAP, F.PTC_EDGE_CTL_SNAP_VALID] s t))

/-! ### LFCLK, HKCLK and debug halt -/

/-- LFCLK_EDGE (R80): while press time advances from LFCLK and TCLK does not run, an edge adds 45,776 ticks, or 45,777
where the 7-bit fraction of 47/128 overflows; the edge that ends the ticks, or the HKCLK advance, logs LF_ENTER, sets
LF and clears the fraction; with TCLK running again the edge makes its increment, clears LF, and press time counts
ticks. HKCLK_PT_ADVANCE, LF_LOST and LF_OK (R419, R422): while press time advances from HKCLK an advance adds 375
ticks; the loss of LFCLK in run clears LF_OK, sets LF_LOST and is logged, and press time goes on from HKCLK where it
came from LFCLK; the return of LFCLK sets LF_OK and is logged. DEBUG_HALT and its exit (R80, R380, R420, R422): with
the configuration unlocked and LFCLK good the halt stops TCLK, and press time that counted ticks waits for the next
LFCLK edge; the lock refuses it; with LFCLK lost it is refused with WRITE_IGNORED reason 5, whose offset is a free
value; leaving it gates PLL-T and, with the reference good and no thermal shutdown or hold in force (R436), starts its
lock. Where it says more than these rules it rests on the model's readings and choices in notes/assumptions/9.md,
notes/assumptions/43.md and notes/assumptions/44.md. -/
def Obligations.ClockLossAndDebugHalt : Prop :=
  (∀ s : State, s.clk.lfLost = false → s.hkp.sleeping = false →
     (s.clk.ptMode = .lf → s.tclkRuns = false → s.ptc.counters.length = 8 →
       ∃ t, exec .lfclkEdge s = .next t ∧
         t.pt = s.pt + (if 128 ≤ s.ptc.lfAcc + 47 then 45777 else 45776) ∧
         t.ptc.lfAcc = (if 128 ≤ s.ptc.lfAcc + 47 then s.ptc.lfAcc + 47 - 128 else s.ptc.lfAcc + 47)) ∧
     (s.clk.ptMode = .lf → s.tclkRuns = true → s.ptc.counters.length = 8 →
       ∃ t, exec .lfclkEdge s = .next t ∧
         t.pt = s.pt + (if 128 ≤ s.ptc.lfAcc + 47 then 45777 else 45776) ∧ t.clk.ptMode = .ticks ∧
         t.reg F.PTC_PT_CTL_LF = 0) ∧
     (s.clk.ptMode = .lfEnter ∨ s.clk.ptMode = .hk →
       ∃ t, exec .lfclkEdge s = .next t ∧ t.clk.ptMode = .lf ∧ t.pt = s.pt ∧ t.ptc.lfAcc = 0 ∧
         t.reg F.PTC_PT_CTL_LF = 1 ∧ Logged s t 0x0185 [(8, s.pt.toNat)])) ∧
  ((∀ s : State, s.clk.ptMode = .hk → exec .hkclkPtAdvance s = .next { s with pt := s.pt + 375 }) ∧
   (∀ s : State, s.boot.supply = .run → s.clk.lfLost = false →
     ∃ t, exec .lfLost s = .next t ∧ t.clk.lfLost = true ∧
       t.clk.ptMode = (if s.clk.ptMode = .lf then .hk else s.clk.ptMode) ∧
       t.reg F.CLK_MON_LF_OK = 0 ∧ t.reg F.CLK_MON_LF_LOST = 1 ∧
       Logged s t 0x0C04 [] ∧
       Changes ([.clk] ++ logParts) ([F.CLK_MON_LF_OK, F.CLK_MON_LF_LOST] ++ attnFields) s t) ∧
   (∀ s : State, s.boot.supply = .run → s.flag F.CLK_MON_LF_OK = false →
     ∃ t, exec .lfOk s = .next t ∧ t.clk.lfLost = false ∧ t.reg F.CLK_MON_LF_OK = 1 ∧ Logged s t 0x0C05 [] ∧
       Changes ([.clk, .bay] ++ logParts) (F.CLK_MON_LF_OK :: attnFields) s t)) ∧
  ((∀ s : State, s.boot.supply = .run → s.clk.halted = false → s.flag F.CFG_LOCK_LOCKED = false →
     s.flag F.CLK_MON_LF_OK = true →
     ∃ t, exec .debugHalt s = .next t ∧ t.clk.halted = true ∧ t.tclkRuns = false ∧ t.pt = s.pt ∧
       t.clk.ptMode = (if s.clk.ptMode = .ticks then .lfEnter else s.clk.ptMode)) ∧
   (∀ s : State, s.flag F.CFG_LOCK_LOCKED = true → exec .debugHalt s = .next s) ∧
   (∀ s : State, s.boot.supply = .run → s.clk.halted = false → s.flag F.CFG_LOCK_LOCKED = false →
     s.flag F.CLK_MON_LF_OK = false →
     ∃ t off, exec .debugHalt s = .next t ∧ Logged s t 0x0A01 [(4, off), (1, 5)] ∧
       Changes (.freeCtr :: logParts) attnFields s t) ∧
   (∀ s : State, s.clk.halted = true →
     ∃ t, exec .debugHaltExit s = .next t ∧ t.clk.halted = false ∧ t.reg (F.CLK_PLL_STAT_GATED 0) = 1 ∧ t.pt = s.pt ∧
       (s.clk.refLost = false → s.thermDown = false →
         bitAt t.clk.locking 0 = true ∧ t.reg (F.CLK_PLL_STAT_SEARCHING 0) = 1) ∧
       (s.thermDown = true → bitAt t.clk.locking 0 = false)))

/-! ### Register accesses -/

/-- WIDE_READ and LATCH_TMO (R59 to R61): a read of the low half of a wide register answers it and latches the high
half in that port's latch; a read of the high half answers the latched value and releases the latch; a 64-bit read
answers the whole value and leaves no latch; a latch that times out is released, LATCH_TMO is set and logged. A read
of the low half of `PCX_PTM_PT` latches its high half and both halves of `PCX_PTM_HOST` (R355), whose two halves then
read as latched, each once, whatever a dialog has stored since. Where it says more than these rules it rests on the
model's readings and choices in notes/assumptions/9.md and notes/assumptions/13.md. -/
def Obligations.WideReadsAreConsistent : Prop :=
  (∀ (s : State) (port : Nat), s.boot.supply = .run → s.booting = false →
    (s.flag F.HKP_THERM_HOLD = false → s.reg F.PCX_PTM_PT_V < 2 ^ 64 → s.reg F.PCX_PTM_HOST_V < 2 ^ 64 →
      ∃ t, exec (.wideRead port ptmPt) s = .next t ∧
        t.outbox = s.outbox ++ [.readData port 4 (s.reg F.PCX_PTM_PT_V % 2 ^ 32)] ∧
        Assoc.find t.ptc.latches (latchKey port ptmPt) = some (s.reg F.PCX_PTM_PT_V / 2 ^ 32) ∧
        Assoc.find t.ptc.latches (latchKey port ptmHost) = some (s.reg F.PCX_PTM_HOST_V / 2 ^ 32) ∧
        Assoc.find t.ptc.latches (latchKey port ptmHostLow) = some (s.reg F.PCX_PTM_HOST_V % 2 ^ 32) ∧
        Changes [.ptc, .outbox] [] s t) ∧
    (∀ lo hi, lo < 2 ^ 32 → hi < 2 ^ 32 → Assoc.find s.ptc.latches (latchKey port ptmHostLow) = some lo →
      Assoc.find s.ptc.latches (latchKey port ptmHost) = some hi →
      ∃ t u, exec (.wideRead port ptmHost) s = .next t ∧ exec (.wideRead port (ptmHost + 4)) t = .next u ∧
        u.outbox = s.outbox ++ [.readData port 4 lo, .readData port 4 hi] ∧
        Assoc.find t.ptc.latches (latchKey port ptmHostLow) = none ∧
        Assoc.find u.ptc.latches (latchKey port ptmHost) = none ∧ Changes [.ptc, .outbox] [] s u) ∧
    (∀ hi, hi < 2 ^ 32 → Assoc.find s.ptc.latches (latchKey port ptmPt) = some hi →
      ∃ t, exec (.wideRead port (ptmPt + 4)) s = .next t ∧ t.outbox = s.outbox ++ [.readData port 4 hi] ∧
        Assoc.find t.ptc.latches (latchKey port ptmPt) = none ∧ Changes [.ptc, .outbox] [] s t) ∧
    (∀ hi, Assoc.find s.ptc.latches (latchKey port ptmHost) = some hi →
      ∃ t, exec (.latchTmo port ptmHost) s = .next t ∧ Assoc.find t.ptc.latches (latchKey port ptmHost) = none ∧
        Assoc.find t.ptc.latches (latchKey port ptmHostLow) = none ∧ t.reg F.PTC_PT_CTL_LATCH_TMO = 1)) ∧
  ∀ (s : State) (port off : Nat), s.boot.supply = .run → s.booting = false → off % 4 = 0 → off + 8 ≤ bar0Size →
    isWideLow off = true → off ≠ ptmPt → off ≠ ptmHost → (∀ k, k < 8 → off ≠ (F.PTC_CNT_CAPT_PT_V k).off) →
    (∃ t, exec (.wideRead port off) s = .next t ∧
      t.outbox = s.outbox ++ [.readData port 4 ((s.viewAt off).wideValue port off % 2 ^ 32)] ∧
      Assoc.find t.ptc.latches (latchKey port off) = some ((s.viewAt off).wideValue port off / 2 ^ 32 % 2 ^ 32) ∧
      (∀ k, k ≠ latchKey port off → Assoc.find t.ptc.latches k = Assoc.find s.ptc.latches k) ∧
      Changes [.ptc, .outbox] [] s t) ∧
    (off % 8 = 0 → isWideLow (off + 4) = false →
      ∃ t, exec (.bar0Read port off 8) s = .next t ∧
        t.outbox = s.outbox ++ [.readData port 8 ((s.viewAt off).wideValue port off % 2 ^ 64)] ∧
        Assoc.find t.ptc.latches (latchKey port off) = none ∧ Changes [.ptc, .outbox] [] s t) ∧
    (∀ v, Assoc.find s.ptc.latches (latchKey port off) = some v → v < 2 ^ 32 → isWideLow (off + 4) = false →
      ∃ t, exec (.wideRead port (off + 4)) s = .next t ∧ t.outbox = s.outbox ++ [.readData port 4 v] ∧
        Assoc.find t.ptc.latches (latchKey port off) = none ∧ Changes [.ptc, .outbox] [] s t) ∧
    (∀ v, Assoc.find s.ptc.latches (latchKey port off) = some v →
      ∃ t, exec (.latchTmo port off) s = .next t ∧ Assoc.find t.ptc.latches (latchKey port off) = none ∧
        t.reg F.PTC_PT_CTL_LATCH_TMO = 1 ∧ Logged s t 0x0184 [(4, off / 0x10000 * 0x10000), (1, port)] ∧
        Changes ([.ptc] ++ logParts) (F.PTC_PT_CTL_LATCH_TMO :: attnFields) s t)

/-- BAR0_READ (R4, R5, R8, R359, R486): a read of another size than 4 or 8, or one that is not aligned, returns all ones
of its size and logs a class 0x09 event; a read of an offset that no register is assigned to returns 0 and changes
nothing. A register of at most 32 bits answers each field at its place: what the field shows of other state, or the
value in force, or for a class S field with the shadow view of that port the pending value, and nothing changes; a
64-bit read answers two words. An
access beyond BAR0 or BAR2, which the spec says does not exist, stops with the fault `outsideBar` (Table DMA-1), and
BAR_READ_TIMEOUT inside them returns all ones of the read's size and is logged (R328). Where it says more than these
rules it rests on the model's readings and choices in notes/assumptions/14.md. -/
def Obligations.ReadsAndTimeoutsOfTheBars : Prop :=
  (∀ (s : State) (port off size : Nat), s.boot.supply = .run → off + size ≤ bar0Size →
     (¬ ((size = 4 ∨ size = 8) ∧ off % size = 0) →
       ∃ t, exec (.bar0Read port off size) s = .next t ∧
         t.outbox = s.outbox ++ [.readData port size (2 ^ (8 * size) - 1)] ∧ Logged s t 0x0901 [(4, off), (1, size)] ∧
         Changes (.outbox :: logParts) attnFields s t) ∧
     (size = 4 → off % 4 = 0 → s.booting = false → assigned off = false →
       exec (.bar0Read port off size) s = .next (s.emit (.readData port 4 0)))) ∧
  (∀ (s : State) (port off : Nat), s.boot.supply = .run → s.booting = false → off + 4 ≤ bar0Size → off % 4 = 0 →
     s.flag F.HKP_THERM_HOLD = false → ¬ inWindow off → fieldsAt off ≠ [] → ownPlaces off → isWideLow off = false →
     (4 ≤ off → isWideLow (off - 4) = false) →
     let value (f : Field) : Nat :=
       if f.key = F.CFG_VIEW_SHADOW.key then boolBit (s.shadowView port)
       else match s.shown f with
         | some v => v % 2 ^ f.w
         | none => if f.cls = .s ∧ s.shadowView port = true then s.shadowReg f else s.reg f
     (∀ f ∈ fieldsAt off, value f < 2 ^ f.w) →
     ∃ w, exec (.bar0Read port off 4) s = .next (s.emit (.readData port 4 w)) ∧
       ∀ f ∈ fieldsAt off, bitsAt w f.lo f.w = value f) ∧
  (∀ (s : State) (port off lo hi : Nat), off % 8 = 0 → off + 8 ≤ bar0Size →
     exec (.bar0Read port off 4) s = .next (s.emit (.readData port 4 lo)) →
     exec (.bar0Read port (off + 4) 4) s = .next (s.emit (.readData port 4 hi)) →
     exec (.bar0Read port off 8) s = .next (s.emit (.readData port 8 (lo + 2 ^ 32 * hi)))) ∧
  ((∀ (s : State) (port off size v : Nat), bar0Size < off + size →
     exec (.registerWrite port off size v) s = .fault .outsideBar ∧ exec (.bar0Read port off size) s = .fault .outsideBar) ∧
   (∀ (s : State) (port off v : Nat), bar0Size < off + 4 →
     exec (.wideRead port off) s = .fault .outsideBar ∧ exec (.wideWriteLow port off v) s = .fault .outsideBar) ∧
   (∀ (s : State) (off : Nat) (bytes : List Byte), bar2Size < off + bytes.length →
     exec (.bar2Write off bytes) s = .fault .outsideBar) ∧
   (∀ (s : State) (bar off size : Nat), (if bar = 0 then bar0Size else bar2Size) < off + size →
     exec (.barReadTimeout bar ⟨off, size⟩) s = .fault .outsideBar) ∧
   (∀ (s : State) (bar off size : Nat), (bar = 0 → off + size ≤ bar0Size) → (bar ≠ 0 → off + size ≤ bar2Size) →
     s.boot.supply = .run → s.booting = false →
     ∃ t, exec (.barReadTimeout bar ⟨off, size⟩) s = .next t ∧
       t.outbox = s.outbox ++ [.readData 0 size (2 ^ (8 * size) - 1)] ∧
       Logged s t 0x0902 [(1, bar), (4, off)] ∧ Changes (.outbox :: logParts) attnFields s t))

/-- REGISTER_WRITE (R5 to R11, R486), for a write that sets no action bit in a register whose written fields are all
of one kind: a class S field takes its bits in the shadow, and nothing in force changes, or is left alone under a
frozen shadow with WRITE_IGNORED of reason 3; read-only fields and action bits at 0 change nothing; a class L field
takes its bits at once outside the blocks with a line boundary and while its block counts as stopped, and waits in
`live` for the boundary otherwise, and a value that its map marks as refused is ignored with reason 5; a W1C field
loses the bits written as 1; a class X field takes its bits while its block is stopped, also by halves where it is
wide, and is ignored with reason 1 while it runs; a class B field takes them before the lock in an EMPTY slot, stays
in a slot that is not, and is ignored with reason 2 once the lock is set. A write of an offset that no register is
assigned to is discarded. No class L value waits that the write could bring into force. `CAL_SETS`, the producer
indices and `CFG_VIEW` have their own statements (`WorkingSetsAreRebuilt`, `HeadInputs`, `RingsWriteStopAndRead`,
`CommitsAreProposed`). Where it says more than these rules it rests on the model's readings and choices in
notes/assumptions/12.md and notes/assumptions/65.md. -/
def Obligations.WritesFollowTheClass : Prop :=
  ∀ (s : State) (port off v : Nat), s.takesWrites → off % 4 = 0 → off + 4 ≤ bar0Size → v < 2 ^ 32 →
    s.flag F.CFG_BOOT_STAT_SAFE = false → (s.live = [] ∨ s.isRunning = true ∧ s.ringStopped = false) →
    (assigned off = false → exec (.registerWrite port off 4 v) s = .next s) ∧
    ((∀ a ∈ wordActions off, bitAt v a.1 = false) → ¬ inWindow off → fieldsAt off ≠ [] → ownPlaces off →
      (∀ f ∈ fieldsAt off, s.reg f < 2 ^ f.w) →
      let taken (t : State) : Prop := ∀ f ∈ fieldsAt off, f.acc = .rw → t.reg f = bitsAt v f.lo f.w
      (writesOf off .rw (some .s) →
        (s.commit.frozen = false → ∃ t, exec (.registerWrite port off 4 v) s = .next t ∧
          (∀ f ∈ fieldsAt off, f.acc = .rw → t.shadowReg f = bitsAt v f.lo f.w) ∧
          (∀ g : Field, g.key ∉ (fieldsAt off).map Field.key → t.shadowReg g = s.shadowReg g) ∧ OnlyIn [.shadow] s t) ∧
        (s.commit.frozen = true → exec (.registerWrite port off 4 v) s = .next (s.writeIgnored off 3))) ∧
      ((∀ f ∈ fieldsAt off, f.acc = .ro ∨ f.acc = .w1s) → exec (.registerWrite port off 4 v) s = .next s) ∧
      (writesOf off .rw (some .l) → off ≠ F.CAL_SETS_EN.off → off ≠ F.THY_RING_PI_PI.off → off ≠ F.CFG_VIEW_SHADOW.off →
        (∀ r, r < 16 → off ≠ (F.DMA_RING_PI_PI r).off) →
        ((∀ f ∈ fieldsAt off, f.acc = .rw → refusedValue f (bitsAt v f.lo f.w) = false) →
          (s.isRunning = true → waitsForLine off = true →
            (s.ringStopped = true → off < 0x20000 ∨ 0x30000 ≤ off) →
            ∃ t, exec (.registerWrite port off 4 v) s = .next t ∧
              (∀ f ∈ fieldsAt off, f.acc = .rw → Assoc.find t.live f.key = some (bitsAt v f.lo f.w)) ∧
              OnlyIn [.live] s t) ∧
          ((waitsForLine off = false ∨ s.live = [] ∧ (s.isRunning = false ∨
              0x20000 ≤ off ∧ off < 0x30000 ∧ s.ringStopped = true)) →
            ∃ t, exec (.registerWrite port off 4 v) s = .next t ∧ taken t ∧ t.live = s.live)) ∧
        ((∀ f ∈ fieldsAt off, f.acc = .rw → refusedValue f (bitsAt v f.lo f.w) = true) →
          exec (.registerWrite port off 4 v) s = .next (s.writeIgnored off 5))) ∧
      (writesOf off .w1c none → ∃ t, exec (.registerWrite port off 4 v) s = .next t ∧
        (∀ f ∈ fieldsAt off, f.acc = .w1c → ∀ i, i < f.w → bitAt (t.reg f) i = (bitAt (s.reg f) i && !bitAt v (f.lo + i))) ∧
        Changes [.regs] (fieldsAt off) s t) ∧
      (writesOf off .rw (some .x) →
        (s.blockRuns off = false → ∃ t, exec (.registerWrite port off 4 v) s = .next t ∧ taken t ∧
          Changes [.regs] (fieldsAt off) s t) ∧
        (s.blockRuns off = true → exec (.registerWrite port off 4 v) s = .next (s.writeIgnored off 1))) ∧
      (writesOf off .rw (some .b) →
        let slot := s.flag (F.SEC_SLOT_CTL_STATE ((off - 0xF0120) / 0x40))
        (s.flag F.CFG_LOCK_LOCKED = false → slot = false → ∃ t, exec (.registerWrite port off 4 v) s = .next t ∧ taken t ∧
          Changes [.regs] (fieldsAt off) s t) ∧
        (s.flag F.CFG_LOCK_LOCKED = false → slot = true → exec (.registerWrite port off 4 v) s = .next s) ∧
        (s.flag F.CFG_LOCK_LOCKED = true → exec (.registerWrite port off 4 v) s = .next (s.writeIgnored off 2)))) ∧
    (∀ f : Field, fieldsAt off = [f] → fieldsAt (off + 4) = [] → ¬ inWindow off → ¬ inWindow (off + 4) →
      wordActions off = [] → wordActions (off + 4) = [] → off + 8 ≤ bar0Size → f.off = off → f.cls = .x → f.acc = .rw →
      f.lo < 32 → 32 < f.lo + f.w → f.lo + f.w ≤ 64 → s.reg f < 2 ^ f.w → s.blockRuns off = false →
      let n := 32 - f.lo
      (∃ t, exec (.registerWrite port off 4 v) s = .next t ∧ t.reg f = s.reg f / 2 ^ n * 2 ^ n + v / 2 ^ f.lo ∧
        Changes [.regs] [f] s t) ∧
      (∃ t, exec (.registerWrite port (off + 4) 4 v) s = .next t ∧
        t.reg f = s.reg f % 2 ^ n + v % 2 ^ (f.lo + f.w - 32) * 2 ^ n ∧ Changes [.regs] [f] s t))

/-- WIDE_WRITE_LOW (R62), for `BAY_WAKE_PT`, the one wide class L register: a write of the low half stays in the
port's holding stage and puts nothing in force; the next write of the high half through the same port applies both
halves together; a high half with no low half held goes with the low half in force; a 64-bit PCIe write applies both.
-/
def Obligations.WideWritesApplyTogether : Prop :=
  ∀ (s : State) (port lo hi : Nat), s.takesWrites → s.flag F.CFG_BOOT_STAT_SAFE = false → s.live = [] →
    lo < 2 ^ 32 → hi < 2 ^ 32 →
    (∃ t u, exec (.wideWriteLow port F.BAY_WAKE_PT_V.off lo) s = .next t ∧ t.regs = s.regs ∧
      exec (.registerWrite port (F.BAY_WAKE_PT_V.off + 4) 4 hi) t = .next u ∧
      u.reg F.BAY_WAKE_PT_V = lo + 2 ^ 32 * hi ∧ Changes [.ptc, .regs] [F.BAY_WAKE_PT_V] s u) ∧
    (Assoc.find s.ptc.holding (latchKey port F.BAY_WAKE_PT_V.off) = none →
      ∃ u, exec (.registerWrite port (F.BAY_WAKE_PT_V.off + 4) 4 hi) s = .next u ∧
        u.reg F.BAY_WAKE_PT_V = s.reg F.BAY_WAKE_PT_V % 2 ^ 32 + 2 ^ 32 * hi ∧
        Changes [.ptc, .regs] [F.BAY_WAKE_PT_V] s u) ∧
    (∃ u, exec (.registerWrite 0 F.BAY_WAKE_PT_V.off 8 (lo + 2 ^ 32 * hi)) s = .next u ∧
      u.reg F.BAY_WAKE_PT_V = lo + 2 ^ 32 * hi ∧ Changes [.ptc, .regs] [F.BAY_WAKE_PT_V] s u)

/-! ### Thyme and the array -/

/-- THY_CTL_START (R95): on the head with EN = 1, nothing running, no commit with NOW in progress and not in SAFE,
launching begins: RUNNING, and ACTIVE but in a thermal shutdown or resume (R436), the next line takes THY_LN_NEXT, and
its boundary will open THY_SN_NEXT. On another module WRITE_IGNORED is logged. THY_CTL_STOP and STOP (R95, R492): a
stop of the head with actions still armed sends STOP east, ends the issue of actions and gives the next LN and SN; a
received STOP is relayed and takes effect once the armed actions are executed. A stop with nothing armed, and the last
armed action after one, end the run: RUNNING is 0, the module is back in STANDBY (R441), the stop is logged with the
last LN executed, and the open segment is closed (R346) unless the run issued nothing. Where it says more than these
rules it rests on the model's readings and choices in notes/assumptions/9.md, notes/assumptions/12.md and
notes/assumptions/18.md. -/
def Obligations.LaunchingStartsAndStops : Prop :=
  (∀ s : State, s.takesWrites →
     (s.isHead = true → s.flag F.THY_CTL_EN = true → s.isRunning = false → (s.commit.busy && s.commit.now) = false →
       s.flag F.CFG_BOOT_STAT_SAFE = false →
       ∃ t, exec .thyCtlStart s = .next t ∧ t.reg F.THY_CTL_RUNNING = 1 ∧
         t.reg F.HKP_PWR_STATE = (if s.thermDown || s.hkp.resuming.isSome then s.reg F.HKP_PWR_STATE else 3) ∧
         t.thy.ln = BitVec.ofNat 48 (s.reg F.THY_LN_NEXT_V) ∧
         t.thy.sn = BitVec.ofNat 32 (s.reg F.THY_SN_NEXT_V) - 1 ∧ t.thy.first = true ∧ t.thy.due = [] ∧
         t.pt = s.pt) ∧
     (s.isHead = false →
       exec .thyCtlStart s = .next (s.writeIgnored 0x20000 4) ∧ exec .thyCtlStop s = .next (s.writeIgnored 0x20000 4))) ∧
  ((∀ s : State, s.takesWrites → s.isHead = true → s.isRunning = true → s.thy.stopping = false → s.thy.armed ≠ [] →
     ∃ t, exec .thyCtlStop s = .next t ∧ t.thy = { s.thy with stopping := true, due := [] } ∧
       t.reg F.THY_LN_NEXT_V = s.thy.ln.toNat ∧ t.reg F.THY_SN_NEXT_V = (s.thy.sn + 1).toNat ∧
       t.outbox = (s.sendEast 2 0 [BitVec.ofNat 64 (s.thy.ln - 1).toNat, BitVec.ofNat 64 s.thy.sn.toNat]).outbox ∧
       Changes [.regs, .thy, .outbox] [F.THY_LN_NEXT_V, F.THY_SN_NEXT_V] s t) ∧
   (∀ (s : State) (w0 w1 : Word64), s.hearsWest = true → s.isRunning = true → s.thy.armed ≠ [] →
     ∃ t, exec (.stop w0 w1) s = .next t ∧ t.thy = { s.thy with stopping := true } ∧
       t.outbox = (s.sendEast 2 0 [w0, w1]).outbox ∧ Changes [.thy, .outbox] [] s t)) ∧
  (∀ s : State, s.isRunning = true → s.settled F.HKP_PWR_STATE → s.settled F.THY_CTL_RUNNING →
     s.settled F.HKP_THERM_HOLD →
     let closed (t : State) (sn : SegNo) (last : LineNo) : Prop := ∃ x ∈ t.dma.closes, x.sn = sn ∧ x.last = last
     let ends (c : Instr) : Prop := ∃ t, exec c s = .next t ∧ s.launchingEnded t ∧ t.thy.armed = [] ∧
       t.reg F.THY_LN_V = s.reg F.THY_LN_V ∧ t.reg F.THY_SN_V = s.reg F.THY_SN_V ∧
       (s.fifo.length < 240 →
         ∃ n, FifoRec.common ⟨0x010A, s.posNow, s.snNow, s.pt, [(6, s.lastLn.toNat)], n⟩ ∈ t.fifo) ∧
       (s.thy.first = false → s.reg F.DMA_EVT_EN = 1 → closed t s.snNow s.lastLn)
     (s.thy.armed = [] → s.settled F.THY_LN_V → s.settled F.THY_SN_V →
       (s.takesWrites → s.isHead = true → s.thy.stopping = false → ends .thyCtlStop) ∧
       (s.hearsWest = true → ∀ w0 w1, ends (.stop w0 w1))) ∧
     (∀ a : Action, s.thy.armed = [a] → s.thy.stopping = true → s.thy.first = false →
       ∃ t, exec (if a.skip then .skipAction else .launchAction) s = .next t ∧ s.launchingEnded t ∧ t.thy.armed = [] ∧
         t.reg F.THY_LN_V = a.ln.toNat ∧ t.reg F.THY_SN_V = a.sn.toNat ∧
         (t.reg F.DMA_EVT_EN = 1 → closed t a.sn a.ln)))

/-- LINE_DUE (R91, R97, R101, R107, R111, R119 to R121, R308): a line whose T lies further ahead than LEAD_EFF is not
issued; at LEAD_EFF or less its action is armed, at its T or at the end of the flush hold, with its boundary and cause
and its skip for PAST or OVERSPEED, its LINE packet goes east, and the next line follows it (`State.issuedAs`). A commit
that is not confirmed by then has its own statement (`CommitsAreResolved`). Where it says more than these rules it rests
on the model's readings and choices in notes/assumptions/9.md and notes/assumptions/16.md. -/
def Obligations.LinesAreIssuedWithTheirLead : Prop :=
  ∀ (s : State) (t0 : PressTime), s.headIssues = true → s.nextTime = some t0 →
    (Int.ofNat s.leadEff < signedDiff t0 s.pt → exec .lineDue s = .next s) ∧
    (signedDiff t0 s.pt ≤ Int.ofNat s.leadEff → (s.commit.busy = true → s.reg F.CFG_STAT_STATE = 3) →
      ∃ t a, exec .lineDue s = .next t ∧ s.issuedAs t t0 false a)

/-- ENC_STALL, TRIG_EDGE, THY_RING_PI_WRITE and SEG_NOW on the head (R103, R106, R108, R119): a stall invalidates the
estimate and is logged, once until a count is accepted again; an accepted edge in trigger mode makes a line due LEAD_EFF
after it where the chain has more than one module, and on a module alone is the direct path (R117, R118), which issues
its action at once, 24 ticks after the edge, without the test for PAST; a write of the
ring's producer index acts at once while Thyme counts as stopped and waits for the line boundary otherwise; a host
boundary request waits for the next line. The press time that a stall gives before any count, and when Thyme counts as
stopped for the ring, are the model's choices in notes/assumptions/58.md. Where it says more than these rules it rests
on the model's readings and choices in notes/assumptions/9.md and notes/assumptions/12.md. -/
def Obligations.HeadInputs : Prop :=
  (∀ s : State, s.isHead = true →
    (s.thy.stallLogged = false →
      ∃ t, exec .encStall s = .next t ∧ t.thy = { s.thy with tc := 0, entries := 0, stallLogged := true } ∧
        t.reg F.THY_STAT_STALLED = 1 ∧ Logged s t 0x0102 [(8, (s.thy.lastCount.getD 0).toNat)] ∧
        Changes (.thy :: logParts) (F.THY_STAT_STALLED :: attnFields) s t) ∧
    (s.thy.stallLogged = true → exec .encStall s = .next s)) ∧
  (∀ (s : State) (rising : Bool) (t0 : PressTime), s.encPowered = true → s.headIssues = true →
    s.reg F.THY_CTL_MODE = 2 → s.flag F.THY_TRIG_EDGE ≠ rising →
    (1 < s.chainLen → ∃ t, exec (.trigEdge rising t0) s = .next t ∧
      t.thy = { s.thy with due := s.thy.due ++ [t0 + BitVec.ofNat 64 s.leadEff] }) ∧
    (s.chainLen = 1 → (s.commit.busy = true → s.reg F.CFG_STAT_STATE = 3) →
      ∃ t a, exec (.trigEdge rising t0) s = .next t ∧ s.issuedAs t (t0 + 24) true a)) ∧
  (∀ (s : State) (pi : Nat), s.takesWrites → s.flag F.CFG_BOOT_STAT_SAFE = false →
    (s.ringStopped = true → ∃ t, exec (.thyRingPiWrite pi) s = .next t ∧ t.reg F.THY_RING_PI_PI = pi % 1024) ∧
    (s.ringStopped = false →
      exec (.thyRingPiWrite pi) s =
        .next { s with live := Assoc.insert s.live F.THY_RING_PI_PI.key (pi % 1024) })) ∧
  (∀ s : State, s.takesWrites →
    (s.isHead = true → s.flag F.THY_SEG_SRC_HOST = true →
      exec .segNow s = .next { s with thy := { s.thy with reqHost := true } }) ∧
    (s.isHead = false → exec .segNow s = .next (s.writeIgnored 0x20040 4)))

/-- LAUNCH_ACTION (R7, R9, R93, R95, R112, R116, R121, R310, R311, R364): a launch action at its T puts the class L
values that wait in force and, where it opens a segment, crosses its boundary (`State.boundaryCrossed`); the module
then launches its line, which becomes the line to convert while the line before it enters its conversion frame, or,
where it may not launch or T falls inside the flush hold, skips it as UNSYNC or FLUSH; LN, SN and the line index are
its own (`State.executedAs`). What the last action of a run does besides is in `LaunchingStartsAndStops`. Where it
says more than these rules it rests on the model's readings and choices in notes/assumptions/9.md and
notes/assumptions/10.md. -/
def Obligations.LaunchRunsTheLine : Prop :=
  ∀ (s : State) (a : Action) (r : List Action), s.thy.armed = a :: r → a.skip = false → s.settled F.THY_SN_V →
    (r ≠ [] ∨ s.thy.stopping = false ∧ (s.isHead = false ∨ s.chv.digests = [])) →
    ∃ t i, exec .launchAction s = .next t ∧ s.executedAs t a r i ∧
      (let held := match s.arr.hold with
         | some (lo, hi) => decide (0 < signedDiff a.t lo) && decide (signedDiff a.t hi < 0)
         | none => false
       i.reason = if t.mayLaunch = false then 2 else if held then 3 else 0) ∧
      (i.boundary = true → s.live = [] → s.boundaryCrossed t a) ∧
      (i.boundary = false → t.commit = s.commit ∧ t.shadow = s.shadow ∧ t.cal.work = s.cal.work ∧
        t.sor.arm = s.sor.arm)

/-- SKIP_ACTION (R7, R9, R94, R95, R115, R121, R310, R311, R364): a skip action at its T puts the class L values that
wait in force, crosses the boundary that it opens as a launch does, and hands the pipeline a line that was not launched,
with its reason; the line is counted under it, SKIPPED is set, and no line waits for conversion but the one that waited
before (`State.executedAs`, `State.boundaryCrossed`). Where it says more than these rules it rests on the model's
readings and choices in notes/assumptions/9.md. -/
def Obligations.SkipsAreCounted : Prop :=
  ∀ (s : State) (a : Action) (r : List Action), s.thy.armed = a :: r → a.skip = true → s.settled F.THY_SN_V →
    (r ≠ [] ∨ s.thy.stopping = false ∧ (s.isHead = false ∨ s.chv.digests = [])) → 1 ≤ a.reason → a.reason ≤ 5 →
    ∃ t i, exec .skipAction s = .next t ∧ s.executedAs t a r i ∧ i.launched = false ∧ i.reason = a.reason ∧
      (i.boundary = true → s.live = [] → s.boundaryCrossed t a) ∧
      (i.boundary = false → t.commit = s.commit ∧ t.shadow = s.shadow ∧ t.sor.arm = s.sor.arm)

/-- PROGRAM_STEP (R27, R39, R41, R42, R44, R87), while no class L value waits: a step of the oldest running line,
alone with its tick, acts on its mask at once and leaves the program, whose other steps stay, and whose line stays in
front until its last step has run; OPEN releases the photodiodes of its groups in the rows that are converted, TX
moves the window into the storage node, SNR clears the node, a strobe edge drives an enabled strobe with a watchdog
high, unless a kill stands or came in this tick, or low; with TCLK stopped no step runs. Where it says more than these
rules it rests on the model's readings and choices in notes/assumptions/9.md. -/
def Obligations.ProgramStepsDrive : Prop :=
  (∀ s : State, s.tclkRuns = false → exec .programStep s = .next s) ∧
  ∀ (s : State) (r : RunLine) (rs : List RunLine) (tick kind mask : Nat) (rest : List (Nat × Nat × Nat)),
    s.tclkRuns = true → s.thy.running = r :: rs → r.steps = (tick, kind, mask) :: rest →
    (∀ x ∈ rest.head?, x.1 ≠ tick) → s.live = [] →
    ∃ t, exec .programStep s = .next t ∧
      t.thy.running = (if rest = [] then rs else { r with steps := rest } :: rs) ∧ Changes [.thy, .arr] [] s t ∧
      (s.arr.groups.length = 6 → s.arr.strobes.length = 6 → ∀ n, n < 6 → bitAt mask n = true →
        let rows := (s.lineCfg r.ln).rowsOf n
        (kind = 1 → (s.lineCfg r.ln).grpEn n = true → t.pix n = { s.pix n with openAt := some tick, rows := rows }) ∧
        (kind = 2 → (s.lineCfg r.ln).grpEn n = true → ∀ o, (s.pix n).openAt = some o →
          t.pix n = ⟨none, 0, (s.pix n).windows ++ [(o, tick, (s.pix n).rows)]⟩) ∧
        (kind = 3 → (s.lineCfg r.ln).grpEn n = true → t.pix n = { s.pix n with windows := [] }) ∧
        (kind = 4 → s.arr.kills ≠ 0 ∨ s.arr.killAt = some s.pt → t.strobe n = s.strobe n) ∧
        (kind = 4 → s.arr.kills = 0 → s.arr.killAt ≠ some s.pt → bitAt ((s.lineCfg r.ln).get F.ARR_STRB_EN_EN) n = true →
          (s.lineCfg r.ln).get (F.ARR_STRB_MAXON_MAXON n) ≠ 0 → t.strobe n = .high s.pt) ∧
        (kind = 5 → t.strobe n = (s.strobe n).lowered))

/-- FLUSH_FRAME, TRIG_OUT_PULSE_END, STRB_MAXON and KILL_CLR (R28, R41, R42, R112, R122): a flush frame takes the last
launched line and opens a hold of the frame length and 33 ticks; a TRIG_OUT pulse ends low; a strobe that stays high
is forced low and logged; KILL_CLR clears the cause when no condition is present. Where it says more than these rules
it rests on the model's readings and choices in notes/assumptions/9.md and notes/assumptions/18.md. -/
def Obligations.FlushAndStrobeEnds : Prop :=
  (∀ (s : State) (l : Launched), s.arr.unconverted = some l →
    ∃ t, exec .flushFrame s = .next t ∧ t.arr.unconverted = none ∧
      t.arr.hold = some (s.pt, s.pt + BitVec.ofNat 64 ((s.lineCfg l.ln).frameLen + 33)) ∧ t.pt = s.pt) ∧
  (∀ (s : State) (b : Bool), s.thy.trigOut = some b →
    exec .trigOutPulseEnd s = .next { s with thy := { s.thy with trigOut := some false } }) ∧
  (∀ (s : State) (n : Nat) (since : PressTime), n < s.arr.strobes.length → n < s.arr.strobeForced.length → n < 6 →
    s.jtag.scan = false → s.strobe n = .high since →
    ∃ t, exec (.strbMaxon n) s = .next t ∧ t.strobe n = .low ∧ t.arr.strobeForced[n]? = some true ∧
      bitAt (t.reg F.ARR_STRB_STAT_MAXON_HIT) n = true ∧ Logged s t 0x0201 [(1, n), (6, s.runningLn.toNat)] ∧
      Changes (.arr :: logParts) (F.ARR_STRB_STAT_MAXON_HIT :: attnFields) s t) ∧
  (∀ s : State, s.takesWrites →
    (s.arr.kills = 0 → exec .killClr s = .next (s.setReg F.ARR_STRB_STAT_KILL_CAUSE 0)) ∧
    (s.arr.kills ≠ 0 → exec .killClr s = .next s))

/-- LINE (R98, R308 to R312, R318, R376, R492; Table CHV-9): a LINE that is received goes on east and joins the armed
actions with the fields of its words; a launch becomes the module's own skip where the module may not launch (2) or
its T is less than 256 ticks ahead (1); the lines since the last LINE are lost; the first action after a start makes
RUNNING 1, or is refused and logged where its LN is not above the last one executed. With EN = 0, or in SAFE (R376),
the LINE only goes on east. Where it says more than these rules it rests on the model's readings and choices in
notes/assumptions/16.md and notes/assumptions/17.md. -/
def Obligations.LineActionsArrive : Prop :=
  ∀ (s : State) (w0 w1 w2 : Word64), s.hearsWest = true →
    let ln := BitVec.ofNat 48 w0.toNat
    let sn := BitVec.ofNat 32 w2.toNat
    let idx := bitsAt w2.toNat 32 17
    let taken (t : State) (b : Action) : Prop := t.thy.armed = s.thy.armed ++ [b] ∧ b.ln = ln ∧ b.t = w1 ∧ b.sn = sn ∧
      b.idx = idx ∧ b.boundary = bitAt w0.toNat 49 ∧ b.start = bitAt w0.toNat 58 ∧
      t.chv.lastRx = some (ln, idx, sn) ∧ t.outbox = (s.sendEast 1 0 [w0, w1, w2]).outbox
    (s.flag F.THY_CTL_EN = false ∨ s.flag F.CFG_BOOT_STAT_SAFE = true →
      exec (.line w0 w1 w2) s = .next (s.sendEast 1 0 [w0, w1, w2])) ∧
    (s.flag F.THY_CTL_EN = true → s.flag F.CFG_BOOT_STAT_SAFE = false → s.isRunning = true → bitAt w0.toNat 58 = false →
      s.chv.refused = false →
      (∀ l, s.chv.lastRx = some l → 0 < signedDiff ln l.1) →
      ∃ t b, exec (.line w0 w1 w2) s = .next t ∧ taken t b ∧ Changes [.thy, .chv, .outbox] [] s t ∧
        (bitAt w0.toNat 48 = true → b.skip = true ∧ b.reason = bitsAt w0.toNat 55 3) ∧
        (bitAt w0.toNat 48 = false → b.skip = (!s.mayLaunch || decide (signedDiff w1 s.pt < 256)) ∧
          (s.mayLaunch = false → b.reason = 2) ∧
          (s.mayLaunch = true → signedDiff w1 s.pt < 256 → b.reason = 1)) ∧
        (∀ l, s.chv.lastRx = some l → b.lost = if 1 < signedDiff ln l.1 then some l else none)) ∧
    (s.flag F.THY_CTL_EN = true → s.flag F.CFG_BOOT_STAT_SAFE = false → s.isRunning = false → bitAt w0.toNat 58 = true →
      (∀ l, s.chv.lastExec = some l → signedDiff ln l ≤ 0 →
        ∃ t, exec (.line w0 w1 w2) s = .next t ∧ t.chv = { s.chv with refused := true } ∧ t.thy = s.thy ∧
          Logged s t 0x080C [(6, ln.toNat), (6, l.toNat)] ∧ Changes ([.chv, .outbox] ++ logParts) attnFields s t) ∧
      ((∀ l, s.chv.lastExec = some l → 0 < signedDiff ln l) → s.flag F.CNV_TEST_STAT_BUSY = false →
        ∃ t b, exec (.line w0 w1 w2) s = .next t ∧ taken t b ∧ t.reg F.THY_CTL_RUNNING = 1 ∧
          t.reg F.HKP_PWR_STATE = (if s.thermDown || s.hkp.resuming.isSome then s.reg F.HKP_PWR_STATE else 3) ∧
          t.chv.refused = false ∧ b.lost = none ∧ t.pt = s.pt))

/-! ### Converters, filters and detectors -/

/-- LINE_SAMPLE (R135 to R139): the oldest frame that waits for the group yields its line sample, which enters the
group's queue and leaves the frame no longer waiting for it; for the first line of a group with TDI 1 and no self-
calibration visit, each column holds the sum of its own conversions, stamped at the exposure centroid and 12 ticks.
Where it says more than these rules it rests on the model's readings and choices in notes/assumptions/9.md and
notes/assumptions/10.md. -/
def Obligations.LineSamplesAreTaken : Prop :=
  ∀ (s : State) (g : Nat) (bits : List (Nat × List (List Bool))) (bg : List (Nat × List Bool)) (f : Frame) (i : LineInfo),
    g < 6 → s.cnv.out.length = 6 → s.arr.frames.find? (fun x => x.waiting.contains g) = some f →
    s.lineInfo f.ln = some i →
    ∃ t o, exec (.lineSample g bits bg) s = .next t ∧
      t.cnv.out[g]? = some (s.cnv.out[g]?.getD [] ++ [o]) ∧ o.ln = i.ln ∧ o.sn = i.sn ∧ o.captured = true ∧
      (s.arr.frames = [f] → f.waiting = [g] → t.arr.frames = []) ∧
      (∀ pc rows, bits = [(pc, rows)] → i.cfg.tdi g = 1 → f.visit = none → s.cnv.stages[g]?.getD [] = [] →
        o.pt = i.t + BitVec.ofNat 64 (i.cfg.centroid i.prog g + 12) ∧
        o.cols = [⟨pc, (i.cfg.columnBlocks i.spares g pc rows).blocks[0]?.getD 0,
          (i.cfg.columnBlocks i.spares g pc rows).sats[0]?.getD false, false⟩])

/-- CHAIN_OUTPUT (R157, R158, R164): the line sample of the next line of a group leaves the converters' queue with what
stands before it, joins the history of the chain, which restarts where the line says so, and at a selected line the
chain delivers an output; a line that was not launched joins the history as one not captured, and the converters' queue
stays. Where it says more than these rules it rests on the model's readings and choices in notes/assumptions/9.md. -/
def Obligations.ChainsDeliver : Prop :=
  ∀ (s : State) (g : Nat) (i : LineInfo) (x : GroupLine), g < 6 → s.lfl.out.length = 6 → s.lfl.hist.length = 6 →
    s.cnv.out.length = 6 → s.nextChainLine g = some i →
    (i.launched = true → (s.cnv.out[g]?.getD []).find? (fun y => y.ln == i.ln) = some x) →
    (i.launched = false → x = i.missing g) →
    ∃ t, exec (.chainOutput g) s = .next t ∧
      t.cnv.out[g]?.getD [] = (if i.launched then (s.cnv.out[g]?.getD []).filter (fun y => decide (0 < signedDiff y.ln i.ln))
        else s.cnv.out[g]?.getD []) ∧
      (let h := trimHistory (x :: (if i.restarts.contains g then [] else s.lfl.hist[g]?.getD []))
       t.lfl.hist[g]? = some h ∧
       (i.cfg.selected g x.ln = true → t.lfl.out[g]? = some (s.lfl.out[g]?.getD [] ++ [i.cfg.chainLine g h x])) ∧
       (i.cfg.selected g x.ln = false → t.lfl.out = s.lfl.out))

/-- CALIBRATED_SAMPLE (R178 to R182): the oldest chain output of a group leaves the chain and enters the hub's queue,
calibrated: with MODE 0, no fill and no dark tracking, every column of the window holds its code rounded by 6 bits.
Where it says more than these rules it rests on the model's readings and choices in notes/assumptions/9.md. -/
def Obligations.OutputsAreCalibrated : Prop :=
  ∀ (s : State) (g : Nat) (o : GroupLine) (rest : List GroupLine) (i : LineInfo), g < 6 → s.cal.out.length = 6 →
    s.lfl.out.length = 6 → s.lfl.out[g]?.getD [] = o :: rest → s.lineInfo o.ln = some i →
    ∃ t y, exec (.calibratedSample g) s = .next t ∧ t.lfl.out[g]? = some rest ∧
      t.cal.out[g]? = some (s.cal.out[g]?.getD [] ++ [y]) ∧ y.ln = o.ln ∧ y.captured = o.captured ∧
      (o.captured = true → i.cfg.get (F.CAL_GRP_MODE g) = 0 → i.cfg.get (F.CAL_GRP_FILL g) = 0 →
        i.cfg.get (F.CAL_GRP_DARK_TRACK g) = 0 →
        y.cols = (o.cols.filter (fun x => decide (i.cfg.winFirst ≤ x.pc) && decide (x.pc ≤ i.cfg.winLast))).map
          (fun x => let v := (x.v + 32) / 64
                    ⟨x.pc, min v 0xFFFF, x.sat || decide (0xFFFF < v), false⟩))

/-- The converters' self-test (R147, R148, R151): RUN begins it with an empty bitmap, and ABORTED 0, while Thyme is
stopped; ABORT ends it with an all-zero bitmap, DONE and ABORTED; its end sets DONE and the bits of the converters
that fail, judged by the rounded-down means of their 16 codes at each level (R146); FAIL_CLR clears the bitmap while no
test runs. That ABORTED falls at RUN is the model's choice in notes/assumptions/68.md, and so is the code of a converter
that the command does not list. Where it says more than these rules it rests on the model's readings and choices in
notes/assumptions/9.md, notes/assumptions/10.md and notes/assumptions/12.md. -/
def Obligations.ConverterSelfTest : Prop :=
  (∀ s : State, s.takesWrites → s.isRunning = false → s.flag F.CNV_TEST_STAT_BUSY = false →
    ∃ t, exec .cnvTestRun s = .next t ∧ t.reg F.CNV_TEST_STAT_BUSY = 1 ∧ t.cnv.fails = [] ∧
      t.reg F.CNV_TEST_STAT_ABORTED = 0 ∧
      Changes [.regs, .cnv] [F.CNV_TEST_STAT_BUSY, F.CNV_TEST_STAT_ABORTED] s t) ∧
  (∀ s : State, s.takesWrites → s.isRunning = true → exec .cnvTestRun s = .next (s.writeIgnored 0x40100 5)) ∧
  (∀ s : State, s.takesWrites → s.flag F.CNV_TEST_STAT_BUSY = true →
    ∃ t, exec .cnvTestAbort s = .next t ∧ t.reg F.CNV_TEST_STAT_BUSY = 0 ∧ t.reg F.CNV_TEST_STAT_DONE = 1 ∧
      t.reg F.CNV_TEST_STAT_ABORTED = 1 ∧ t.cnv = { s.cnv with fails := [] } ∧
      Changes (.cnv :: logParts) ([F.CNV_TEST_STAT_BUSY, F.CNV_TEST_STAT_DONE, F.CNV_TEST_STAT_ABORTED,
        F.CNV_TEST_STAT_FAILS] ++ attnFields) s t) ∧
  (∀ s : State, s.takesWrites → s.flag F.CNV_TEST_STAT_BUSY = false →
    exec .cnvFailClr s = .next { s with cnv := { s.cnv with fails := [], bgLogged := [] } }) ∧
  (∀ (s : State) (codes : List (Nat × List (List Bool) × List (List Bool) × List (List Bool))),
    s.flag F.CNV_TEST_STAT_BUSY = true →
    ∃ t, exec (.selftestDone codes) s = .next t ∧ t.reg F.CNV_TEST_STAT_BUSY = 0 ∧ t.reg F.CNV_TEST_STAT_DONE = 1 ∧
      ((∀ x ∈ codes, x.1 < 50310) → ∀ c, c ∈ t.cnv.fails → c < 50310) ∧
      ∀ c a0 a1 a2, c < 50310 → codes.find? (fun x => x.1 == c) = some (c, a0, a1, a2) →
        a0.length = 16 → a1.length = 16 → a2.length = 16 →
        let mean (l : List (List Bool)) : Nat :=
          (l.map (fun b => (decimate (Cfg.shifts s.regs) b).1)).foldl (fun n v => n + v) 0 / 16
        (c ∈ t.cnv.fails ↔
          judge (Cfg.fs s.regs) (s.reg F.CNV_TEST_TOL) (mean a0) (mean a1) (mean a2) ≠ none))

/-- DETECTOR_DECISION in level mode (R169, R171): an evaluated line of an UNKNOWN detector makes it HIGH above TH_HI
and LOW otherwise, without an event; a line below TH_LO that completes the run of a HIGH detector makes it LOW and
sets FIRED; a line that does not leaves it HIGH. LEVEL_RECORD_DEQUEUE and EVT_PULSE_END (R173, R174): a waiting level-
event record moves into the event FIFO once it has room, and stays while it has none; an EVT pulse ends, and nothing
else changes. Where it says more than these rules it rests on the model's readings and choices in
notes/assumptions/9.md. -/
def Obligations.DetectorsAndLevelRecords : Prop :=
  (∀ (s : State) (d : Nat) (x : TapLine) (rest : List TapLine), d < 64 → s.lfl.dets.length = 64 →
     (s.det d).inq = x :: rest → x.captured = true → x.cols ≠ [] → x.unsettled = false → x.fresh = false →
     (s.lineCfg x.ln).get (F.LFL_DET_CTL_MODE d) = 1 →
     ∃ t, exec (.detectorDecision d) s = .next t ∧ (t.det d).inq = rest ∧
       (let c := s.lineCfg x.ln
        let v := reduceCols (c.get (F.LFL_DET_CTL_REDUCE d)) x.cols
        (s.reg (F.LFL_DET_STAT_STATE d) = 0 →
          t.reg (F.LFL_DET_STAT_STATE d) = (if c.get (F.LFL_DET_TH_HI_TH d) < v then 2 else 1) ∧
          t.reg (F.LFL_DET_STAT_FIRED d) = s.reg (F.LFL_DET_STAT_FIRED d)) ∧
        (s.reg (F.LFL_DET_STAT_STATE d) = 2 → v < c.get (F.LFL_DET_TH_LO_TH d) →
          c.get (F.LFL_DET_CTL_QUAL d) ≤ (extendRun (s.det d).run 0 x v (s.det d).prev).lines →
          t.reg (F.LFL_DET_STAT_STATE d) = 1 ∧ t.reg (F.LFL_DET_STAT_FIRED d) = 1) ∧
        (s.reg (F.LFL_DET_STAT_STATE d) = 2 → c.get (F.LFL_DET_TH_LO_TH d) ≤ v →
          t.reg (F.LFL_DET_STAT_STATE d) = 2 ∧ (t.det d).run = none))) ∧
  ((∀ (s : State) (d : Nat) (r : List Byte) (rest : List (List Byte)), d < s.lfl.dets.length →
     (s.det d).queue = r :: rest →
     (s.fifo.length < 256 →
       ∃ t, exec (.levelRecordDequeue d) s = .next t ∧ t.fifo = s.fifo ++ [.level r] ∧ (t.det d).queue = rest ∧
         Changes [.lfl, .fifo, .regs, .twi] attnFields s t) ∧
     (256 ≤ s.fifo.length → exec (.levelRecordDequeue d) s = .next s)) ∧
   (∀ (s : State) (k : Nat), ∃ t, exec (.evtPulseEnd k) s = .next t ∧
     (∀ p, s.lfl.pins[k]? = some p → t.lfl.pins[k]? = some { p with pulse := false }) ∧
     (∀ j, j ≠ k → t.lfl.pins[j]? = s.lfl.pins[j]?) ∧ Changes [.lfl] [] s t))

/-! ### Calibration -/

/-- CAL_SETS_WRITE, REBUILD and REBUILD_COMPLETE (R191, R198 to R200): a cleared EN bit clears its VALID bit with it,
a set one has its slot checked and is kept or rejected, and while Thyme runs the write waits for the line boundary; a
trigger starts a rebuild, or is remembered while one runs or waits for its swap; a completed rebuild waits for its
boundary, and is swapped in at once while Thyme is stopped. Where it says more than these rules it rests on the
model's readings and choices in notes/assumptions/12.md and notes/assumptions/24.md. -/
def Obligations.WorkingSetsAreRebuilt : Prop :=
  (∀ s : State, s.takesWrites → s.flag F.CFG_BOOT_STAT_SAFE = false →
    (s.isRunning = true → ∀ en, exec (.calSetsWrite en) s =
      .next { s with live := Assoc.insert s.live F.CAL_SETS_EN.key (en % 256) }) ∧
    (s.isRunning = false →
      (∃ t, exec (.calSetsWrite 0) s = .next t ∧ t.reg F.CAL_SETS_EN = 0 ∧
        ∀ k, k < 8 → bitAt (s.reg F.CAL_SETS_EN) k = true → bitAt (t.reg F.CAL_SETS_VALID) k = false) ∧
      (∀ k, k < 8 → s.reg F.CAL_SETS_EN = 0 →
        ∃ t, exec (.calSetsWrite (2 ^ k)) s = .next t ∧
          (s.slotFails (s.reg F.CAL_SETS_VALID) k = none →
            bitAt (t.reg F.CAL_SETS_EN) k = true ∧ bitAt (t.reg F.CAL_SETS_VALID) k = true) ∧
          (s.slotFails (s.reg F.CAL_SETS_VALID) k ≠ none →
            bitAt (t.reg F.CAL_SETS_EN) k = false ∧ bitAt (t.reg F.CAL_SETS_REJECTED) k = true)))) ∧
  (∀ s : State, s.takesWrites →
    (s.flag F.CAL_STAT_BUILDING = false → s.cal.shadow = none →
      ∃ t, exec .rebuild s = .next t ∧ t.reg F.CAL_STAT_BUILDING = 1 ∧ t.cal.building = some s.zonesNow ∧
        Changes [.regs, .cal] [F.CAL_STAT_BUILDING] s t) ∧
    (s.flag F.CAL_STAT_BUILDING = true ∨ s.cal.shadow ≠ none →
      exec .rebuild s = .next { s with cal := { s.cal with again := true, askedAgain := true } })) ∧
  (∀ (s : State) (zones : List Int), s.cal.building = some zones →
    ∃ t, exec .rebuildComplete s = .next t ∧
      (s.isRunning = true → t.cal.building = none ∧ t.cal.shadow = some (s.buildSet zones, s.pt) ∧
        t.cal.work = s.cal.work ∧ t.reg F.CAL_STAT_PENDING = 1 ∧ t.reg F.CAL_STAT_BUILDING = 0) ∧
      (s.isRunning = false → t.cal.work = s.buildSet zones ∧ t.cal.shadow = none ∧ t.reg F.CAL_STAT_PENDING = 0 ∧
        t.cal.epoch = s.cal.epoch + 1))

/-- SC_VISIT_END (R204, R207): the estimate of a converter from its rounded-down means, under the preset of the line
visited, moves its pending OFS and GAIN by the difference shifted right by SHIFT, or is discarded where it is out of
range, and the visit log then stays as it is; the table in force does not change.
SC_FULL, SC_FULL_DONE and CAPT_START (R208, R211): a full measurement begins while Thyme is stopped and is ignored
while it runs; its end sets both measured tables to the estimates; a capture of KIND 1 begins with no line taken, and
one of KIND 2 is ignored while Thyme runs. Where it says more than these rules it rests on the model's readings and
choices in notes/assumptions/9.md, notes/assumptions/10.md, notes/assumptions/12.md and notes/assumptions/23.md. -/
def Obligations.CalibrationMeasures : Prop :=
  (∀ (s : State) (cg b i fs : Nat) (z0 z2 : List Nat), s.cal.visit = some (cg, b, true, true, fs) →
     (convPlace i).1 = cg → (convPlace i).2.1 = b →
     ∃ t, exec (.scVisitEnd [(i, z0, z2)]) s = .next t ∧ t.cal.visit = none ∧ t.cal.active = s.cal.active ∧
       t.cal.work = s.cal.work ∧
       (∀ o g, estimateConv fs (meanDown z0) (meanDown z2) = some (o, g) →
         Assoc.find t.cal.pend i = some ((s.pending_ i).1 + shiftDown (o - (s.pending_ i).1) (s.reg F.CAL_SC_SHIFT),
           (Int.ofNat (s.pending_ i).2 + shiftDown (Int.ofNat g - Int.ofNat (s.pending_ i).2)
             (s.reg F.CAL_SC_SHIFT)).toNat, s.pt)) ∧
       (estimateConv fs (meanDown z0) (meanDown z2) = none → t.cal.pend = s.cal.pend ∧ t.cal.scLog = s.cal.scLog)) ∧
  ((∀ s : State, s.takesWrites →
     (s.isRunning = false → ∃ t, exec .scFull s = .next t ∧ t.reg F.CAL_STAT_FULL_BUSY = 1 ∧
       Changes [.regs] [F.CAL_STAT_FULL_BUSY, F.CAL_SC_FULL] s t) ∧
     (s.isRunning = true → exec .scFull s = .next (s.writeIgnored 0x60300 5))) ∧
   (∀ (s : State) (i m0 m2 : Nat) (o : Int) (g : Nat), s.flag F.CAL_STAT_FULL_BUSY = true → s.cal.capture = none →
     estimateConv (Cfg.fs s.regs) m0 m2 = some (o, g) →
     ∃ t, exec (.scFullDone [(i, m0, m2)]) s = .next t ∧ t.reg F.CAL_STAT_FULL_BUSY = 0 ∧
       Assoc.find t.cal.active i = some (o, g) ∧ Assoc.find t.cal.pend i = some (o, g, s.pt) ∧
       Changes [.regs, .cal] [F.CAL_STAT_FULL_BUSY, F.CAL_SC_FULL] s t) ∧
   (∀ s : State, s.takesWrites →
     (s.reg F.CAL_CAPT_KIND = 1 → ∃ t, exec .captStart s = .next t ∧ t.reg F.CAL_STAT_CAPT_BUSY = 1 ∧
       t.reg F.CAL_CAPT_LINES_V = 0 ∧ t.cal.capture = some ⟨1, s.reg F.CAL_CAPT_LOG2N, s.reg F.CAL_CAPT_GROUPS,
         s.reg F.CAL_CAPT_SLOT, s.chv.lastExec, List.replicate 6 0⟩ ∧
       Changes [.regs, .cal] [F.CAL_STAT_CAPT_BUSY, F.CAL_CAPT_START, F.CAL_CAPT_LINES_V] s t) ∧
     (s.reg F.CAL_CAPT_KIND = 2 → s.isRunning = true →
       exec .captStart s = .next (s.writeIgnored 0x60500 5))))

/-! ### The pipeline and its seams -/

/-- ALIGNED_RECORD (R215, R217, R219, R228, R244): the next line at which a record is formed waits while an enabled
group of a launched line has not handled it; otherwise the line is passed, and with no west overlap and nothing
waiting its record leaves for the classes. A line not launched, with no line before it to be passed, gives a 64-byte
placeholder in every region of interest that is on, belongs to the COLOUR class that is on, and has room. With PLL-H or
PLL-B gated (R418) no output crosses: the line is passed and what was queued of it is gone (notes/assumptions/66.md).
Where it says more than these rules it rests on the model's readings and choices in notes/assumptions/9.md and
notes/assumptions/25.md. -/
def Obligations.RecordsAreAligned : Prop :=
  ∀ (s : State) (i : LineInfo), s.isRunning = true → s.unaligned.find? (fun i => Cfg.recordAt i.cfg i.ln) = some i →
    (i.launched = true → (∃ g ∈ i.cfg.enabledGroups, s.groupReady g i.ln = false) →
      ∃ t, exec .alignedRecord s = .next t ∧ t.pip.lastLn = s.pip.lastLn ∧ t.pip.waiting = s.pip.waiting ∧
        Changes [.cal, .pip] [] s t) ∧
    ((i.launched = true → ∀ g ∈ i.cfg.enabledGroups, s.groupReady g i.ln = true) → s.dma.hub = true →
      ∃ t, exec .alignedRecord s = .next t ∧ t.pip.lastLn = some i.ln ∧ t.mem = s.mem ∧ t.pt = s.pt ∧
        ∀ l ∈ t.cal.out, ∀ o ∈ l, 0 < signedDiff o.ln i.ln) ∧
    ((i.launched = true → ∀ g ∈ i.cfg.enabledGroups, s.groupReady g i.ln = true) → s.dma.hub = false →
      ∃ t, exec .alignedRecord s = .next t ∧ t.pip.lastLn = some i.ln ∧ t.cal.out = List.replicate 6 [] ∧
        t.mem = s.mem ∧ t.pt = s.pt ∧
        (i.cfg.get F.PIP_SEAM_OVL_W = 0 → s.pip.waiting = [] →
          t.pip.waiting = [] ∧ t.pip.lastOut = some i.ln ∧
          (∀ k first c, k < 16 → i.launched = false → s.pip.streams.length = 18 → s.pip.seg = some (i.sn, first, c) →
            (∀ j ∈ s.unaligned, ¬ signedDiff j.ln i.ln < 0) → i.gap = none → i.cfg.get F.PIP_CTL_COLOUR_EN = 1 →
            i.cfg.get F.PIP_CTL_INSP_EN = 0 → i.cfg.streamOn k = true → (s.stream k).off i.sn = false →
            (s.stream k).linkDrop = none → s.dma.lost = false → (s.stream k).dropping = none →
            (s.stream k).used + 64 + 128 ≤ 1024 * i.cfg.get (F.PIP_ROI_STG_STG_KIB k) →
            ∃ r, (t.stream k).recs = (s.stream k).recs ++ [r] ∧ r.bytes.length = 64 ∧ r.bytes.take 2 = [1, 1] ∧
              r.lnFirst = i.ln ∧ r.lnLast = i.ln ∧ r.sn = i.sn ∧ (t.stream k).written = (s.stream k).written + 1)))

/-- SEAM, SEAM_MARK and SEAM_WAIT_EXPIRY (R223, R226, R227, Table CHV-7): a west line of the right length and width
enters the stagger buffer, a marker as not available, and a full buffer drops it with an event; a packet of another
length is dropped, and with PLL-H gated no west line is taken (R418); the width that counts is OVL_W of the line's own
segment (notes/assumptions/61.md), and a line of another is logged once for its segment; after a stop the line that
the last waiting record needed closes its segment (R244, R491); a record whose wait expires leaves without its west
line, counted and flagged, and the segment's SEAM_LATE count is that of the record's own segment (R491). Where it says
more than these rules it rests on the model's readings and choices in notes/assumptions/9.md. -/
def Obligations.SeamLinesFromTheWest : Prop :=
  (∀ (s : State) (w0 w1 : Word64) (data : List Word64), s.portUp 0 = true → s.chv.cwIgnored = false →
    s.pip.waiting = [] →
    let ln := BitVec.ofNat 48 w0.toNat
    let sn := BitVec.ofNat 32 w1.toNat
    let width := w0.toNat / 2 ^ 48 % 512
    let groups := (List.range 6).filter (fun g => bitAt (w1.toNat / 2 ^ 48) g)
    (data.length ≠ ((width + 1) * groups.length + 3) / 4 → exec (.seam (w0 :: w1 :: data)) s = .next (s.dropPacket 0)) ∧
    (data ≠ [] → exec (.seamMark (w0 :: w1 :: data)) s = .next (s.dropPacket 0)) ∧
    (width = s.overlapOf sn → s.isRunning = true → s.gated 1 = true → exec (.seamMark [w0, w1]) s = .next s) ∧
    (width ≠ s.overlapOf sn → s.isRunning = true → s.gated 1 = true → data = [] → sn ∉ s.pip.mismatched →
      ∃ t, exec (.seamMark [w0, w1]) s = .next t ∧
        Logged s t 0x0605 [(2, width), (2, s.overlapOf sn), (4, sn.toNat)] ∧ sn ∈ t.pip.mismatched ∧
        Changes (.pip :: logParts) attnFields s t) ∧
    (width = s.overlapOf sn → s.isRunning = true → s.gated 1 = false → s.westPassed ln = false →
      s.pip.westDropping ≠ some sn →
      (s.seamSlots < 4096 →
        (data.length = ((width + 1) * groups.length + 3) / 4 →
          ∃ t, exec (.seam (w0 :: w1 :: data)) s = .next t ∧
            t.pip.west = s.pip.west ++ [⟨ln, sn, width, true, false, bitAt w1.toNat 38, bitAt w1.toNat 32, bitAt w1.toNat 33,
              bitAt w1.toNat 37, seamPlanes (width + 1) groups (seamSamples data)⟩] ∧
            Changes [.pip, .regs] [F.PIP_SEAM_STAT_DROPPING] s t) ∧
        ∃ t, exec (.seamMark [w0, w1]) s = .next t ∧
          t.pip.west = s.pip.west ++ [⟨ln, sn, width, false, false, false, false, false, false, []⟩] ∧
          Changes [.pip, .regs] [F.PIP_SEAM_STAT_DROPPING] s t) ∧
      (4096 ≤ s.seamSlots →
        ∃ t, exec (.seamMark [w0, w1]) s = .next t ∧
          t.pip.west = s.pip.west ++ [⟨ln, sn, width, false, true, false, false, false, false, []⟩] ∧
          t.reg F.PIP_SEAM_STAT_DROPPING = 1 ∧ t.reg F.PIP_SEAM_STAT_OVF = 1 ∧
          Logged s t 0x0601 [(4, sn.toNat), (6, ln.toNat)]))) ∧
  (∀ (s : State) (a : Aligned) (w0 w1 : Word64), s.portUp 0 = true → s.chv.cwIgnored = false → s.isRunning = false →
    s.gated 1 = false → s.pip.waiting = [a] → s.unaligned = [] → s.seamSlots < 4096 →
    w0.toNat / 2 ^ 48 % 512 = s.overlapOf (BitVec.ofNat 32 w1.toNat) →
    BitVec.ofNat 48 w0.toNat = (Cfg.seamLines a.info.cfg a.info.ln).1 → s.westPassed (BitVec.ofNat 48 w0.toNat) = false →
    s.pip.westDropping ≠ some (BitVec.ofNat 32 w1.toNat) →
    ∃ t, exec (.seamMark [w0, w1]) s = .next t ∧ t.pip.waiting = [] ∧ t.pip.seg = none ∧ t.isRunning = false) ∧
  (∀ s : State,
    (s.pip.waiting = [] → exec .seamWaitExpiry s = .next s) ∧
    (∀ a, s.isRunning = true → s.pip.waiting = [a] → a.mark = false → a.placeholder = false → a.info.cfg.get F.PIP_SEAM_OVL_W ≠ 0 →
      (∀ w ∈ s.pip.west, w.ln ≠ (Cfg.seamLines a.info.cfg a.info.ln).1) →
      ∃ t, exec .seamWaitExpiry s = .next t ∧ t.pip.waiting = [] ∧ t.pip.lastOut = some a.info.ln ∧
        t.reg F.PIP_SEAM_STAT_LATE = 1 ∧
        t.reg F.PIP_SEAM_STAT_LATE_LINES = (s.reg F.PIP_SEAM_STAT_LATE_LINES + 1) % 2 ^ 16 ∧ t.mem = s.mem ∧
        (∀ sn first c, s.pip.seg = some (sn, first, c) →
          t.pip.lateSeg = if a.info.sn = sn then s.pip.lateSeg + 1 else 1)))

/-! ### Sorrel -/

/-- BAND_RECORD and BAND_RESIDENT (R255 to R257, Tables SOR-1 and SOR-2): with a whole valid band in the backlog, a
correct CRC and its rows behind the last accepted band, the band is accepted; a wrong CRC discards it, counted and
logged with offset 60; fewer bytes than a header leave everything alone. A band that the cache holds becomes resident,
alone. Where it says more than these rules it rests on the model's readings and choices in notes/assumptions/26.md. -/
def Obligations.ExpectedImageIsParsed : Prop :=
  (∀ s : State, s.sor.waiting.length < 64 → exec .bandRecord s = .next s) ∧
  (∀ s : State,
    let w := s.sor.waiting
    let h := w.take 64
    let n := 64 + hdrField h 20 4
    let payload := (w.drop 64).take (n - 64)
    let sn := BitVec.ofNat 32 (hdrField h 4 4)
    let y0 := hdrField h 8 2
    64 ≤ w.length → bandFault (Cfg.tiles s.regs) h = none → n ≤ w.length →
      (hdrField h 60 4 = (crc32 (h.take 60 ++ payload)).toNat →
        (∀ l row, s.sor.lastBand = some (l, row) → snLater sn l = true ∨ (sn = l ∧ row < y0)) →
        s.bandClosed sn = false → s.bandLate sn y0 (hdrField h 10 2) = false →
        ∃ t b, exec .bandRecord s = .next t ∧ t.sor.bands = s.sor.bands ++ [b] ∧ b.btype = hdrField h 0 1 ∧ b.sn = sn ∧
          b.y0 = y0 ∧ b.nrows = hdrField h 10 2 ∧ b.payload = payload ∧ b.resident = false ∧
          t.sor.lastBand = some (sn, y0 + b.nrows - 1) ∧ t.sor.parse = dropRuns n s.sor.parse ∧
          Changes [.sor] [] s t) ∧
      (hdrField h 60 4 ≠ (crc32 (h.take 60 ++ payload)).toNat →
        ∃ t, exec .bandRecord s = .next t ∧ t.sor = { s.sor with parse := dropRuns n s.sor.parse } ∧
          t.reg F.SOR_REF_DISCARD_V = (s.reg F.SOR_REF_DISCARD_V + 1) % 2 ^ 32 ∧ t.reg F.SOR_STAT_REF_ERR = 1 ∧
          Logged s t 0x0701 [(4, sn.toNat), (2, y0), (1, 60)] ∧
          Changes (.sor :: logParts) (F.SOR_REF_DISCARD_V :: F.SOR_STAT_REF_ERR :: attnFields) s t)) ∧
  (∀ (s : State) (sn : SegNo) (y0 : Nat),
    ∃ t, exec (.bandResident sn y0) s = .next t ∧ t.sor.bands.length = s.sor.bands.length ∧
      (∀ (k : Nat) (b : Band), s.sor.bands[k]? = some b →
        (b.sn = sn → b.y0 = y0 → s.cacheHolds b = true → t.sor.bands[k]? = some { b with resident := true }) ∧
        (¬ (b.sn = sn ∧ b.y0 = y0) → t.sor.bands[k]? = some b)) ∧
      Changes [.sor] [] s t)

/-- CELL_ROW, FLOOD_TOKEN, ALARM_WIDTH_END and ALARM_CLR (R252, R253, R258, R267, R276, R279): the next cell row is
taken, one without its reference is counted, one of placeholders alone is not compared; the end of a segment closes
every open defect, refills the tokens and clears FLOOD; a token comes back up to 1,024; a pulse alarm ends with its
width, and a latched one with CLR; in the thermal hold no row is taken and ALARM_N holds its state (R432). A row may
let the reference ring go on (R256), whose completed descriptors alone are written, in the ring area. Where it says
more than these rules it rests on the model's readings and choices in notes/assumptions/9.md, notes/assumptions/30.md
and notes/assumptions/45.md. -/
def Obligations.SorrelRowsAndAlarm : Prop :=
  (∀ (s : State) (r : RowAcc) (rest : List SorIn), s.flag F.HKP_THERM_HOLD = false → s.sor.rows = .row r :: rest →
    (∀ x ∈ rest.head?, ∃ q, x = SorIn.row q) →
    ∃ t, exec .cellRow s = .next t ∧ t.sor.rows = rest ∧ t.sor.seg = some (r.sn, r.y + 1) ∧ t.pt = s.pt ∧
      ((s.dmaRuns = false ∨ ∀ q, q < 16 → ((s.ring q).isRef && s.ringUsed q) = false) → t.mem = s.mem) ∧
      (s.memOk → (∀ q, q < 16 → ((s.ring q).isRef && s.ringUsed q) = true → (s.ring q).base + 32 * (s.ring q).size ≤ dramBase ∧
          ∀ d ∈ (s.ring q).held, d.slot + 32 ≤ dramBase) →
        ∀ a, dramBase ≤ a → readByte t.mem a = readByte s.mem a) ∧
      t.reg F.SOR_NOREF_ROWS_V = (if r.noRef then (s.reg F.SOR_NOREF_ROWS_V + 1) % 2 ^ 32 else s.reg F.SOR_NOREF_ROWS_V) ∧
      (r.used = 0 → t.sor.compared = s.sor.compared ∧ t.sor.open_ = s.sor.open_)) ∧
  (∀ (s : State) (sn : SegNo) (last : LineNo) (c : Cfg) (lost : Bool) (next : Option Cfg),
    s.flag F.HKP_THERM_HOLD = false → s.sor.rows = [.close sn last c lost next] →
    ∃ t, exec .cellRow s = .next t ∧ t.sor.rows = [] ∧ t.sor.open_ = [] ∧ t.sor.seg = none ∧ t.sor.tokens = 1024 ∧
      t.reg F.SOR_STAT_FLOOD = 0 ∧ (∀ n, s.sor.seg = some (sn, n) → t.sor.closed = some (sn, n))) ∧
  (∀ s : State, s.flag F.HKP_THERM_HOLD = true → s.dmaRuns = false → exec .cellRow s = .next s) ∧
  (∀ s : State, exec .floodToken s = .next { s with sor := { s.sor with tokens := min 1024 (s.sor.tokens + 1) } }) ∧
  (∀ s : State,
    (s.reg F.SOR_ALARM_MODE = 0 → s.flag F.HKP_THERM_HOLD = false →
      ∃ t, exec .alarmWidthEnd s = .next t ∧ t.sor = { s.sor with alarmLow := false } ∧
        t.reg F.SOR_ALARM_ACTIVE = 0 ∧ Changes [.sor, .regs] [F.SOR_ALARM_ACTIVE] s t) ∧
    (s.reg F.SOR_ALARM_MODE ≠ 0 ∨ s.flag F.HKP_THERM_HOLD = true → exec .alarmWidthEnd s = .next s)) ∧
  (∀ s : State, s.takesWrites →
    (s.reg F.SOR_ALARM_MODE = 1 → ∃ t, exec .alarmClr s = .next t ∧ t.sor = { s.sor with alarmLow := false } ∧
      t.reg F.SOR_ALARM_ACTIVE = 0 ∧ Changes [.sor, .regs] [F.SOR_ALARM_ACTIVE] s t) ∧
    (s.reg F.SOR_ALARM_MODE ≠ 1 → exec .alarmClr s = .next s))

/-- RT_ARM, RT_DISARM and RT_VALIDATION_DONE (R10, R263 to R265): ARM takes COUNT, GEN, SRC and SWAP_SN, copies a
library slot into the inactive bank where SRC names one, and starts a validation, or is ignored while one is armed;
DISARM ends it; a valid bank is READY, and comes into force at once while Thyme is stopped; an invalid one is reported
with its reason and entry, and the bank in force stays. Where it says more than these rules it rests on the model's
readings and choices in notes/assumptions/12.md, notes/assumptions/28.md and notes/assumptions/29.md. -/
def Obligations.RegionTableArms : Prop :=
  (∀ s : State, s.takesWrites →
    (s.sor.arm = .idle → s.memOk →
      ∃ t, exec .rtArm s = .next t ∧ t.sor = { s.sor with
          arm := .validating (s.reg F.SOR_RT_COUNT_V) (s.reg F.SOR_RT_CTL_GEN) (s.reg F.SOR_RT_CTL_SRC)
            (BitVec.ofNat 32 (s.reg F.SOR_RT_SWAP_SN_V)) } ∧
        t.reg F.SOR_RT_STAT_VALIDATING = 1 ∧ Changes [.sor, .regs, .mem] [F.SOR_RT_STAT_VALIDATING] s t ∧
        (¬ (1 ≤ s.reg F.SOR_RT_CTL_SRC ∧ s.reg F.SOR_RT_CTL_SRC ≤ 16) → t.mem = s.mem) ∧
        (1 ≤ s.reg F.SOR_RT_CTL_SRC → s.reg F.SOR_RT_CTL_SRC ≤ 16 →
          (∀ i, i < 0x100000 → readByte t.mem (bankBase s.idleBank + i)
            = readByte s.mem (dramBase + 0x3000000 + 0x100000 * (s.reg F.SOR_RT_CTL_SRC - 1) + i)) ∧
          (∀ a, (a < bankBase s.idleBank ∨ bankBase s.idleBank + 0x100000 ≤ a) → readByte t.mem a = readByte s.mem a))) ∧
    (s.sor.arm ≠ .idle → exec .rtArm s = .next (s.writeIgnored 0xA0030 5)) ∧
    (∃ t, exec .rtDisarm s = .next t ∧ t.sor = { s.sor with arm := .idle } ∧ t.reg F.SOR_RT_STAT_VALIDATING = 0 ∧
      t.reg F.SOR_RT_STAT_READY = 0 ∧ Changes [.sor, .regs] [F.SOR_RT_STAT_VALIDATING, F.SOR_RT_STAT_READY] s t)) ∧
  (∀ (s : State) (count gen src : Nat) (swap : SegNo), s.sor.arm = .validating count gen src swap → src ≤ 16 →
    count ≤ 65536 →
    (s.firstBad (bankBase s.idleBank) count 0 none [] = none →
      (s.isRunning = true → ∃ t, exec .rtValidationDone s = .next t ∧
        t.sor = { s.sor with arm := .ready count gen swap s.pt } ∧ t.reg F.SOR_RT_STAT_READY = 1 ∧
        t.reg F.SOR_RT_STAT_VALIDATING = 0 ∧
        Changes [.sor, .regs] [F.SOR_RT_STAT_VALIDATING, F.SOR_RT_STAT_READY] s t) ∧
      (s.isRunning = false → ∃ t, exec .rtValidationDone s = .next t ∧ t.sor.arm = .idle ∧ t.sor.count = count ∧
        t.reg F.SOR_RT_STAT_IN_FORCE = s.idleBank ∧ t.reg F.SOR_RT_STAT_GEN_IN_FORCE = gen % 256 ∧ t.mem = s.mem)) ∧
    (∀ reason entry, s.firstBad (bankBase s.idleBank) count 0 none [] = some (reason, entry) →
      ∃ t, exec .rtValidationDone s = .next t ∧ t.sor = { s.sor with arm := .idle } ∧ t.reg F.SOR_RT_STAT_INVALID = 1 ∧
        t.reg F.SOR_RT_STAT_REASON = reason ∧ t.reg F.SOR_RT_STAT_BAD_ENTRY = entry ∧
        t.reg F.SOR_RT_STAT_IN_FORCE = s.reg F.SOR_RT_STAT_IN_FORCE ∧
        Logged s t 0x0707 [(1, reason), (2, entry)]))

/-! ### Chive -/

/-- SIGNAL_DETECT, TRAINING_COMPLETE, TRAINING_TIMEOUT, RETRAIN_TIMER and the RETRAIN bits (R287, R289, R297, R317): a
signal starts the training, or brings an ABSENT port back to DETECT; its end makes the port UP with its round trip,
half of which the pad puts at 270 ticks and below 271, and a trip of more than 540 ticks fails the training for REACH;
a failed training leaves the port FAILED with its reason, counted and logged, to train again with its timer or at once
with a write of its RETRAIN bit, which fails a port that is UP with cause 4; with PLL-T or PLL-C gated no training
goes on, and the timer of a failed port runs on to its next expiry. Where it says more than these rules it rests on
the model's readings and choices in notes/assumptions/9.md and notes/assumptions/32.md. -/
def Obligations.PortsTrain : Prop :=
  (∀ (s : State) (p : Nat), p < 2 → s.portTrains p = true → (s.portState p = 1 ∨ s.portState p = 5) →
    (s.mayTrain = true →
      exec (.signalDetect p) s = .next (s.setReg (F.CHV_PORT_STAT_STATE p) (if s.portState p = 1 then 2 else 1))) ∧
    (s.mayTrain = false → exec (.signalDetect p) s = .next s)) ∧
  (∀ (s : State) (p rtt : Nat) (swap : Bool) (pol : Nat), p < 2 →
    (s.mayTrain = false → exec (.trainingComplete p rtt swap pol) s = .next s) ∧
    (s.mayTrain = true → s.portState p = 2 → 540 * 64 < rtt →
      exec (.trainingComplete p rtt swap pol) s = exec (.trainingTimeout p 3) s)) ∧
  (∀ (s : State) (rtt : Nat) (swap : Bool) (pol : Nat), rtt ≤ 540 * 64 → pol < 4 → s.mayTrain = true →
    (s.portState 0 = 2 → ∃ t trip, exec (.trainingComplete 0 rtt swap pol) s = .next t ∧ t.portState 0 = 3 ∧
      270 * 64 ≤ trip / 2 ∧ trip / 2 < 271 * 64 ∧
      t.reg (F.CHV_PORT_RTT_V 0) = trip ∧ t.reg (F.CHV_PORT_DELAY_V 0) = trip / 2 ∧ t.chv.syncGot = false ∧
      t.chv.delayGot = false ∧ t.chv.quality = [] ∧
      Logged s t 0x0801 [(1, 0), (1, boolBit swap), (1, pol), (4, trip / 2)] ∧
      Changes ([.chv, .freeCtr] ++ logParts) ([F.CHV_PORT_STAT_STATE 0, F.CHV_PORT_STAT_LANE_SWAP 0,
        F.CHV_PORT_STAT_POL_INV 0, F.CHV_PORT_DELAY_V 0, F.CHV_PORT_RTT_V 0] ++ attnFields) s t) ∧
    (s.portState 1 = 2 → ∃ t trip, exec (.trainingComplete 1 rtt swap pol) s = .next t ∧ t.portState 1 = 3 ∧
      270 * 64 ≤ trip / 2 ∧ trip / 2 < 271 * 64 ∧ t.reg (F.CHV_PORT_RTT_V 1) = trip ∧ t.reg F.CHV_POS_END = 0 ∧
      (s.posNow ≠ 31 → ∃ k : Packet, k.dtype = 0x10 ∧ k.words = [BitVec.ofNat 64 s.posNow] ∧
        t.outbox = s.outbox ++ [.packet 1 0 k, .packet 1 1 k]))) ∧
  (∀ (s : State) (p reason : Nat), p < 2 → reason < 4 → s.portState p = 2 → s.chv.ports.length = 2 →
    ∃ t, exec (.trainingTimeout p reason) s = .next t ∧ (t.port p).trainFails = (s.port p).trainFails + 1 ∧
      t.reg (F.CHV_PORT_STAT_TRAIN_REASON p) = reason ∧ t.reg (F.CHV_PORT_STAT_FAILED p) = 1 ∧
      t.reg (F.CHV_PORT_FAILS_V p) = (s.reg (F.CHV_PORT_FAILS_V p) + 1) % 2 ^ 32 ∧
      (¬ (p = 1 ∧ (s.port 1).trainFails = 2) → t.portState p = 4 ∧ Logged s t 0x0803 [(1, p), (1, reason)] ∧
        Changes (.chv :: logParts) ([F.CHV_PORT_STAT_STATE p, F.CHV_PORT_STAT_TRAIN_REASON p,
          F.CHV_PORT_STAT_FAILED p, F.CHV_PORT_FAILS_V p] ++ attnFields) s t) ∧
      (p = 1 → (s.port 1).trainFails = 2 → s.posNow ≠ 31 → t.reg F.CHV_POS_END = 1)) ∧
  (∀ (s : State) (p : Nat), p < 2 → s.portState p = 4 → s.chv.ports.length = 2 →
    ((s.port p).retryDue = true → s.flag F.CHV_CTL_AUTO_RETRAIN = true → s.mayTrain = true →
      ∃ t, exec (.retrainTimer p) s = .next t ∧ (t.port p).retryDue = false ∧ t.portState p = 1 ∧
        Changes [.chv, .regs] [F.CHV_PORT_STAT_STATE p] s t) ∧
    (s.mayTrain = false → exec (.retrainTimer p) s = .next s) ∧
    (s.flag F.CHV_CTL_AUTO_RETRAIN = false → exec (.retrainTimer p) s = .next s)) ∧
  (∀ s : State, s.takesWrites → s.mayTrain = true →
    let failed (p : Nat) (t : State) : Prop := t.portState p = 1 ∧ t.reg (F.CHV_PORT_STAT_LAST_FAIL p) = 4 ∧
      t.reg (F.CHV_PORT_STAT_FAILED p) = 1 ∧
      t.reg (F.CHV_PORT_FAILS_V p) = (s.reg (F.CHV_PORT_FAILS_V p) + 1) % 2 ^ 32
    (s.portTrains 0 = true →
      (s.portState 0 = 4 → ∃ t, exec .retrainCw s = .next t ∧ t.portState 0 = 1 ∧
        Changes [.chv, .regs] [F.CHV_PORT_STAT_STATE 0] s t) ∧
      (s.portState 0 = 3 → ∃ t, exec .retrainCw s = .next t ∧ failed 0 t)) ∧
    (s.portTrains 1 = true →
      (s.portState 1 = 4 → ∃ t, exec .retrainCe s = .next t ∧ t.portState 1 = 1 ∧
        Changes [.chv, .regs] [F.CHV_PORT_STAT_STATE 1] s t) ∧
      (s.portState 1 = 3 → ∃ t, exec .retrainCe s = .next t ∧ failed 1 t)))

/-- LOSS_OF_SIGNAL, LOSS_OF_BLOCK_LOCK, ECHO_DEADLINE, SPRIG_TIMEOUT, CE_NO_SIGNAL_TIMEOUT, POSITION_TIMEOUT and
PACKET_DROPPED (R289, R292, R296, R300, R317): a port that is UP fails with its cause and is counted, one that is not
UP takes no notice; a missing sprig unsynchronises a module that is not the head; a CE without a signal ends the
chain; a boot that waits for its position goes on, unless a thermal hold has stopped it (R433); a dropped packet is
counted. Where it says more than these rules it rests on the model's readings and choices in notes/assumptions/9.md
and notes/assumptions/34.md. -/
def Obligations.PortsFail : Prop :=
  (∀ (s : State) (p : Nat), p < 2 →
    let failed (cause : Nat) (t : State) : Prop := t.portState p = 4 ∧ t.reg (F.CHV_PORT_STAT_LAST_FAIL p) = cause ∧
      t.reg (F.CHV_PORT_STAT_FAILED p) = 1 ∧
      t.reg (F.CHV_PORT_FAILS_V p) = (s.reg (F.CHV_PORT_FAILS_V p) + 1) % 2 ^ 32 ∧ t.pt = s.pt ∧ t.mem = s.mem
    (s.portUp p = true →
      (∃ t, exec (.lossOfSignal p) s = .next t ∧ failed 1 t) ∧ ∃ t, exec (.lossOfBlockLock p) s = .next t ∧ failed 2 t) ∧
    (s.portUp p = false → exec (.lossOfSignal p) s = .next s ∧ exec (.lossOfBlockLock p) s = .next s)) ∧
  (∀ (s : State) (id : Nat),
    (s.portUp 1 = true → (∃ e ∈ (s.port 1).unechoed, e.1 = id) →
      ∃ t, exec (.echoDeadline id) s = .next t ∧ t.portState 1 = 4 ∧ t.reg (F.CHV_PORT_STAT_LAST_FAIL 1) = 3 ∧
        t.reg (F.CHV_PORT_ECHO_MISS_V 1) = (s.reg (F.CHV_PORT_ECHO_MISS_V 1) + 1) % 2 ^ 32) ∧
    ((∀ e ∈ (s.port 1).unechoed, e.1 ≠ id) → exec (.echoDeadline id) s = .next s)) ∧
  (∀ s : State,
    (s.isHead = false → s.isSynced = true → ∃ t, exec .sprigTimeout s = .next t ∧ t.isSynced = false ∧
      t.reg F.THY_CTL_SYNCED = 0 ∧ t.reg F.CHV_SYNC_LOST_CAUSE = 5 ∧ Logged s t 0x0804 [(1, 5)]) ∧
    (s.isHead = true → exec .sprigTimeout s = .next s) ∧
    (s.isHead = false → s.portUp 0 = true → s.portState 1 = 1 → s.posNow ≠ 31 →
      ∃ t, exec .ceNoSignalTimeout s = .next t ∧ t.reg F.CHV_POS_END = 1 ∧ t.portState 1 = 5 ∧
        t.chv = { s.chv with ownEnd := some 0 } ∧ Changes [.regs, .chv, .outbox] [F.CHV_POS_END, F.CHV_PORT_STAT_STATE 1] s t) ∧
    (∃ t, exec .positionTimeout s = .next t ∧ t.boot = { s.boot with posWaited := true } ∧
      t.reg F.CFG_BOOT_STAT_PHASE =
        (if s.reg F.CFG_BOOT_STAT_PHASE = 2 ∧ s.boot.halted = false ∧ s.boot.image.isSome then 3
          else s.reg F.CFG_BOOT_STAT_PHASE) ∧
      Changes [.boot, .regs] [F.CFG_BOOT_STAT_PHASE] s t) ∧
    (∀ p, p < 2 → ∃ t, exec (.packetDropped p) s = .next t ∧
      t.reg (F.CHV_PORT_CRC_ERRS_V p) = (s.reg (F.CHV_PORT_CRC_ERRS_V p) + 1) % 2 ^ 32 ∧
      Changes [.chv, .regs] [F.CHV_PORT_CRC_ERRS_V p] s t))

/-- SPRIG_SEND, SPRIG, ECHO, TCLK_PHASE_STEP, SYNC and DELAY (R286, R293 to R299, R414, R415): a sprig leaves east in
the first slot at or after PT, of which one comes every 396/64 ticks, with its time in 1/64 tick and its HOLD bit, the
first one of a port with SYNC; blocks of an unknown type are counted; a correct one received is echoed with its ID
within 96 ticks, and once SYNC and DELAY have come its offset is split into whole ticks and the rest; an echo gives a
one-way delay, and 16 of them the DELAY packet that goes east with their mean; a queued phase step moves PHASE by one;
SYNC and DELAY are kept, SYNC with the press time of its arrival. That a sprig without a correct CRC on either lane is
not counted is the reading of notes/assumptions/32.md. Where it says more than these rules it rests on the model's
readings and choices in notes/assumptions/4.md, notes/assumptions/9.md and notes/assumptions/33.md. -/
def Obligations.SprigsAndPhase : Prop :=
  (∀ s : State,
    (s.portUp 1 = true → s.tclkRuns = true → s.chv.ports.length = 2 →
      ∃ t tx, exec .sprigSend s = .next t ∧ s.pt.toNat * 64 ≤ tx ∧ tx < s.pt.toNat * 64 + 396 ∧
        (let x := s.port 1
         let sprig : Emission := .sprig x.sprigId (tx % 2 ^ 42) (!s.isSynced)
         let sync : Packet := ⟨4, 0, s.posNow, (s.posNow + 1) % 32,
           [BitVec.ofNat 64 (x.sprigId + 2 ^ 8 * (tx % 64)), BitVec.ofNat 64 (tx / 64)]⟩
         t.outbox = s.outbox ++ (if x.syncDue then [sprig, .packet 1 0 sync, .packet 1 1 sync] else [sprig]) ∧
         (t.port 1).sprigId = (x.sprigId + 1) % 16 ∧ (t.port 1).syncDue = false ∧
         (t.port 1).unechoed = x.unechoed ++ [(x.sprigId, tx)]) ∧
        Changes [.chv, .outbox, .freeCtr] [] s t) ∧
    ((s.portUp 1 && s.tclkRuns) = false → exec .sprigSend s = .next s)) ∧
  (∀ (s : State) (l0 l1 : Word64) (rx : Nat), s.hearsWest = true → s.isHead = false →
    (pairContent 0x2D l0 l1 = none → ∃ t, exec (.sprig l0 l1 rx) s = .next t ∧
      (let known (w : Word64) : Prop := w.toNat % 256 ∈ [0x1E, 0x2D, 0x33, 0x4B, 0x55, 0x66]
       (known l0 → known l1 → t = s) ∧
       (¬ (known l0 ↔ known l1) →
         t.reg (F.CHV_PORT_CRC_ERRS_V 0) = (s.reg (F.CHV_PORT_CRC_ERRS_V 0) + 1) % 2 ^ 32)) ∧
      Changes [.regs] [F.CHV_PORT_CRC_ERRS_V 0] s t) ∧
    (∀ c, pairContent 0x2D l0 l1 = some c →
      ∃ t turn, exec (.sprig l0 l1 rx) s = .next t ∧ turn ≤ 64 * 96 ∧
        Emission.echo (bitsAt c 42 4) turn s.posNow ∈ t.outbox ∧ t.reg F.CHV_SYNC_HOLD_RX = boolBit (bitAt c 46) ∧
        (s.chv.syncGot = true → s.chv.delayGot = true →
          let e := s.rebuildTx (c % 2 ^ 42) rx + s.chv.d - Int.ofNat rx
          let delta := (e + 32).fdiv 64
          t.reg F.CHV_SYNC_PHI = codeOf 8 (e - 64 * delta) ∧
            t.reg F.CHV_SYNC_DELTA = codeOf 16 (clampInt (-32767) 32767 delta)) ∧ t.pt = s.pt)) ∧
  (∀ (s : State) (l0 l1 : Word64) (rx c tx : Nat), s.portUp 1 = true → s.chv.ports.length = 2 →
    pairContent 0x33 l0 l1 = some c → (s.port 1).unechoed.find? (fun e => e.1 == bitsAt c 0 4) = some (bitsAt c 0 4, tx) →
    let rtt := Int.ofNat rx - Int.ofNat tx - Int.ofNat (bitsAt c 4 17)
    let d := rtt.fdiv 2 + signedOf 8 (s.reg (F.CHV_PORT_ASYM_ASYM 1))
    ∃ t, exec (.echo l0 l1 rx) s = .next t ∧
      (t.port 1).unechoed = (s.port 1).unechoed.filter (fun e => e.1 != bitsAt c 0 4) ∧
      ((s.port 1).ds.length < 15 → (t.port 1).ds = (s.port 1).ds ++ [d] ∧
        Changes [.chv, .regs] [F.CHV_PORT_CRC_ERRS_V 1] s t) ∧
      (15 ≤ (s.port 1).ds.length → (t.port 1).ds = [] ∧
        t.reg (F.CHV_PORT_DELAY_V 1) = codeOf 32 (meanInt ((s.port 1).ds ++ [d])) ∧
        (let delay : Packet := ⟨5, 0, s.posNow, (s.posNow + 1) % 32,
           [BitVec.ofNat 64 (codeOf 32 (meanInt ((s.port 1).ds ++ [d])) + 2 ^ 32 * bitsAt c 0 4)]⟩
         t.outbox = s.outbox ++ [.packet 1 0 delay, .packet 1 1 delay]) ∧
        Changes [.chv, .regs, .outbox] [F.CHV_PORT_DELAY_V 1, F.CHV_PORT_RTT_V 1, F.CHV_PORT_CRC_ERRS_V 1] s t)) ∧
  (∀ s : State, s.tclkRuns = true → s.isHead = false →
    (0 < s.clk.steps → ∃ t, exec .tclkPhaseStep s = .next t ∧ t.clk = { s.clk with steps := s.clk.steps - 1 } ∧
      t.reg F.CLK_TPHASE_PHASE = (s.reg F.CLK_TPHASE_PHASE + 1) % 64 ∧
      Changes [.clk, .regs] [F.CLK_TPHASE_PHASE, F.CLK_TSTEPS_UP_V] s t) ∧
    (s.clk.steps < 0 → ∃ t, exec .tclkPhaseStep s = .next t ∧ t.clk = { s.clk with steps := s.clk.steps + 1 } ∧
      t.reg F.CLK_TPHASE_PHASE = (s.reg F.CLK_TPHASE_PHASE + 63) % 64 ∧
      Changes [.clk, .regs] [F.CLK_TPHASE_PHASE, F.CLK_TSTEPS_DN_V] s t) ∧
    (s.clk.steps = 0 → exec .tclkPhaseStep s = .next s)) ∧
  (∀ (s : State) (w0 w1 : Word64), s.hearsWest = true →
    exec (.sync w0 w1) s =
      .next { s with chv := { s.chv with
        syncGot := true, syncPt := Int.ofNat (w1.toNat * 64 + bitsAt w0.toNat 8 6), syncAt := Int.ofNat (64 * s.pt.toNat) } } ∧
    exec (.delay w0) s = .next { s with chv := { s.chv with delayGot := true, d := signedOf 32 w0.toNat } })

/-- ENUM, CHAIN_END, CHAIN_INFO, CONFLICT, DIGEST and SYNC_STATE (R288 to R291, R305, R307, R316): a module takes the
position behind the sender's, or keeps its own and reports a conflict; a head that receives ENUM has met a second
head; CHAIN_END gives the head its N, which CHAIN_INFO carries east; CONFLICT ends the chain for reason 3, which the
module keeps; digests and synchronisation states reach the
head, and any other module relays them west. Where it says more than these rules it rests on the model's readings and
choices in notes/assumptions/9.md and notes/assumptions/34.md. -/
def Obligations.ChainPositions : Prop :=
  (∀ (s : State) (w : Word64), s.chv.cwIgnored = false →
    (s.isHead = true → ∃ t, exec (.enum w) s = .next t ∧ t.chv = { s.chv with cwIgnored := true } ∧
      t.reg F.CHV_POS_HEAD_CONFLICT = 1 ∧ Logged s t 0x0809 [] ∧
      Changes ([.chv, .outbox] ++ logParts) (F.CHV_POS_HEAD_CONFLICT :: attnFields) s t) ∧
    (s.isHead = false → s.portUp 0 = true →
      let pos := (bitsAt w.toNat 0 5 + 1) % 32
      (s.posNow = 31 ∨ s.posNow = pos → pos ≠ 31 → ∃ t, exec (.enum w) s = .next t ∧ t.posNow = pos ∧ t.pt = s.pt) ∧
      (s.posNow ≠ 31 → s.posNow ≠ pos → ∃ t, exec (.enum w) s = .next t ∧ t.posNow = s.posNow ∧
        t.chv.posBad = true ∧ t.reg F.CHV_POS_POS_CONFLICT = 1 ∧ t.isSynced = false ∧ Logged s t 0x080B []))) ∧
  (∀ (s : State) (w : Word64), s.chv.cwIgnored = true → exec (.enum w) s = .next s) ∧
  (∀ (s : State) (w0 w1 : Word64), s.portUp 1 = true →
    (s.isHead = true →
      (bitsAt w0.toNat 0 5 < 24 → ∃ t, exec (.chainEnd w0) s = .next t ∧ t.reg F.CHV_POS_N = bitsAt w0.toNat 0 5 + 1 ∧
        t.chv.endReason = bitsAt w0.toNat 5 3) ∧
      exec (.digest w0 w1) s = .next { s with chv := { s.chv with
        digests := Assoc.insert s.chv.digests (bitsAt w0.toNat 0 32 * 32 + bitsAt w0.toNat 32 5) w1.toNat } } ∧
      (bitsAt w0.toNat 0 5 < s.reg F.CHV_POS_N → exec (.syncState w0) s =
        .next (s.setReg F.CHV_SYNCMAP_V (withBit (s.reg F.CHV_SYNCMAP_V) (bitsAt w0.toNat 0 5) (bitAt w0.toNat 8))))) ∧
    (s.isHead = false →
      exec (.chainEnd w0) s = .next (s.relayWest 0x11 (bitsAt w0.toNat 0 5) [w0]) ∧
      exec (.digest w0 w1) s = .next (s.relayWest 0x14 (bitsAt w0.toNat 32 5) [w0, w1]) ∧
      exec (.syncState w0) s = .next (s.relayWest 0x15 (bitsAt w0.toNat 0 5) [w0])) ∧
    (∃ t, exec .conflict s = .next t ∧ t.reg F.CHV_POS_END = 1 ∧ t.chv.ownEnd = some 3)) ∧
  (∀ (s : State) (w : Word64), s.hearsWest = true →
    ∃ t, exec (.chainInfo w) s = .next t ∧ t.reg F.CHV_POS_N = bitsAt w.toNat 0 5 ∧
      t.outbox = (s.sendEast 0x12 1 [w]).outbox ∧ Changes [.regs, .outbox] [F.CHV_POS_N] s t)

/-! ### Commit and lock -/

/-- GO, COMMIT_PREPARE, CFG_CHECK_DONE, DISCARD and CFG_LOCK (R358, R360 to R362, R365, R366, R380): GO proposes the
commit of CFG_COMMIT, freezes the shadow and sends PREPARE, and reads 1 while that commit is in progress (R5), or is
refused with its reason and leaves the commit in progress alone; a module that has not the say logs it; PREPARE does
the same on every other module and goes on east; the check gives its digest and its result; DISCARD empties a shadow
that is not frozen; the lock is set once, from the host; on a module alone no packet is sent (R365), and a check that
ends with none in progress changes nothing (notes/assumptions/9.md). Where it says more than these rules it rests on
the model's readings and choices in notes/assumptions/12.md and notes/assumptions/35.md. -/
def Obligations.CommitsAreProposed : Prop :=
  (∀ s : State, s.takesWrites →
    let id := s.reg F.CFG_COMMIT_ID
    let target := BitVec.ofNat 32 (s.reg F.CFG_COMMIT_SN_V)
    let now := s.flag F.CFG_COMMIT_NOW
    ((s.isHead = true ∨ s.reg F.CHV_POS_N ≤ 1) →
      (s.goRefused target now = none → s.flag F.CFG_BOOT_STAT_SAFE = false →
        ∃ t, exec .go s = .next t ∧ t.readField 0 F.CFG_COMMIT_GO = 1 ∧ t.commit = ⟨true, true, id, target, now, none, [], true⟩ ∧ t.reg F.CFG_STAT_STATE = 1 ∧
          t.reg F.CFG_STAT_LAST_ID = id % 2 ^ 16 ∧
          t.outbox = (s.sendCommit (commitWord id target 0 now)).outbox ∧
          (s.chainLen ≤ 1 → t.outbox = s.outbox) ∧
          Changes [.commit, .regs, .outbox] [F.CFG_STAT_STATE, F.CFG_STAT_LAST_ID] s t) ∧
      (∀ r, s.goRefused target now = some r →
        ∃ t, exec .go s = .next t ∧ t.reg F.CFG_STAT_REASON = r ∧ t.reg F.CFG_STAT_REJECTED = 1 ∧
          Logged s t 0x0A02 [(1, r), (4, noField), (2, id), (1, s.posNow)] ∧
          Changes logParts ([F.CFG_STAT_REASON, F.CFG_REJ_OFS_V, F.CFG_STAT_REJECTED] ++ attnFields) s t)) ∧
    (s.isHead = false → 1 < s.reg F.CHV_POS_N → exec .go s = .next (s.writeIgnored 0xE0000 4)) ∧
    (s.commit.frozen = false → exec .discard s = .next { s with shadow := [] }) ∧
    (s.commit.frozen = true → exec .discard s = .next (s.writeIgnored 0xE0000 3)) ∧
    (s.flag F.CFG_LOCK_LOCKED = false →
      ∃ t, exec .cfgLock s = .next t ∧ t.reg F.CFG_LOCK_LOCKED = 1 ∧ t.reg F.CFG_LOCK_SOURCE = 2 ∧
        Logged s t 0x0A0A [(1, 2)] ∧ Changes logParts ([F.CFG_LOCK_LOCKED, F.CFG_LOCK_SOURCE] ++ attnFields) s t) ∧
    (s.flag F.CFG_LOCK_LOCKED = true → exec .cfgLock s = .next s)) ∧
  (∀ (s : State) (w : Word64), s.hearsWest = true → bitsAt w.toNat 48 2 = 0 → s.flag F.CFG_BOOT_STAT_SAFE = false →
    ∃ t, exec (.commitPrepare w) s = .next t ∧
      t.commit = ⟨true, true, bitsAt w.toNat 32 16, BitVec.ofNat 32 w.toNat, bitAt w.toNat 50, none, [], false⟩ ∧
      t.reg F.CFG_STAT_STATE = 1 ∧ t.reg F.CFG_STAT_LAST_ID = bitsAt w.toNat 32 16 ∧
      t.outbox = (s.sendEast 3 0 [w]).outbox ∧
      Changes [.commit, .regs, .outbox] [F.CFG_STAT_STATE, F.CFG_STAT_LAST_ID] s t) ∧
  (∀ s : State,
    ((s.commit.busy && s.reg F.CFG_STAT_STATE == 1) = false → exec .cfgCheckDone s = .next s) ∧
    (s.commit.busy = true → s.reg F.CFG_STAT_STATE = 1 → s.isHead = false → 1 < s.reg F.CHV_POS_N →
      let u := s.setDigest F.CFG_DIGEST_PEND_V (digestOf s.target)
      ∃ t, exec .cfgCheckDone s = .next t ∧ t.shadow = s.shadow ∧
        match u.checkConfig (some u.regs) s.target with
        | none => t.commit = { s.commit with own := some 0 } ∧ t.reg F.CFG_STAT_STATE = 2 ∧
            ∀ k, k < 8 → t.reg (F.CFG_DIGEST_PEND_V k) = u.reg (F.CFG_DIGEST_PEND_V k)
        | some (r, off) => t.commit = { s.commit with own := some r } ∧ t.reg F.CFG_STAT_STATE = 0 ∧
            t.reg F.CFG_STAT_REASON = r % 2 ^ 8 ∧ t.reg F.CFG_STAT_REJECTED = 1 ∧
            Logged s t 0x0A02 [(1, r), (4, off), (2, s.commit.id), (1, s.posNow)]))

/-- COMMIT_RESULT, COMMIT_CONFIRM and COMMIT_ABORT (R358, R361 to R365): the head of a chain of any length confirms
once every module has accepted, which with NOW puts the commit in force, and aborts on the first refusal (PEER), when
it issues the first action of TARGET_SN with a result outstanding (TIMEOUT), and when N changes (CHAIN); `CFG_REJ_POS`
names the positions that refused or stayed silent; CONFIRM without NOW waits for its boundary, and with NOW puts the
whole shadow in force at once; ABORT thaws the shadow and keeps it; a packet of another commit only goes on east.
Where it says more than these rules it rests on the model's readings and choices in notes/assumptions/9.md and
notes/assumptions/35.md. -/
def Obligations.CommitsAreResolved : Prop :=
  (∀ (s : State) (w : Word64), s.portUp 1 = true →
    (s.isHead = false → exec (.commitResult w) s = .next (s.relayWest 0x16 (bitsAt w.toNat 0 5) [w])) ∧
    (s.isHead = true → s.commit.busy = true → s.reg F.CFG_STAT_STATE ≠ 3 → s.commit.id = bitsAt w.toNat 16 16 →
      bitsAt w.toNat 0 5 < s.chainLen → s.chainLen ≤ 24 →
      let pos := bitsAt w.toNat 0 5
      (bitsAt w.toNat 32 8 = 0 →
        (∀ p, p < s.chainLen → p ≠ pos → Assoc.find s.commit.results p = some 0) →
        (s.commit.now = false →
          ∃ t, exec (.commitResult w) s = .next t ∧ t.commit.busy = true ∧ t.reg F.CFG_STAT_STATE = 3 ∧
            t.outbox = (s.sendCommit (commitWord s.commit.id s.commit.target 1 false)).outbox ∧
            Changes [.commit, .regs, .outbox] [F.CFG_STAT_STATE] s t) ∧
        (s.commit.now = true → Assoc.rising s.shadow = true → s.cal.repairDue = false →
          ∃ t, exec (.commitResult w) s = .next t ∧ t.shadow = [] ∧ t.commit.busy = false ∧
            t.reg F.CFG_STAT_APPLIED = 1 ∧ t.reg F.CFG_APPLIED_SN_V = s.commit.target.toNat ∧
            (∀ f : Field, f ∈ fieldsAt f.off → f.cls = .s → s.shadowReg f < 2 ^ f.w → t.reg f = s.shadowReg f))) ∧
      (bitsAt w.toNat 32 8 = 0 →
        (∃ p, p < s.chainLen ∧ p ≠ pos ∧ Assoc.find s.commit.results p = none) →
        (∀ p r, p < s.chainLen → p ≠ pos → Assoc.find s.commit.results p = some r → r = 0) →
        ∃ t, exec (.commitResult w) s = .next t ∧
          t.commit = { s.commit with results := Assoc.insert s.commit.results pos 0 } ∧ Changes [.commit] [] s t) ∧
      (bitsAt w.toNat 32 8 ≠ 0 → s.cal.repairDue = false →
        ∃ t, exec (.commitResult w) s = .next t ∧ s.abortedFor t 0x84 (fun p =>
            p == pos || (Assoc.find s.commit.results p).any (fun r => r != 0)) ∧
          t.outbox = (s.sendCommit (commitWord s.commit.id s.commit.target 2 s.commit.now)).outbox ∧
          Logged s t 0x0A04 [(2, s.commit.id), (1, 0x84), (4, t.reg F.CFG_REJ_POS_V)]))) ∧
  (∀ s : State, s.isHead = true → s.commit.busy = true → s.chainLen ≤ 24 → s.cal.repairDue = false →
    (∀ t0, s.headIssues = true → s.nextTime = some t0 → signedDiff t0 s.pt ≤ Int.ofNat s.leadEff →
      s.reg F.CFG_STAT_STATE ≠ 3 → (s.thy.first = true ∨ 64 ≤ s.thy.sinceBoundary ∧ s.thy.reqHost = true) →
      snLater s.commit.target (s.thy.sn + 1) = false →
      ∃ t a, exec .lineDue s = .next t ∧ t.thy.armed = s.thy.armed ++ [a] ∧ a.sn = s.thy.sn + 1 ∧
        s.abortedFor t 0x83 (fun p => (Assoc.find s.commit.results p).isNone) ∧
        t.outbox = ((s.sendCommit (commitWord s.commit.id s.commit.target 2 s.commit.now)).sendEast 1 0 a.words).outbox) ∧
    (∀ w : Word64, s.portUp 1 = true → bitsAt w.toNat 0 5 < 24 → bitsAt w.toNat 0 5 + 1 ≠ s.reg F.CHV_POS_N →
      ∃ t, exec (.chainEnd w) s = .next t ∧ t.reg F.CHV_POS_N = bitsAt w.toNat 0 5 + 1 ∧
        s.abortedFor t 0x85 (fun p => decide (Assoc.find s.commit.results p ≠ some 0)))) ∧
  (∀ (s : State) (w : Word64), s.hearsWest = true → bitsAt w.toNat 48 2 = 1 →
    (s.commit.busy = true → s.commit.id = bitsAt w.toNat 32 16 →
      (s.commit.now = false → ∃ t, exec (.commitConfirm w) s = .next t ∧ t.reg F.CFG_STAT_STATE = 3 ∧
        t.outbox = (s.sendEast 3 0 [w]).outbox ∧ Changes [.regs, .outbox] [F.CFG_STAT_STATE] s t) ∧
      (s.commit.now = true → Assoc.rising s.shadow = true → s.cal.repairDue = false →
        ∃ t, exec (.commitConfirm w) s = .next t ∧ t.shadow = [] ∧ t.commit.busy = false ∧ t.commit.frozen = false ∧
          t.reg F.CFG_STAT_APPLIED = 1 ∧ t.reg F.CFG_APPLIED_SN_V = s.commit.target.toNat ∧
          (∀ f : Field, f ∈ fieldsAt f.off → f.cls = .s → s.shadowReg f < 2 ^ f.w → t.reg f = s.shadowReg f))) ∧
    (s.commit.busy = false ∨ s.commit.id ≠ bitsAt w.toNat 32 16 →
      exec (.commitConfirm w) s = .next (s.sendEast 3 0 [w]))) ∧
  (∀ (s : State) (w : Word64), s.hearsWest = true → bitsAt w.toNat 48 2 = 2 →
    (s.commit.busy = true → s.commit.id = bitsAt w.toNat 32 16 → s.cal.repairDue = false →
      ∃ t, exec (.commitAbort w) s = .next t ∧ t.commit.busy = false ∧ t.commit.frozen = false ∧
        t.shadow = s.shadow ∧ t.reg F.CFG_STAT_ABORTED = 1 ∧ t.reg F.CFG_STAT_STATE = 0 ∧
        Logged s t 0x0A04 [(2, s.commit.id), (1, s.commit.own.getD 0), (4, 0)] ∧
        Changes ([.commit, .outbox] ++ logParts) ([F.CFG_STAT_ABORTED, F.CFG_STAT_STATE] ++ attnFields) s t) ∧
    (s.commit.busy = false ∨ s.commit.id ≠ bitsAt w.toNat 32 16 →
      exec (.commitAbort w) s = .next (s.sendEast 3 0 [w])))

/-! ### DMA, the PCIe link, PTM and BAR2 -/

/-- DMA_PI_WRITE and RECORD_WRITE (R332, R335, R336, R349, R351): a producer index that overruns the ring is discarded
and logged; any other takes effect; the staged record of a stream is written into the buffer in hand, where it fits,
with EP set on the writes that carry a byte in error, whose record the descriptor then notes; a stream with a record
and no descriptor is starved; a ring that may not write does nothing. RING_STOP and HOST_READ_COMPLETION (R340, R350):
a stop of a ring with nothing in hand and nothing posted, in use or not, marks it STOPPED, takes its stream out of use
and logs it, and the parser of the reference stream begins anew; where another ring carries the stream too, for
segments before or after (R333), only this ring's part of it goes; a read of the reference ring that the backlog has
room for (R256) brings its bytes to the parser and completes its descriptor. Where it says more than these rules it
rests on the model's readings and choices in notes/assumptions/7.md, notes/assumptions/9.md, notes/assumptions/50.md
and notes/assumptions/62.md. -/
def Obligations.RingsWriteStopAndRead : Prop :=
  ((∀ (s : State) (r pi : Nat), s.takesWrites → s.flag F.CFG_BOOT_STAT_SAFE = false → r < 16 →
     ((s.ring r).active = false → exec (.dmaPiWrite r pi) s = .next (s.setReg (F.DMA_RING_PI_PI r) pi)) ∧
     ((s.ring r).active = true →
       let m := 2 * (s.ring r).size
       let ahead := (pi % m + m - s.reg (F.DMA_RING_CI_CI r)) % m
       ((s.ring r).size < ahead → ∃ t, exec (.dmaPiWrite r pi) s = .next t ∧
         Logged s t 0x0909 [(1, r), (2, pi), (1, 2)] ∧ Changes logParts attnFields s t) ∧
       (ahead ≤ (s.ring r).size → s.dmaRuns = false → ∃ t, exec (.dmaPiWrite r pi) s = .next t ∧
         t.reg (F.DMA_RING_PI_PI r) = pi % 2 ^ 17 ∧ Changes [.dma, .regs] [F.DMA_RING_PI_PI r] s t))) ∧
   (∀ (s : State) (r : Nat), r < 16 →
     (s.mayWrite r = false → ∀ bad, exec (.recordWrite ⟨r, bad⟩) s = .next s) ∧
     (∀ (k : Nat) (q : Staged) (bad : List (Nat × Nat)), s.mayWrite r = true → (s.ring r).stream = some k → k < 18 →
      (s.ring r).next = [] → (s.ring r).serves q.sn = true →
       s.dma.rings.length = 16 → s.pip.streams.length = 18 → (s.stream k).recs = [q] → q.done = 0 → q.bytes ≠ [] →
       (∀ d, s.filling r = some d → d.used + q.bytes.length < d.len → q.kind ≠ 3 →
         let hurt := (badBytes bad 0 (if k < 17 then 64 else 0) 0).filter (fun i => decide (i < q.bytes.length))
         ∃ t e, exec (.recordWrite ⟨r, bad⟩) s = .next t ∧ (t.stream k).recs = [] ∧ t.filling r = some e ∧
           e.used = d.used + q.bytes.length ∧ e.begins = d.begins ++ [q.mark] ∧
           e.bad = (if hurt = [] then d.bad else d.bad ++ [q.mark]) ∧
           t.outbox = s.outbox ++ splitWrites (s.flag F.DMA_CTL_RO_EN && s.dma.pcie.relaxed) s.dma.pcie.payload
             (q.bytes.length / s.dma.pcie.payload + 2) (s.winBase + d.addr + d.used) q.bytes hurt ∧
           Changes [.dma, .pip, .outbox] [] s t) ∧
       (s.filling r = none → s.posted r = 0 → s.flag (F.DMA_RING_STAT_STARVED r) = false →
         ∃ t, exec (.recordWrite ⟨r, bad⟩) s = .next t ∧ (t.stream k).recs = [q] ∧ t.reg (F.DMA_RING_STAT_STARVED r) = 1 ∧
           Logged s t 0x0907 [(1, r), (8, s.pt.toNat)] ∧
           Changes (.pip :: logParts) (F.DMA_RING_STAT_STARVED r :: attnFields) s t)))) ∧
  ((∀ (s : State) (r : Nat), s.takesWrites → r < 16 →
     (s.ring r).held = [] → ((s.ring r).active = true → s.posted r = 0) →
     ∃ t, exec (.ringStop r) s = .next t ∧ t.reg (F.DMA_RING_CTL_STOPPED r) = 1 ∧
       t.reg (F.DMA_RING_STAT_STARVED r) = 0 ∧ Logged s t 0x090D [(1, r), (4, 0)] ∧
       (∀ k, (s.ring r).stream = some k → k < 18 → s.pip.streams.length = 18 → t.sor = s.sor ∧
         (s.otherRing r k = none → (t.stream k).dead = true ∧ (t.stream k).recs = []) ∧
         (∀ o, s.otherRing r k = some o →
           (t.stream k).recs = (s.stream k).recs.filter (fun q => !(s.ring r).serves q.sn))) ∧
       ((s.ring r).stream = some 19 →
         t.sor.waiting = [] ∧ t.sor.seeking = true ∧ t.dma.spill = [] ∧ t.pip = s.pip) ∧
       ((s.ring r).stream = none → t.pip = s.pip ∧ t.sor = s.sor) ∧
       Changes ([.dma, .pip, .sor, .outbox] ++ logParts)
         (F.DMA_RING_CTL_STOPPED r :: F.DMA_RING_STAT_STARVED r :: attnFields) s t) ∧
   (∀ (s : State) (r : Nat) (bytes : List Byte) (d : Desc), r < 16 → s.dma.rings.length = 16 →
     (s.ring r).active = true → (s.ring r).down = true → s.dmaRuns = true → s.flag (F.DMA_RING_CTL_STOPPED r) = false →
     (s.ring r).held = [d] → d.phase = 0 → s.posted r = 0 →
     (s.ring r).stream = some 19 → s.sor.seeking = false → s.backlogUsed + d.used ≤ 0x4000000 →
     ∃ t, exec (.hostReadCompletion r 0 bytes) s = .next t ∧ (t.ring r).held = [] ∧
       t.sor.waiting = s.sor.waiting ++ bytes.take d.used ∧ t.sor.bands = s.sor.bands ∧
       t.reg (F.DMA_RING_CI_CI r) = (d.idx + 1) % (2 * (s.ring r).size) % 2 ^ 17))

/-- BUFFER_AGE_EXPIRY, FLUSH_READ_COMPLETE, COMPLETION_TIMEOUT, MOD_TIMER_EXPIRY and EVT_SEGCLOSE (R337 to R339, R341,
R342, R346, R349): an aged buffer with data is closed and its flush read issued; a flush read that comes back completes
its descriptor in the ring area, POISONED where it holds poisoned data, and moves CI on; one that fails is issued again
once; the moderation timer sends the message that waits, or leaves it pending under a mask; the close of a segment is
logged once every stream has delivered it. Where it says more than these rules it rests on the model's readings and
choices in notes/assumptions/7.md, notes/assumptions/9.md, notes/assumptions/62.md and notes/assumptions/63.md. -/
def Obligations.BuffersComplete : Prop :=
  ∀ (s : State) (r : Nat), r < 16 → s.dma.rings.length = 16 →
    (∀ d, s.filling r = some d →
      (s.mayWrite r = true → d.used ≠ 0 → s.reg (F.DMA_RING_AGE_AGE r) ≠ 0 → (∀ e ∈ (s.ring r).held, e.phase ≠ 2) →
        ∃ t, exec (.bufferAgeExpiry r) s = .next t ∧ t.outbox = s.outbox ++ [.hostRead (s.winBase + d.addr) 4] ∧
          (t.ring r).held.getLast? = some { d with phase := 2, partial_ := true } ∧ Changes [.dma, .outbox] [] s t) ∧
      (d.used = 0 → exec (.bufferAgeExpiry r) s = .next s)) ∧
    (∀ d, (s.ring r).held = [d] → d.phase = 2 →
      ((s.ring r).next = [] → s.dma.drain = false → s.posted r = 0 → (s.ring r).stream ≠ some 18 → s.memOk →
        ∃ t, exec (.flushReadComplete r true) s = .next t ∧ (t.ring r).held = [] ∧
          (t.ring r).done = ((s.ring r).done + 1) % 2 ^ 32 ∧
          t.reg (F.DMA_RING_CI_CI r) = (d.idx + 1) % (2 * (s.ring r).size) % 2 ^ 17 ∧
          (let status := if d.bad = [] then 0 else 2
           t.reg (F.DMA_RING_STAT_LAST_STATUS r) = status ∧
           readBytes t.mem (d.slot + 8) 24 = ({ d with phase := 3, status := status } : Desc).bytes (s.ring r).stream) ∧
          (∀ a, (a < d.slot + 8 ∨ d.slot + 32 ≤ a) → readByte t.mem a = readByte s.mem a)) ∧
      ((s.ring r).retried = false →
        ∃ t, exec (.flushReadComplete r false) s = .next t ∧ (t.ring r).retried = true ∧ (t.ring r).held = [d] ∧
          t.outbox = s.outbox ++ [.hostRead (s.winBase + d.addr) 4] ∧ Changes [.dma, .outbox] [] s t ∧
          ((s.ring r).down = false →
            ∃ u, exec (.completionTimeout r) s = .next u ∧ u.dma = { t.dma with aer := withBit s.dma.aer 14 true } ∧
              u.outbox = s.outbox ++
                (if s.dma.pcie.report = true ∧ s.flag F.PCX_LINK_DL_UP = true then [.errMessage false] else []) ++
                [.hostRead (s.winBase + d.addr) 4] ∧ Changes [.dma, .outbox] [] s u))) ∧
    ((∀ d ∈ (s.ring r).held, d.phase ≠ 2) → ∀ ok, exec (.flushReadComplete r ok) s = .next s) ∧
    (s.flag (F.DMA_RING_CTL_IRQ_EN r) = true → s.flag F.DMA_STAT_LINKED = true → s.reg (F.DMA_RING_MOD_TIMER r) ≠ 0 →
      (s.ring r).unsent ≠ 0 →
      ∃ t, exec (.modTimerExpiry r) s = .next t ∧ (t.ring r).unsent = 0 ∧ Changes [.dma, .outbox] [] s t ∧
        (s.msixMasked (s.reg (F.DMA_RING_CTL_VEC r)) = false →
          t.outbox = s.outbox ++ [.msix (s.reg (F.DMA_RING_CTL_VEC r))] ∧ t.dma.pba = s.dma.pba) ∧
        (s.msixMasked (s.reg (F.DMA_RING_CTL_VEC r)) = true →
          t.outbox = s.outbox ∧ t.dma.pba = withBit s.dma.pba (s.reg (F.DMA_RING_CTL_VEC r)) true)) ∧
    (s.reg (F.DMA_RING_MOD_TIMER r) = 0 → exec (.modTimerExpiry r) s = .next s) ∧
    (∀ x rest, s.dma.closes = x :: rest →
      (x.waiting = 0 → s.segHandled x.sn = true →
        ∃ t, exec .evtSegclose s = .next t ∧ t.dma = { s.dma with closes := rest } ∧
          LoggedAt s t 0x0930 x.sn s.pt [(4, x.sn.toNat), (4, x.gaps)] ∧ Changes (.dma :: logParts) attnFields s t) ∧
      (x.waiting ≠ 0 → exec .evtSegclose s = .next s))

/-- LINK_LOSS, LINK_RECOVERY, LINK_SPEED, LINK_RETRAIN and HOT_RESET (R323, R324, R343, R347, R348, R352, R353): a
loss clears LINKED, sets LOST and RECOVERING and takes the streams away; the recovery gives the streams back; the
trained rate and width show with their figure and bring what the host has set in configuration space, which may let
pending messages go, and a change of them since the last training is logged; a pass through Recovery is counted; a hot
reset returns the DMA and PCX blocks to reset, but for the gate of the hub clocks and what AER has recorded, and no
other. PTM_NOW,
PTM_PERIOD_EXPIRY and PTM_DIALOG_DONE (R354): with the link up a dialog begins, and without it PTM_FAIL is logged; the
period acts with AUTO and with PTM enabled; a dialog that succeeds stores the host's time and the press time of that
instant together and sets VALID; NOW reads 1 until its dialog has ended (R5). Where it says more than these rules it
rests on the model's readings and choices in notes/assumptions/9.md, notes/assumptions/43.md, notes/assumptions/51.md
and notes/assumptions/63.md. -/
def Obligations.LinkAndPtmStates : Prop :=
  ((∀ (s : State) (down : Bool),
     (s.flag F.DMA_STAT_LINKED = true →
       ∃ t, exec (.linkLoss down) s = .next t ∧ t.reg F.DMA_STAT_LINKED = 0 ∧ t.reg F.DMA_STAT_LOST = 1 ∧
         t.reg F.DMA_STAT_RECOVERING = 1 ∧ t.dma.lost = true ∧ (down = true → t.reg F.PCX_LINK_DL_UP = 0) ∧
         t.mem = s.mem ∧ t.pt = s.pt ∧ ((∀ r, r < 16 → (s.ring r).active = false) → Logged s t 0x0903 [])) ∧
     (s.flag F.DMA_STAT_LINKED = false → ∃ t, exec (.linkLoss down) s = .next t ∧
       Changes [.regs] [F.PCX_LINK_DL_UP, F.PCX_LINK_SPEED, F.PCX_LINK_L1] s t)) ∧
   (∀ s : State, s.dma.errDue = 0 →
     (s.dma.lost = false →
       ∃ t, exec .linkRecovery s = .next t ∧ t.reg F.PCX_LINK_DL_UP = 1 ∧ t.reg F.DMA_STAT_LINKED = 1 ∧
         t.dma.pcie = s.dma.pcie ∧
         Changes [.regs, .dma, .outbox] [F.PCX_LINK_DL_UP, F.DMA_STAT_LINKED] s t) ∧
     (s.dma.lost = true → s.dma.hub = false →
       ∃ t, exec .linkRecovery s = .next t ∧ t.reg F.PCX_LINK_DL_UP = 1 ∧ t.reg F.DMA_STAT_LINKED = 1 ∧
         t.reg F.DMA_STAT_RECOVERING = 0 ∧ t.dma.lost = false ∧ t.dma.pcie = s.dma.pcie ∧ t.pt = s.pt)) ∧
   (∀ (s : State) (speed width flit ctl : Nat), 1 ≤ speed → speed ≤ 6 → (width = 1 ∨ width = 2 ∨ width = 4 ∨ width = 8) →
     flit ≤ 1 →
     ∃ t, exec (.linkSpeed speed width ⟨flit, ctl⟩) s = .next t ∧ t.reg F.PCX_LINK_SPEED = speed ∧
       t.reg F.PCX_LINK_WIDTH = width ∧ t.reg F.PCX_LINK_FLIT = flit ∧ t.reg F.PCX_LINK_DL_UP = 1 ∧
       t.reg F.PCX_LINK_L1 = boolBit (bitAt ctl 10) ∧
       t.reg F.DMA_CAP_LINK = linkFigure speed width ∧
       t.dma.pcie = Pcie.ofCode ctl ∧ t.dma.lastLink = some (speed, width) ∧
       (s.flag F.DMA_STAT_LINKED = false ∨ s.dma.pba = 0 →
         t.dma = { s.dma with lastLink := some (speed, width), pcie := Pcie.ofCode ctl } ∧ t.outbox = s.outbox) ∧
       (∀ x, s.dma.lastLink = some x → x ≠ (speed, width) →
         Logged s t 0x0906 [(1, speed), (1, width), (2, linkFigure speed width)]) ∧
       ((s.dma.lastLink = none ∨ s.dma.lastLink = some (speed, width)) → t.fifo = s.fifo ∧ t.fifoLost = s.fifoLost) ∧
       Changes (.outbox :: .dma :: logParts) ([F.PCX_LINK_SPEED, F.PCX_LINK_WIDTH, F.PCX_LINK_FLIT, F.PCX_LINK_DL_UP,
         F.PCX_LINK_L1, F.DMA_CAP_LINK] ++ attnFields) s t) ∧
   (∀ s : State,
     (∃ t, exec .linkRetrain s = .next t ∧ t.dma = { s.dma with retrains := s.dma.retrains + 1 } ∧
       t.reg F.PCX_LINK_RETRAINS = (s.reg F.PCX_LINK_RETRAINS + 1) % 2 ^ 16 ∧
       t.reg F.PCX_LINK_L1 = 0 ∧ Changes [.dma, .regs] [F.PCX_LINK_RETRAINS, F.PCX_LINK_L1] s t) ∧
     (∃ t, exec .hotReset s = .next t ∧
       t.dma = { Dma.reset with
         aer := s.dma.aer, hub := s.dma.hub, lost := s.dma.hub, gapReason := if s.dma.hub then 4 else Dma.reset.gapReason } ∧
       OnlyIn [.regs, .shadow, .live, .dma, .pip] s t ∧
       (∀ f : Field, f.lo < 32 → (0xD0000 ≤ f.off ∧ f.off + 4 ≤ 0xE0000 ∨ 0x140000 ≤ f.off ∧ f.off + 4 ≤ 0x150000) →
         t.reg f = f.reset ∧ t.shadowReg f = f.reset) ∧
       (∀ f : Field, f.lo < 32 → (f.off + 4 ≤ 0xD0000 ∨ 0xE0000 ≤ f.off ∧ f.off + 4 ≤ 0x140000 ∨ 0x150000 ≤ f.off) →
         t.reg f = s.reg f ∧ t.shadowReg f = s.shadowReg f)))) ∧
  ((∀ s : State,
     let failed (t : State) : Prop := t.reg F.PCX_PTM_CTL_FAIL = 1 ∧ Logged s t 0x0910 [] ∧
       t.dma = { s.dma with ptmAsked := false } ∧ Changes (.dma :: logParts) (F.PCX_PTM_CTL_FAIL :: attnFields) s t
     (s.takesWrites →
       (s.flag F.PCX_LINK_DL_UP = true → exec .ptmNow s = .next { s with
         dma := { s.dma with ptmAsked := true, ptmDue := true }, outbox := s.outbox ++ [.ptmRequest] }) ∧
       (s.flag F.PCX_LINK_DL_UP = false → ∃ t, exec .ptmNow s = .next t ∧ failed t)) ∧
     (s.flag F.PCX_PTM_CTL_AUTO = true → s.dma.pcie.ptm = true →
       (s.flag F.PCX_LINK_DL_UP = true → exec .ptmPeriodExpiry s =
         .next { s with dma := { s.dma with ptmDue := true }, outbox := s.outbox ++ [.ptmRequest] }) ∧
       (s.flag F.PCX_LINK_DL_UP = false → ∃ t, exec .ptmPeriodExpiry s = .next t ∧ failed t))) ∧
   (∀ s : State, (s.flag F.PCX_PTM_CTL_AUTO = false ∨ s.dma.pcie.ptm = false) → exec .ptmPeriodExpiry s = .next s) ∧
   (∀ (s : State) (t1 t4 : PressTime) (turn host : Nat), host < 2 ^ 64 →
     (s.dma.ptmDue = true →
       (∃ t, exec (.ptmDialogDone true ⟨t1, t4, turn⟩ host) s = .next t ∧
         t.reg F.PCX_PTM_PT_V = (ptmInstant t1 t4 turn).toNat ∧
         t.reg F.PCX_PTM_HOST_V = host ∧ t.reg F.PCX_PTM_CTL_VALID = 1 ∧
         t.dma = { s.dma with ptmDue := false, ptmAsked := false } ∧
         Changes [.dma, .regs] [F.PCX_PTM_PT_V, F.PCX_PTM_HOST_V, F.PCX_PTM_CTL_VALID] s t) ∧
       ∃ t, exec (.ptmDialogDone false ⟨t1, t4, turn⟩ host) s = .next t ∧ t.reg F.PCX_PTM_CTL_FAIL = 1 ∧
         Logged s t 0x0910 [] ∧ t.dma = { s.dma with ptmDue := false, ptmAsked := false } ∧
         Changes (.dma :: logParts) (F.PCX_PTM_CTL_FAIL :: attnFields) s t) ∧
     (s.dma.ptmDue = false → ∀ ok, exec (.ptmDialogDone ok ⟨t1, t4, turn⟩ host) s = .next s)))

/-- BAR2_WRITE (R192, R327): bytes written into store DRAM, the ring area or the library read back at their offsets,
and every other byte stays; a write to a set slot whose EN bit is 1 is discarded and logged with the slot and the
store DRAM offset; a read-only or reserved range discards it, logged. Where it says more than these rules it rests on
the model's readings and choices in notes/assumptions/2.md and notes/assumptions/14.md. -/
def Obligations.Bar2Writes : Prop :=
  ∀ (s : State) (a : Nat) (bytes : List Byte), s.takesWrites → s.memOk → onePage a bytes.length = true →
    a + bytes.length ≤ bar2Size →
    ((bar2Range a = .readWrite ∨ ∃ d, bar2Range a = .slot d ∧ s.lockedSlot d = none) →
      ∃ t, exec (.bar2Write a bytes) s = .next t ∧ t.memOk ∧ OnlyIn [.mem] s t ∧
        readBytes t.mem a bytes.length = bytes ∧
        ∀ b, (b < a ∨ a + bytes.length ≤ b) → readByte t.mem b = readByte s.mem b) ∧
    (∀ d k, bar2Range a = .slot d → s.lockedSlot d = some k →
      exec (.bar2Write a bytes) s = .next (s.log 0x0504 [(1, k), (4, d)])) ∧
    (bar2Range a = .readOnly ∨ bar2Range a = .reserved →
      exec (.bar2Write a bytes) s = .next (s.log 0x090F [(4, a)]))

/-! ### Reset, boot and security -/

/-- RESET_N_RELEASE, MAIN_DOMAINS_RELEASE, RESET_N_LOW and FUNDAMENTAL_RESET (R373, R374, R385, R410, R437, R439,
R443, R475): the release of RESET_N samples the straps, and with the rails good begins a boot, counted, with every PLL
locking; RESET_N low in run returns the main domains to reset, keeps store DRAM and clears BROWNOUT, since this reset
follows no brown-out; a fundamental reset applies a PLL-P pair of the image. That a release of a RESET_N that is high
changes nothing is the model's choice in notes/assumptions/9.md. Where it says more than these rules it rests on the
model's readings and choices in notes/assumptions/3.md, notes/assumptions/36.md and notes/assumptions/53.md. -/
def Obligations.ResetAndRelease : Prop :=
  (∀ (s : State) (straps : Nat), s.boot.resetN = false →
    (s.bay.railsGood = false → ∃ t, exec (.resetNRelease straps) s = .next t ∧ t.boot = { s.boot with resetN := true } ∧
      t.reg F.TWI_STAT_ADDR = 0x68 + straps % 8 ∧ t.isHead = bitAt straps 3 ∧
      Changes [.boot, .regs] [F.TWI_STAT_ADDR, F.CHV_POS_HEAD, F.PTC_PT_CTL_HEAD] s t) ∧
    (s.bay.railsGood = true → s.boot.supply = .reset → s.clk.refLost = false →
      ∃ t, exec (.resetNRelease straps) s = .next t ∧ t.boot.supply = .run ∧ t.isHead = bitAt straps 3 ∧
        t.reg F.CFG_BOOT_COUNT_V = (s.reg F.CFG_BOOT_COUNT_V + 1) % 2 ^ 32 ∧
        ∀ x, x < 5 → t.reg (F.CLK_PLL_STAT_SEARCHING x) = 1)) ∧
  (∀ (s : State) (straps : Nat), s.boot.resetN = true → exec (.resetNRelease straps) s = .next s) ∧
  (∀ s : State, s.boot.supply = .reset →
    (s.boot.resetN = true → s.clk.refLost = false →
      ∃ t, exec .mainDomainsRelease s = .next t ∧ t.boot.supply = .run ∧
        t.reg F.CFG_BOOT_COUNT_V = (s.reg F.CFG_BOOT_COUNT_V + 1) % 2 ^ 32 ∧
        ∀ x, x < 5 → t.reg (F.CLK_PLL_STAT_SEARCHING x) = 1) ∧
    (s.boot.resetN = false →
      exec .mainDomainsRelease s = .next { s with bay := { s.bay with railsGood := true, railsOff := 0 } })) ∧
  (∀ s : State, s.boot.supply = .run → s.bay.vaux = true →
    ∃ t, exec .resetNLow s = .next t ∧ t.boot.supply = .reset ∧ t.boot.resetN = false ∧ t.pt = 0 ∧ t.fifo = [] ∧
      t.reg F.CFG_BOOT_STAT_PHASE = 0 ∧ t.isRunning = false ∧ bitAt t.arr.kills 2 = true ∧
      t.reg F.CFG_BOOT_COUNT_V = s.reg F.CFG_BOOT_COUNT_V ∧ t.reg F.HKP_PWR_BROWNOUT = 0 ∧ t.pending = s.pending ∧
      ∀ a, dramBase ≤ a → a < dramBase + 0x8000000 → readByte t.mem a = readByte s.mem a) ∧
  (∀ s : State, s.boot.supply = .run →
    (bitAt s.clk.imagePairs 3 = false → exec .fundamentalReset s = .next s) ∧
    (bitAt s.clk.imagePairs 3 = true → s.clk.refLost = false →
      pllPair 3 (s.reg (F.CLK_PLL_CTL_REF_MODE 3)) (s.reg (F.CLK_PLL_CTL_N 3)) = true →
      ∃ t, exec .fundamentalReset s = .next t ∧ bitAt t.clk.imagePairs 3 = false ∧
        t.reg (F.CLK_PLL_STAT_N_EFF 3) = s.reg (F.CLK_PLL_CTL_N 3) ∧ t.reg (F.CLK_PLL_STAT_GATED 3) = 1 ∧
        t.reg (F.CLK_PLL_STAT_SEARCHING 3) = 1))

/-- BOOT_CHUNK_READ, EEPROM_PROBE_RETRY, LISTENED_TRANSACTION, BACKOFF_EXPIRY and BUS_STUCK (R398 to R402, Table
CFG-9): the addressing probe keeps the first chunk of the mode that answers with the magic, tries mode 2 after mode 1,
waits and repeats, and fails the boot in the end; each transaction addresses the device and the word that its mode and
chunk give; a lost arbitration is counted and backs off, and how far a transaction lost before its first byte had come
is a free value (notes/assumptions/69.md); bytes that another controller reads are taken; a recovery drives its
clocks, after one that fails the controller waits for the bus, and three that fail end the boot. Where it says more
than these rules it rests on the model's readings and choices in notes/assumptions/9.md and notes/assumptions/37.md.
-/
def Obligations.ImageIsRead : Prop :=
  (∀ (s : State) (lost : Bool) (data : List Byte),
    (s.reads = false ∨ s.boot.backoff = true → exec (.bootChunkRead lost data) s = .next s) ∧
    (s.reads = true → s.boot.backoff = false → s.boot.read = .probe1 →
      (magicOk data = true → data.length = 256 → s.boot.got = [] → lengthOk 1 (leAt data 8 4) = true →
        ∃ t, exec (.bootChunkRead false data) s = .next t ∧ t.boot.read = .chunks ∧ t.reg F.TWI_BOOT_STAT_MODE = 1 ∧
          (∀ i, i < 256 → Assoc.find t.boot.got i = data[i]?) ∧
          t.outbox = s.outbox ++ [.bootRead [0xA0, 0, 0] (some (0xA1, 256)) true] ∧
          Changes [.boot, .regs, .outbox] [F.TWI_BOOT_STAT_MODE] s t) ∧
      (magicOk data = false → exec (.bootChunkRead false data) s =
        .next { s with
          boot := { s.boot with read := .probe2 (!data.isEmpty), stuck := false },
          outbox := s.outbox ++
            [if data = [] then .bootRead [0xA0] none true else .bootRead [0xA0, 0, 0] (some (0xA1, 256)) true] }) ∧
      (s.reg F.TWI_BOOT_STAT_ARB_LOST < 65535 →
        ∃ t, exec (.bootChunkRead true data) s = .next t ∧ t.boot = { s.boot with backoff := true, stuck := false } ∧
          t.reg F.TWI_BOOT_STAT_ARB_LOST = s.reg F.TWI_BOOT_STAT_ARB_LOST + 1 ∧
          (data ≠ [] → t.outbox = s.outbox ++ [.bootRead [0xA0, 0, 0] (some (0xA1, data.length)) false] ∧
            t.freeCtr = s.freeCtr) ∧
          (data = [] → ∃ k, t.outbox = s.outbox ++ [lostTransaction 1 0 k] ∧ k ≤ 4) ∧
          Changes [.boot, .regs, .outbox, .freeCtr] [F.TWI_BOOT_STAT_ARB_LOST] s t)) ∧
    (s.reads = true → s.boot.backoff = false → s.boot.read = .chunks → data ≠ [] →
      let a := firstGap 0 s.boot.got / 256 * 256
      let n := min 256 ((imageLength s.boot.got).getD 524288 - a)
      let dev := if s.reg F.TWI_BOOT_STAT_MODE = 1 then 0xA0 + 2 * (a / 65536) else 0xA0
      let word := if s.reg F.TWI_BOOT_STAT_MODE = 1 then [a / 256 % 256, a % 256]
        else [a / 65536, a / 256 % 256, a % 256]
      ∃ t, exec (.bootChunkRead false data) s = .next t ∧
        t.outbox = s.outbox ++
          [.bootRead ((dev :: word).map (BitVec.ofNat 8)) (some (BitVec.ofNat 8 (dev + 1), n)) true] ∧
        t.reg F.TWI_BOOT_STAT_ARB_LOST = s.reg F.TWI_BOOT_STAT_ARB_LOST) ∧
    (s.reads = true → s.boot.backoff = false → s.boot.read = .probe2 false →
      (s.boot.probes < 10 → exec (.bootChunkRead false []) s = .next { s with
        boot := { s.boot with read := .retry, stuck := false }, outbox := s.outbox ++ [.bootRead [0xA0] none true] }) ∧
      (10 ≤ s.boot.probes → ∃ t, exec (.bootChunkRead false []) s = .next t ∧ t.reg F.CFG_BOOT_STAT_PHASE = 6 ∧
        t.reg F.CFG_BOOT_STAT_SAFE = 1 ∧ t.reg F.CFG_BOOT_STAT_FAIL = 1 ∧ t.flag F.CFG_LOCK_LOCKED = true))) ∧
  (∀ s : State, s.reads = true →
    (s.boot.read = .retry → exec .eepromProbeRetry s =
      .next { s with boot := { s.boot with read := .probe1, probes := s.boot.probes + 1 } }) ∧
    (s.boot.read ≠ .retry → exec .eepromProbeRetry s = .next s)) ∧
  (∀ (s : State) (data : List (List Byte)) (a n : Nat) (b : Byte), s.reads = true → s.boot.read = .chunks →
    (listenedBytes (s.reg F.TWI_BOOT_STAT_MODE) data = none → exec (.listenedTransaction data) s = .next s) ∧
    (listenedBytes (s.reg F.TWI_BOOT_STAT_MODE) data = some (a, [b]) → imageLength s.boot.got = some n →
      lengthOk (s.reg F.TWI_BOOT_STAT_MODE) n = true → a < n → firstGap 0 s.boot.got < a →
      Assoc.find s.boot.got a = none →
      ∃ t, exec (.listenedTransaction data) s = .next t ∧
        t.boot = { s.boot with got := Assoc.insert s.boot.got a b } ∧
        t.reg F.TWI_BOOT_LISTENED_V = (s.reg F.TWI_BOOT_LISTENED_V + 1) % 2 ^ 32 ∧
        Changes [.boot, .regs] [F.TWI_BOOT_LISTENED_V] s t)) ∧
  (∀ s : State, exec .backoffExpiry s = .next { s with boot := { s.boot with backoff := false } }) ∧
  (∀ (s : State) (clocks : Nat), s.reads = true →
    exec (.busStuck clocks true) s = .next ({ s with
      boot := { s.boot with stuck := false }, outbox := s.outbox ++ [Emission.busClocks clocks] }.log 0x0B05 [(4, clocks), (1, 0)]) ∧
    (s.reg F.TWI_BOOT_STAT_RECOVERIES < 2 →
      ∃ t, exec (.busStuck clocks false) s = .next t ∧ Logged s t 0x0B05 [(4, clocks), (1, 1)] ∧
        t.reg F.TWI_BOOT_STAT_RECOVERIES = s.reg F.TWI_BOOT_STAT_RECOVERIES + 1 ∧
        t.boot = { s.boot with stuck := true } ∧ t.outbox = s.outbox ++ [.busClocks clocks] ∧
        Changes ([.boot, .outbox] ++ logParts) (F.TWI_BOOT_STAT_RECOVERIES :: attnFields) s t) ∧
    (s.reg F.TWI_BOOT_STAT_RECOVERIES = 2 →
      ∃ t, exec (.busStuck clocks false) s = .next t ∧ t.reg F.CFG_BOOT_STAT_PHASE = 6 ∧
        t.reg F.CFG_BOOT_STAT_SAFE = 1 ∧ t.reg F.CFG_BOOT_STAT_FAIL = 1))

/-- IMAGE_VERIFIED, BOOT_APPLY_DONE and HOST_REBOOT (R371, R373, R375 to R377, Tables CFG-8 and CFG-9): header, key,
signature, rollback and section table are judged in this order; the first rule that an image breaks ends boot in SAFE
with its reason, 2 for header and section table, 3 for a key that no ACTIVE slot of an owned device holds, 5 for a
ROLLBACK below the counter, and a signature that fails reads the image again once and then fails with 4; records that
break R371, and a configuration that fails its check, end boot in SAFE; any other image is applied, with the mark of
an applied commit (R373), and boot reaches STANDBY; a host reboot takes the image in store DRAM to phase 3, in SAFE or
STANDBY alone. That CFG_APPLIED_SN then takes CFG_COMMIT_SN is the model's choice in notes/assumptions/64.md, that the
two commands change nothing outside phases 3 and 4 that of notes/assumptions/9.md, and signature and hash are those of
notes/assumptions/5.md. Where it says more than these rules it rests on the model's readings and choices in
notes/assumptions/4.md, notes/assumptions/37.md and notes/assumptions/38.md. -/
def Obligations.ImageIsAppliedOrRefused : Prop :=
  (∀ (s : State) (img : List Byte), s.boot.halted = false → s.boot.image = some img →
    s.reg F.CFG_BOOT_STAT_PHASE = 3 →
    (headerOk img = false → ∃ t, exec .imageVerified s = .next t ∧ t.reg F.CFG_BOOT_STAT_PHASE = 6 ∧
      t.reg F.CFG_BOOT_STAT_SAFE = 1 ∧ t.reg F.CFG_BOOT_STAT_FAIL = 2) ∧
    (headerOk img = true →
      let safe (t : State) (reason : Nat) : Prop := t.reg F.CFG_BOOT_STAT_PHASE = 6 ∧ t.reg F.CFG_BOOT_STAT_SAFE = 1 ∧
        t.reg F.CFG_BOOT_STAT_FAIL = reason
      let fits (k : Nat) : Prop :=
        s.reg (F.SEC_SLOT_CTL_STATE k) = 1 ∧ s.slotHash k = sha256 ((img.drop 32).take 32)
      let owned : Prop := ∃ k, k < 4 ∧ s.reg (F.SEC_SLOT_CTL_STATE k) ≠ 0
      (owned → (∀ k, k < 4 → ¬ fits k) → ∃ t, exec .imageVerified s = .next t ∧ safe t 3) ∧
      (¬ owned ∨ (∃ k, k < 4 ∧ fits k) → ∃ t, exec .imageVerified s = .next t ∧
        (signatureOk img = false → s.flag F.CFG_BOOT_STAT_REREAD = true → safe t 4) ∧
        (signatureOk img = false → s.flag F.CFG_BOOT_STAT_REREAD = false → t.reg F.CFG_BOOT_STAT_REREAD = 1 ∧
          t.reg F.CFG_BOOT_STAT_PHASE = (if s.flag F.CFG_BOOT_STAT_FROM_HOST then 3 else 2)) ∧
        (signatureOk img = true → leAt img 16 4 < s.reg F.SEC_RB_V → safe t 5) ∧
        (signatureOk img = true → s.reg F.SEC_RB_V ≤ leAt img 16 4 → sectionsOk img = false → safe t 2) ∧
        (signatureOk img = true → s.reg F.SEC_RB_V ≤ leAt img 16 4 → sectionsOk img = true →
          t = s.setReg F.CFG_BOOT_STAT_PHASE 4)))) ∧
  (∀ s : State, s.reg F.CFG_BOOT_STAT_PHASE ≠ 3 → exec .imageVerified s = .next s) ∧
  (∀ (s : State) (img : List Byte), s.boot.halted = false → s.boot.image = some img →
    s.reg F.CFG_BOOT_STAT_PHASE = 4 →
    ∃ t, exec .bootApplyDone s = .next t ∧
      let u := (State.applySects img (imageSects img) s).1
      let good := (State.applySects img (imageSects img) s).2
      (good = false → t.reg F.CFG_BOOT_STAT_PHASE = 6 ∧ t.reg F.CFG_BOOT_STAT_SAFE = 1 ∧
        t.reg F.CFG_BOOT_STAT_FAIL = 6) ∧
      (good = true → u.checkConfig none u.target ≠ none → t.reg F.CFG_BOOT_STAT_PHASE = 6 ∧
        t.reg F.CFG_BOOT_STAT_SAFE = 1 ∧ t.reg F.CFG_BOOT_STAT_FAIL = 7) ∧
      (good = true → u.checkConfig none u.target = none → u.thermDown = false → u.hkp.resuming = none →
        t.reg F.CFG_BOOT_STAT_PHASE = 5 ∧ t.reg F.HKP_PWR_STATE = 2 ∧ t.reg F.CFG_IMAGE_ID_V = leAt img 20 4 ∧
          t.boot.hash = sha256 img ∧ t.reg F.CFG_STAT_APPLIED = 1 ∧
          t.reg F.CFG_APPLIED_SN_V = u.reg F.CFG_COMMIT_SN_V % 2 ^ 32)) ∧
  (∀ s : State, s.reg F.CFG_BOOT_STAT_PHASE ≠ 4 → exec .bootApplyDone s = .next s) ∧
  (∀ s : State, s.takesWrites →
    (s.reg F.HKP_PWR_STATE = 2 → s.isRunning = false →
      ∃ t, exec .hostReboot s = .next t ∧ t.reg F.CFG_BOOT_STAT_PHASE = 3 ∧ t.reg F.CFG_BOOT_STAT_FROM_HOST = 1 ∧
        t.boot.image = some s.hostImage ∧ t.shadow = [] ∧ t.pt = s.pt) ∧
    (s.flag F.CFG_BOOT_STAT_SAFE = false → (s.reg F.HKP_PWR_STATE ≠ 2 ∨ s.isRunning = true) →
      exec .hostReboot s = .next (s.writeIgnored 0xE0034 5)))

/-- SLOT_PROGRAM, SLOT_REVOKE, SEC_RB_ADVANCE, ATTEST_RUN and ATTEST_DONE (R375, R378 to R381): an EMPTY slot becomes
ACTIVE and an ACTIVE one REVOKED while the configuration is unlocked and the running image's own key stays, or the
write is ignored; the rollback counter takes a higher value and never a lower one; a report is built at once and
written with its signature. Where it says more than these rules it rests on the model's readings and choices in
notes/assumptions/5.md, notes/assumptions/9.md, notes/assumptions/12.md and notes/assumptions/39.md. -/
def Obligations.KeysAndAttestation : Prop :=
  (∀ (s : State) (k : Nat), s.takesWrites → k < 4 →
    (s.flag F.CFG_LOCK_LOCKED = false →
      (s.reg (F.SEC_SLOT_CTL_STATE k) = 0 → ∃ t, exec (.slotProgram k) s = .next t ∧ t.reg (F.SEC_SLOT_CTL_STATE k) = 1 ∧
        t.reg F.SEC_STAT_OWNED = 1 ∧ Logged s t 0x0A09 [(1, k), (1, 1)] ∧
        Changes logParts ([F.SEC_SLOT_CTL_STATE k, F.SEC_STAT_OWNED] ++ attnFields) s t) ∧
      (s.reg (F.SEC_SLOT_CTL_STATE k) = 1 → (s.flag F.SEC_STAT_KEY_VALID = false ∨ s.reg F.SEC_STAT_KEY_USED ≠ k) →
        ∃ t, exec (.slotRevoke k) s = .next t ∧ t.reg (F.SEC_SLOT_CTL_STATE k) = 2 ∧
          Logged s t 0x0A09 [(1, k), (1, 2)] ∧
          Changes logParts ([F.SEC_SLOT_CTL_STATE k, F.SEC_STAT_OWNED] ++ attnFields) s t)) ∧
    (s.flag F.CFG_LOCK_LOCKED = true ∨ s.reg (F.SEC_SLOT_CTL_STATE k) ≠ 0 →
      exec (.slotProgram k) s = .next (s.writeIgnored (F.SEC_SLOT_CTL_PROGRAM k).off 2)) ∧
    (s.flag F.CFG_LOCK_LOCKED = true ∨ s.reg (F.SEC_SLOT_CTL_STATE k) ≠ 1 ∨
        (s.flag F.SEC_STAT_KEY_VALID = true ∧ s.reg F.SEC_STAT_KEY_USED = k) →
      exec (.slotRevoke k) s = .next (s.writeIgnored (F.SEC_SLOT_CTL_REVOKE k).off 2))) ∧
  (∀ s : State, s.takesWrites →
    (s.flag F.CFG_LOCK_LOCKED = true → exec .secRbAdvance s = .next (s.writeIgnored 0xF0014 2)) ∧
    (s.flag F.CFG_LOCK_LOCKED = false →
      (s.reg F.CFG_IMAGE_RB_V ≤ s.reg F.SEC_RB_V → exec .secRbAdvance s = .next s) ∧
      (s.reg F.SEC_RB_V < s.reg F.CFG_IMAGE_RB_V → ∃ t, exec .secRbAdvance s = .next t ∧
        t.reg F.SEC_RB_V = s.reg F.CFG_IMAGE_RB_V % 2 ^ 32 ∧
        Logged s t 0x0A08 [(4, s.reg F.SEC_RB_V), (4, s.reg F.CFG_IMAGE_RB_V)] ∧
        Changes logParts (F.SEC_RB_V :: attnFields) s t)) ∧
    (s.flag F.SEC_STAT_ATT_BUSY = true → exec .attestRun s = .next (s.writeIgnored 0xF0020 5)) ∧
    (s.flag F.SEC_STAT_ATT_BUSY = false → ∃ t, exec .attestRun s = .next t ∧
      t.boot = { s.boot with report := some s.reportBody } ∧ t.reg F.SEC_STAT_ATT_BUSY = 1 ∧
      Changes [.boot, .regs] [F.SEC_STAT_ATT_BUSY] s t)) ∧
  (∀ (s : State) (b : List Byte), s.boot.report = some b → s.memOk →
    ∃ t, exec .attestDone s = .next t ∧ t.boot = { s.boot with report := none } ∧ t.reg F.SEC_STAT_ATT_BUSY = 0 ∧
      t.reg F.SEC_STAT_ATT_DONE = 1 ∧ t.dram 0x1F00000 b.length = b ∧
      (∀ a, (a < dramBase + 0x1F00000 ∨ dramBase + 0x1F00000 + (b.length + 17088) ≤ a) → readByte t.mem a = readByte s.mem a) ∧
      Logged s t 0x0A0B [(8, s.pt.toNat)] ∧
      Changes ([.boot, .mem] ++ logParts) ([F.SEC_STAT_ATT_BUSY, F.SEC_STAT_ATT_DONE] ++ attnFields) s t) ∧
  (∀ s : State, s.boot.report = none → exec .attestDone s = .next s)

/-! ### The two-wire port -/

/-- PTR, WR4, WR8 and BWR (R386 to R390): a valid pointer is taken and an invalid one refused, and so is a command
code outside Table TWI-2; a write in BAR0 does what the same register writes do, a write in BAR2 what the same bytes
do, and the pointer moves on; a short write is discarded and logged, no byte of it NACKed, one with a wrong PEC or
without a PEC that is required is discarded and logged, and before boot phase 5 a write does nothing. Where it says
more than these rules it rests on the model's readings and choices in notes/assumptions/40.md and
notes/assumptions/41.md. -/
def Obligations.TwoWireWrites : Prop :=
  (∀ (s : State) (bytes : List Byte), s.twAnswers = true → bytes.length = 4 →
    (pointerOk (ofLeBytes bytes) = true → s.flag F.TWI_CTL_PEC_REQ = false →
      exec (.ptr ⟨1, bytes⟩) s = .next (s.setReg F.TWI_PTR_V (ofLeBytes bytes))) ∧
    (pointerOk (ofLeBytes bytes) = false → exec (.ptr ⟨1, bytes⟩) s = .next (s.badCommand 1 4)) ∧
    (s.booting = false → 8 ≤ s.twRoom → s.flag F.TWI_CTL_PEC_REQ = true →
      exec (.wr4 bytes) s = .next (s.pecError 2) ∧ exec (.wr8 bytes) s = .next (s.shortWrite 4 4)) ∧
    (s.booting = false → 4 ≤ s.twRoom → s.flag F.TWI_CTL_PEC_REQ = false →
      (spaceOf s.twPtr = false →
        ∃ u, exec (.registerWrite 1 s.twPtr 4 (ofLeBytes bytes)) s = .next u ∧
          exec (.wr4 bytes) s = .next (u.setReg F.TWI_PTR_V (s.twPtr + 4))) ∧
      (spaceOf s.twPtr = true →
        ∃ u, exec (.bar2Write (s.twPtr % 2 ^ 28) bytes) s = .next u ∧
          exec (.wr4 bytes) s = .next (u.setReg F.TWI_PTR_V (s.twPtr + 4))))) ∧
  (∀ (s : State) (bytes : List Byte) (p : Byte), s.twAnswers = true → s.booting = false → bytes.length = 4 → 4 ≤ s.twRoom →
    (p = pecOf ([s.twAddress, 2] ++ bytes.map (fun b => b.toNat)) → spaceOf s.twPtr = false →
      ∃ u, exec (.registerWrite 1 s.twPtr 4 (ofLeBytes bytes)) s = .next u ∧
        exec (.wr4 (bytes ++ [p])) s = .next (u.setReg F.TWI_PTR_V (s.twPtr + 4))) ∧
    (p ≠ pecOf ([s.twAddress, 2] ++ bytes.map (fun b => b.toNat)) →
      exec (.wr4 (bytes ++ [p])) s = .next ((s.emit .twNack).pecError 2))) ∧
  (∀ (s : State) (bytes : List Byte), s.twAnswers = true → s.booting = false → bytes.length = 8 → 8 ≤ s.twRoom →
    s.flag F.TWI_CTL_PEC_REQ = false → spaceOf s.twPtr = false →
    ∃ u v, exec (.registerWrite 1 s.twPtr 4 (ofLeBytes (bytes.take 4))) s = .next u ∧
      exec (.registerWrite 1 (s.twPtr + 4) 4 (ofLeBytes (bytes.drop 4))) u = .next v ∧
      exec (.wr8 bytes) s = .next (v.setReg F.TWI_PTR_V (s.twPtr + 8))) ∧
  (∀ (s : State) (c : Byte) (data : List Byte), s.twAnswers = true → s.booting = false →
    (s.countOk c.toNat = false → exec (.bwr (c :: data)) s = .next (s.badCommand 6 1)) ∧
    (s.countOk c.toNat = true → data.length = c.toNat → s.flag F.TWI_CTL_PEC_REQ = false → spaceOf s.twPtr = true →
      ∃ u, exec (.bar2Write (s.twPtr % 2 ^ 28) data) s = .next u ∧
        exec (.bwr (c :: data)) s = .next (u.setReg F.TWI_PTR_V (s.twPtr + c.toNat)))) ∧
  (∀ (s : State) (code : Nat) (bytes : List Byte), s.twAnswers = true → (code = 0 ∨ 9 < code) →
    exec (.ptr ⟨code, bytes⟩) s = .next (s.badCommand code 0)) ∧
  (∀ (s : State) (bytes : List Byte), s.booting = true →
    exec (.wr4 bytes) s = .next s ∧ exec (.wr8 bytes) s = .next s ∧ exec (.bwr bytes) s = .next s)

/-- While bit k of `CAL_SETS.EN` is 1 (R192), every write to slot k is discarded and logged as SLOT_LOCKED with the
slot and the store DRAM offset of the write: one through BAR2, and one through the two-wire port by WR4, WR8 or BWR,
with a correct PEC or without one where none is required (R386 to R390, Table TWI-2), whose pointer moves on as after
any write. That the two words of WR8, as one write, give one record and that the pointer moves on behind a discarded
write are the model's readings in notes/assumptions/40.md and notes/assumptions/41.md. -/
def Obligations.SetSlotsInUseAreLocked : Prop :=
  ∀ (s : State) (k o : Nat) (bytes : List Byte), s.takesWrites → k < 8 → bitAt (s.reg F.CAL_SETS_EN) k = true →
    o < 0x200000 →
    let d := k * 0x200000 + o
    let t := s.log 0x0504 [(1, k), (4, d)]
    t.mem = s.mem ∧
    (onePage (dramBase + d) bytes.length = true → exec (.bar2Write (dramBase + d) bytes) s = .next t) ∧
    (s.twAnswers = true → s.twPtr = 2 ^ 31 + (dramBase + d) →
      let ends (code : Nat) (sent tail : List Byte) : Prop :=
        (tail = [] ∧ s.flag F.TWI_CTL_PEC_REQ = false) ∨
          tail = [pecOf ([s.twAddress, code] ++ sent.map (fun b => b.toNat))]
      (∀ tail, bytes.length = 4 → 4 ≤ s.twRoom → ends 2 bytes tail →
        exec (.wr4 (bytes ++ tail)) s = .next (t.setReg F.TWI_PTR_V (s.twPtr + 4))) ∧
      (∀ tail, bytes.length = 8 → 8 ≤ s.twRoom → ends 4 bytes tail →
        exec (.wr8 (bytes ++ tail)) s = .next (t.setReg F.TWI_PTR_V (s.twPtr + 8))) ∧
      (∀ (c : Byte) tail, bytes.length = c.toNat → s.countOk c.toNat = true → ends 6 (c :: bytes) tail →
        exec (.bwr (c :: bytes ++ tail)) s = .next (t.setReg F.TWI_PTR_V (s.twPtr + c.toNat))))

/-- RD4, RD8, BRD and ATTN (R386, R389 to R392): a read in BAR0 sends what the same register read answers, a read in
BAR2 the bytes that stand there, then the PEC and then 0xFF, as far as the controller takes them, and the pointer moves
on by the whole read; a word that is late is sent as 0xFF and logged; a read that would leave the page is refused; ATTN
sends the pending sources. Where it says more than these rules it rests on the model's
readings and choices in notes/assumptions/4.md, notes/assumptions/40.md and notes/assumptions/41.md. -/
def Obligations.TwoWireReads : Prop :=
  (∀ (s : State) (taken late : Nat), s.twAnswers = true →
    let sent (code : Nat) (written : List Nat) (bs : List Byte) : List Byte :=
      (bs ++ [pecOf ([s.twAddress, code] ++ written ++ [s.twAddress + 1] ++ bs.map (fun (b : Byte) => b.toNat))]
        ++ List.replicate (taken - bs.length) (0xFF : Byte)).take taken
    (s.twRoom < 4 → exec (.rd4 ⟨taken, late⟩) s = .next (s.badCommand 3 0)) ∧
    (4 ≤ s.twRoom → s.booting = false → 1 ≤ taken → bitAt late 0 = true →
      ∃ t, exec (.rd4 ⟨taken, late⟩) s = .next t ∧ t.reg F.TWI_STAT_RD_LATE = 1 ∧ Logged s t 0x0B04 [(4, s.twPtr)] ∧
        t.outbox = s.outbox ++ [.twBytes (sent 3 [] (List.replicate 4 0xFF))] ∧
        t.reg F.TWI_PTR_V = (s.twPtr + 4) % 2 ^ 32 ∧
        Changes (.outbox :: logParts) (F.TWI_STAT_RD_LATE :: F.TWI_PTR_V :: attnFields) s t) ∧
    (4 ≤ s.twRoom → spaceOf s.twPtr = false → 1 ≤ taken → bitAt late 0 = false →
      ∃ t u w, exec (.bar0Read 1 s.twPtr 4) s = .next u ∧ u.outbox = s.outbox ++ [.readData 1 4 w] ∧
        exec (.rd4 ⟨taken, late⟩) s = .next t ∧ t.outbox = s.outbox ++ [.twBytes (sent 3 [] (leBytes 4 w))] ∧
        t.reg F.TWI_PTR_V = s.twPtr + 4 ∧ t.ptc = u.ptc ∧ t.mem = s.mem) ∧
    (s.booting = false → s.hubStopped = false → spaceOf s.twPtr = true →
      (8 ≤ s.twRoom → (∀ i, i < 8 → bar2Range (s.twPtr % 2 ^ 28 + i) = .readWrite) →
        ∃ t, exec (.rd8 ⟨taken, 0⟩) s = .next t ∧
          t.outbox = s.outbox ++ [.twBytes (sent 5 [] (readBytes s.mem (s.twPtr % 2 ^ 28) 8))] ∧
          t.reg F.TWI_PTR_V = (s.twPtr + 8) % 2 ^ 32 ∧ Changes [.regs, .outbox, .freeCtr] [F.TWI_PTR_V] s t) ∧
      (∀ n, s.countOk n = true → (∀ i, i < n → bar2Range (s.twPtr % 2 ^ 28 + i) = .readWrite) →
        ∃ t, exec (.brd n ⟨taken, 0⟩) s = .next t ∧
          t.outbox = s.outbox ++
            [.twBytes (sent 7 [n] (BitVec.ofNat 8 n :: readBytes s.mem (s.twPtr % 2 ^ 28) n))] ∧
          t.reg F.TWI_PTR_V = (s.twPtr + n) % 2 ^ 32 ∧ Changes [.regs, .outbox, .freeCtr] [F.TWI_PTR_V] s t)) ∧
    (∀ n, s.countOk n = false → exec (.brd n ⟨taken, late⟩) s = .next (s.badCommand 7 1)) ∧
    (s.booting = false → exec (.attn taken) s = .next { s with outbox := s.outbox ++ [.twBytes (sent 8 []
      (leBytes 4 (s.reg F.TWI_ATTN_SRC_ALARM + 2 * s.reg F.TWI_ATTN_SRC_CLASS)))] })) ∧
  (∀ (s : State) (taken late : Nat), s.twAnswers = false → exec (.rd4 ⟨taken, late⟩) s = .next s ∧
    exec (.rd8 ⟨taken, late⟩) s = .next s ∧ (∀ n, exec (.brd n ⟨taken, late⟩) s = .next s) ∧
    exec (.attn taken) s = .next s ∧ exec (.evt taken) s = .next s)

/-- EVT, TW_TIMEOUT, BUS_STOP, ATTENTION_PULSE, ATTENTION_REPEAT and ALERT_RESPONSE (R393 to R396, R398, R421): EVT
sends the oldest record, which leaves the FIFO once the controller has taken 32 bytes, or 32 zero bytes; a timeout
abandons the transaction until a STOP, which frees a stuck bus as well; a source that has become pending gives one
pulse, which repeats while it is unanswered; an alert response that wins answers it, but not while the port waits for
a STOP. Where it says more than these rules it rests on the model's readings and choices in notes/assumptions/9.md,
notes/assumptions/41.md and notes/assumptions/42.md. -/
def Obligations.EventsAndAttention : Prop :=
  (∀ (s : State) (taken : Nat), s.twAnswers = true → s.booting = false →
    let sent (bs : List Byte) : List Byte :=
      (bs ++ [pecOf ([s.twAddress, 9, s.twAddress + 1] ++ bs.map (fun (b : Byte) => b.toNat))]
        ++ List.replicate (taken - bs.length) (0xFF : Byte)).take taken
    (∀ r rs, s.flag F.DMA_EVT_EN = false → s.fifo = r :: rs → s.fifoLost = 0 →
      ∃ t, exec (.evt taken) s = .next t ∧ t.fifo = (if taken < 32 then r :: rs else rs) ∧
        t.outbox = s.outbox ++ [.twBytes (sent r.bytes)] ∧ t.dma.evtSent = (if taken < 32 then s.dma.evtSent else s.dma.evtSent - 1) ∧
        (taken < 32 ∨ s.dma.evtSent = 0 → t.dma = s.dma) ∧ Changes [.fifo, .outbox, .dma] [] s t) ∧
    (s.flag F.DMA_EVT_EN = true ∨ s.fifo = [] →
      exec (.evt taken) s = .next { s with outbox := s.outbox ++ [.twBytes (sent (List.replicate 32 0))] })) ∧
  (∀ (s : State) (kind : Nat), (kind = 1 ∨ kind = 2) → s.twAnswers = true →
    ∃ t, exec (.twTimeout kind) s = .next t ∧ t.twi.waitStop = true ∧ t.reg F.TWI_STAT_TIMEOUT = 1 ∧
      Logged s t 0x0B03 [(1, kind)] ∧ Changes logParts (F.TWI_STAT_TIMEOUT :: attnFields) s t) ∧
  (∀ s : State,
    (∃ t, exec .busStop s = .next t ∧ t.twi = { s.twi with waitStop := false } ∧ t.boot = { s.boot with stuck := false } ∧
      (s.clk.refLost = false → t.reg F.CLK_MON_TW_FALLBACK = 0) ∧ Changes [.twi, .boot, .regs] [F.CLK_MON_TW_FALLBACK] s t ∧
      (s.clk.refLost = true → t.regs = s.regs)) ∧
    (s.mayAttend = true → s.twi.newly = true →
      exec .attentionPulse s = .next { s with twi := { s.twi with newly := false }, outbox := s.outbox ++ [.attention] }) ∧
    (s.twi.newly = false → exec .attentionPulse s = .next s) ∧
    (s.mayAttend = true → s.twi.unanswered = true → s.twi.newly = false →
      exec .attentionRepeat s = .next { s with outbox := s.outbox ++ [.attention] }) ∧
    (s.twi.unanswered = false → exec .attentionRepeat s = .next s) ∧
    (s.twi.waitStop = true → exec (.alertResponse true) s = .next s) ∧
    (s.mayAttend = true → s.twi.waitStop = false → s.twi.unanswered = true →
      exec (.alertResponse true) s = .next { s with
        twi := { s.twi with unanswered := false, newly := false },
        outbox := s.outbox ++ [.twBytes [BitVec.ofNat 8 s.twAddress]] }) ∧
    exec (.alertResponse false) s = .next s)

/-! ### Clocks -/

/-- PLL_APPLY, PLL_LOCK, PLL_LOSS and REFERENCE_GOOD (R409 to R411, R416 to R418): a pair that Table CLK-3 lacks is
discarded and logged, and one for PLL-T is ignored while Thyme runs; a good one takes effect, with the outputs gated
and a lock begun; the end of a lock shows it LOCKED in a band, and ungates its outputs but for those that a thermal
shutdown keeps gated, PLL-T and PLL-C until the hold ends and PLL-H and PLL-B until the resume has come to them (Table
HKP-3, R436), with the EVT pins as they are held (R175); the loss of a locked PLL gates it and is counted, and
the loss of the reference loses all five; with the reference good again the locks begin; APPLY reads 1 until its lock
has ended (R5). Where it says more than these rules it rests on the model's readings and choices in
notes/assumptions/4.md, notes/assumptions/9.md and notes/assumptions/43.md. -/
def Obligations.PllStates : Prop :=
  (∀ (s : State) (x : Nat), s.takesWrites → x < 5 →
    let mode := s.reg (F.CLK_PLL_CTL_REF_MODE x)
    let n := s.reg (F.CLK_PLL_CTL_N x)
    (pllPair x mode n = false → exec (.pllApply x) s = .next (s.log 0x0C03 [(1, x), (1, mode), (1, n)])) ∧
    (pllPair x mode n = true →
      (x = 0 → s.isRunning = true → exec (.pllApply x) s = .next (s.writeIgnored (pllCtl x) 5)) ∧
      (s.isRunning = false → s.flag F.DMA_CTL_EN = false → s.clk.refLost = false →
        ∃ t, exec (.pllApply x) s = .next t ∧ t.reg (F.CLK_PLL_STAT_REF_MODE_EFF x) = mode ∧
          t.reg (F.CLK_PLL_STAT_N_EFF x) = n ∧ t.reg (F.CLK_PLL_STAT_LOCKED x) = 0 ∧
          t.reg (F.CLK_PLL_STAT_GATED x) = 1 ∧ t.reg (F.CLK_PLL_STAT_SEARCHING x) = 1 ∧ t.pt = s.pt ∧
          bitAt t.clk.applied x = true ∧
          (s.gated x = true → x ≠ 1 → x ≠ 2 → Changes [.clk, .regs] [F.CLK_PLL_STAT_REF_MODE_EFF x, F.CLK_PLL_STAT_N_EFF x,
            F.CLK_PLL_STAT_LOCKED x, F.CLK_PLL_STAT_GATED x, F.CLK_PLL_STAT_SEARCHING x] s t)))) ∧
  (∀ (s : State) (x : Nat), s.boot.supply = .run → x < 5 →
    (bitAt s.clk.locking x = true → ∃ t, exec (.pllLock x) s = .next t ∧ t.reg (F.CLK_PLL_STAT_LOCKED x) = 1 ∧
      t.reg (F.CLK_PLL_STAT_SEARCHING x) = 0 ∧ t.reg (F.CLK_PLL_STAT_BAND x) < 64 ∧ bitAt t.clk.applied x = false ∧
      (x = 3 → t.reg (F.CLK_PLL_STAT_GATED x) = 0 ∧ ∃ band time, time ≤ 4000 ∧
        Logged s t 0x0C02 [(1, 3), (1, band), (4, time)] ∧ t.reg (F.CLK_PLL_STAT_BAND x) = band) ∧
      (let kept := (s.thermDown && (x == 0 || x == 4)) || ((s.thermDown || s.hkp.resuming.isSome) && (x == 1 || x == 2))
       (kept = false → t.reg (F.CLK_PLL_STAT_GATED x) = 0) ∧
       (kept = true → t.reg (F.CLK_PLL_STAT_GATED x) = 1 ∧
         Changes ([.clk, .freeCtr] ++ logParts) ([F.CLK_PLL_STAT_LOCKED x, F.CLK_PLL_STAT_SEARCHING x,
           F.CLK_PLL_STAT_GATED x, F.CLK_PLL_STAT_BAND x] ++ attnFields) s t))) ∧
    (bitAt s.clk.locking x = false → exec (.pllLock x) s = .next s) ∧
    (∀ cause, (cause = 1 ∨ cause = 3) →
      (s.flag (F.CLK_PLL_STAT_LOCKED x) = true → ∃ t, exec (.pllLoss x cause) s = .next t ∧
        t.reg (F.CLK_PLL_STAT_LOCKED x) = 0 ∧ t.reg (F.CLK_PLL_STAT_GATED x) = 1 ∧
        t.reg (F.CLK_PLL_STAT_LOSS x) = 1 ∧ t.reg (F.CLK_PLL_STAT_LAST_CAUSE x) = cause ∧
        t.reg (F.CLK_PLL_LOSSES_V x) = (s.reg (F.CLK_PLL_LOSSES_V x) + 1) % 2 ^ 32 ∧ t.pt = s.pt) ∧
      (s.flag (F.CLK_PLL_STAT_LOCKED x) = false → exec (.pllLoss x cause) s = .next s)) ∧
    (s.clk.refLost = false → ∃ t, exec (.pllLoss x 2) s = .next t ∧ t.clk.refLost = true ∧
      t.reg F.CLK_MON_XREF_OK = 0 ∧ t.reg F.CLK_MON_XREF_LOST = 1 ∧ t.reg F.CLK_MON_TW_FALLBACK = 1 ∧
      ∀ y, y < 5 → t.reg (F.CLK_PLL_STAT_GATED y) = 1 ∧ t.reg (F.CLK_PLL_STAT_LAST_CAUSE y) = 2 ∧
        t.reg (F.CLK_PLL_STAT_SEARCHING y) = 0) ∧
    (s.clk.refLost = true → exec (.pllLoss x 2) s = .next s)) ∧
  (∀ s : State, s.boot.supply = .run →
    ∃ t, exec .referenceGood s = .next t ∧ t.clk.refLost = false ∧ t.reg F.CLK_MON_XREF_OK = 1 ∧
      (∀ x, x < 5 → s.flag (F.CLK_PLL_STAT_LOCKED x) = false → s.thermDown = false →
        s.clk.halted = false → bitAt t.clk.locking x = true) ∧
      Changes [.clk, .regs] (F.CLK_MON_XREF_OK :: (List.range 5).map F.CLK_PLL_STAT_SEARCHING) s t)

/-! ### Housekeeping, power, the Bay island, JTAG -/

/-- HK_ROUND and THERM_CLR (R425 to R427, R429 to R431, R436): a round is counted and publishes every good
temperature; a sensor above 60 °C warns; a die above its limit in two rounds running, the sensor stack by its largest
valid sensor and a die without a valid reading always, gates the clocks, powers the ports down and shuts the module
down into THERMAL with the hold, as soon as stream 18 has delivered its records; the hold ends with CLR once RESUME_OK
is set, and not before, and with PLL-T and PLL-C relocked HCLK and BCLK run again, launching stays stopped, and the
module is back in its state, STANDBY in place of ACTIVE (Table HKP-8). Where it says more than these rules it rests on
the model's readings and choices in notes/assumptions/9.md and notes/assumptions/45.md. -/
def Obligations.ThermalProtection : Prop :=
  (∀ (s : State) (readings : List (Nat × Bool)), s.boot.supply = .run → readings.length = 16 →
    (∀ x ∈ readings, x.1 < 65536) →
    ∃ t, exec (.hkRound readings) s = .next t ∧ t.reg F.HKP_ROUND_V = (s.reg F.HKP_ROUND_V + 1) % 2 ^ 32 ∧ t.pt = s.pt ∧
      (∀ n v good, n < 11 → readings[n]? = some (v, good) → t.reg (F.HKP_CH_VALID n) = boolBit good ∧
        t.reg (F.HKP_CH_VALUE n) = (if good then v else s.reg (F.HKP_CH_VALUE n))) ∧
      (∀ n v, n < 8 → readings[n]? = some (v, true) → 960 < signedOf 16 v → t.reg F.HKP_THERM_WARN = 1) ∧
      (∀ d, d < 3 → s.thermDown = false → bitAt s.hkp.above d = true →
        (d = 0 ∧ ((∃ n v, n < 8 ∧ readings[n]? = some (v, true) ∧ 1600 < signedOf 16 v) ∨
            ∀ n, n < 8 → ∃ v, readings[n]? = some (v, false)) ∨
          1 ≤ d ∧ ((∃ v, readings[7 + d]? = some (v, false)) ∨
            ∃ v, readings[7 + d]? = some (v, true) ∧ (if d = 1 then 1840 else 1520) < signedOf 16 v)) →
        t.thermDown = true ∧ bitAt (t.reg F.HKP_THERM_DIES) d = true ∧ t.reg (F.CLK_PLL_STAT_GATED 0) = 1 ∧
          t.reg (F.CLK_PLL_STAT_GATED 1) = 1 ∧ t.reg (F.CLK_PLL_STAT_GATED 2) = 1 ∧
          t.reg (F.CLK_PLL_STAT_GATED 4) = 1 ∧ t.portState 0 = 0 ∧ t.portState 1 = 0 ∧
          bitAt t.arr.kills 1 = true ∧
          ((∀ r, r < 16 → (s.ring r).stream = some 18 → s.ringUsed r = false) →
            t.reg F.HKP_THERM_HOLD = 1 ∧ t.reg F.HKP_PWR_STATE = 4 ∧ t.reg F.HKP_THERM_TRIPPED = 1 ∧
              t.reg F.HKP_THERM_CNT_V = (s.reg F.HKP_THERM_CNT_V + 1) % 2 ^ 32))) ∧
  (∀ (s : State) (readings : List (Nat × Bool)), s.boot.supply ≠ .run → exec (.hkRound readings) s = .next s) ∧
  (∀ s : State, s.boot.supply = .run → s.flag F.HKP_THERM_HOLD = true →
    (s.flag F.HKP_THERM_RESUME_OK = true → ∃ t, exec .thermClr s = .next t ∧ t.reg F.HKP_THERM_HOLD = 0 ∧
      t.held = none ∧ t.hkp = { s.hkp with resuming := some s.pt } ∧
      t.reg F.HKP_PWR_STATE = s.reg F.HKP_PWR_STATE ∧ t.pt = s.pt ∧
      t.reg (F.CLK_PLL_STAT_GATED 1) = s.reg (F.CLK_PLL_STAT_GATED 1) ∧
      t.reg (F.CLK_PLL_STAT_GATED 2) = s.reg (F.CLK_PLL_STAT_GATED 2) ∧
      (s.clk.refLost = false → bitAt t.clk.locking 4 = true ∧ (s.clk.halted = false → bitAt t.clk.locking 0 = true))) ∧
    (s.flag F.HKP_THERM_RESUME_OK = false → exec .thermClr s = .next (s.writeIgnored 0x110300 5))) ∧
  (∀ s : State, s.boot.supply = .run → s.hkp.resuming.isSome = true → s.thermDown = false → s.boot.halted = false →
    5 ≤ s.reg F.CFG_BOOT_STAT_PHASE → s.clk.halted = false → bitAt s.clk.locking 0 = true →
    s.gated 4 = false → s.clk.ptMode ≠ .off → s.settled F.THY_CTL_RUNNING →
    ∃ t, exec (.pllLock 0) s = .next t ∧ t.hkp.resuming = none ∧ t.pt = s.pt ∧ t.isRunning = false ∧
      (s.hkp.left = 1 ∨ s.hkp.left = 2 → t.reg F.HKP_PWR_STATE = s.hkp.left) ∧
      (s.hkp.left = 3 → t.reg F.HKP_PWR_STATE = 2) ∧
      ∀ x, (x = 1 ∨ x = 2) → s.reg (F.CLK_PLL_STAT_LOCKED x) = 1 → t.reg (F.CLK_PLL_STAT_GATED x) = 0)

/-- LOG_ACK, ACK_ALL, SLEEP and BROWN_OUT (R434, R435, R440, R442): an acknowledged record carries its mark, and no
other changes; a record whose CRC fails counts as empty; SLEEP is entered from SAFE or STANDBY with LFCLK good, and
ignored otherwise: it reads 1 from then on (R5), the ports power down and press time leaves the ticks once stream 18
has delivered its records, and the LFCLK edge that takes press time over puts the main domains to sleep; a rail that
falls below its warning level resets the module, with a record kept, and the main power is not gone while another rail
is on (R474). Where it says more than these rules it rests on
the model's readings and choices in notes/assumptions/9.md and notes/assumptions/49.md. -/
def Obligations.LogSleepAndBrownOut : Prop :=
  (∀ s : State, s.takesWrites →
    (∀ b, Assoc.find s.hkp.log (s.reg F.HKP_LOG_ACK_INDEX) = some b →
      recKind (s.logRecord (s.reg F.HKP_LOG_ACK_INDEX)) ≠ 0 → exec .logAck s = .next { s with
        hkp := { s.hkp with log := Assoc.insert s.hkp.log (s.reg F.HKP_LOG_ACK_INDEX) (setAt b 2 1) } }) ∧
    (Assoc.find s.hkp.log (s.reg F.HKP_LOG_ACK_INDEX) = none ∨ recKind (s.logRecord (s.reg F.HKP_LOG_ACK_INDEX)) = 0 →
      exec .logAck s = .next s) ∧
    (Assoc.rising s.hkp.log = true → ∃ t, exec .ackAll s = .next t ∧ OnlyIn [.hkp] s t ∧
      ∀ i, i < 64 → Assoc.find t.hkp.log i =
        (Assoc.find s.hkp.log i).map (fun b => if recKind (s.logRecord i) = 0 then b else setAt b 2 1)) ∧
    ((s.reg F.HKP_PWR_STATE = 1 ∨ s.reg F.HKP_PWR_STATE = 2) → s.isRunning = false → s.flag F.CLK_MON_LF_OK = true →
      s.thermDown = false → s.hkp.resuming = none →
      ∃ t, exec .sleep s = .next t ∧ t.reg F.HKP_PWR_STATE = 5 ∧ t.readField 0 F.HKP_PWR_SLEEP = 1 ∧ t.pt = s.pt ∧
        (s.dma.drain = false → s.hkp.sleeping = false → (∀ r, r < 16 → (s.ring r).stream = some 18 → s.ringUsed r = false) →
          t.hkp.sleeping = true ∧ (s.clk.ptMode = .ticks → t.clk.ptMode = .lfEnter) ∧ t.portState 0 = 0 ∧
            t.portState 1 = 0)) ∧
    (¬ ((s.reg F.HKP_PWR_STATE = 1 ∨ s.reg F.HKP_PWR_STATE = 2) ∧ s.isRunning = false ∧
        s.flag F.CLK_MON_LF_OK = true ∧ s.thermDown = false) → exec .sleep s = .next (s.writeIgnored 0x110400 5))) ∧
  (∀ s : State, s.boot.supply = .run → s.hkp.sleeping = true → s.clk.ptMode = .lfEnter → s.clk.lfLost = false →
    s.bay.vaux = true →
    ∃ t, exec .lfclkEdge s = .next t ∧ t.boot.supply = .sleep ∧ t.pt = s.pt ∧ t.isRunning = false) ∧
  (∀ (s : State) (rail mv : Nat), rail < 4 →
    (s.boot.supply = .run → mv < railWarning rail → s.bay.vaux = true →
      ∃ t, exec (.brownOut rail mv) s = .next t ∧ t.boot.supply = .reset ∧ t.bay.railsGood = false ∧
        t.hkp.brownouts = s.hkp.brownouts + 1 ∧ t.reg F.HKP_PWR_BROWNOUT = 1 ∧ t.pt = 0 ∧ t.isRunning = false ∧
        (Assoc.find t.hkp.log (s.reg F.HKP_LOG_STAT_NEXT)).isSome = true ∧ bitAt t.arr.kills 2 = true ∧
        (s.bay.railsOff = 0 → t.mainPower = true)) ∧
    (railWarning rail ≤ mv → exec (.brownOut rail mv) s = .next s))

/-- WAKE, VAUX_LOSS, VAUX_RETURN, CELL_CUTOFF, COLD_START and BOUNDARY_SCAN_INSTRUCTION (R448 to R451, R453, R454,
R476, Table BAY-2): an enabled source requests a wake from SLEEP and is recorded; the Bay rail moves to the cell and
back; on the cell RESET is BAY; without a cell the island is lost; a cold start begins in RESET, or in BAY on a cell;
EXTEST and INTEST take the strobes while Thyme is stopped, and after the scan no strobe is high under a kill whose
condition stands; without the main rails the port is dead. That the bytes of memory then lost read as 0 is the model's
choice in notes/assumptions/2.md. Where it says more than these rules it rests on the model's readings and choices in
notes/assumptions/9.md, notes/assumptions/48.md, notes/assumptions/52.md and notes/assumptions/67.md. -/
def Obligations.BayPowerPath : Prop :=
  (∀ (s : State) (source : Nat), s.boot.supply = .sleep → s.bay.wake = none → s.bay.railsGood = false →
    (s.wakeEnabled source = true → ∃ t, exec (.wake source) s = .next t ∧
      t.bay = { s.bay with wake := some source, wakeDue := some source } ∧ t.reg F.BAY_STAT_WAKE_SRC = source ∧
      t.railReq = some true ∧ Changes [.bay, .regs] [F.BAY_STAT_WAKE_SRC] s t) ∧
    (s.wakeEnabled source = false → exec (.wake source) s = .next s)) ∧
  (∀ s : State,
    (s.bay.vaux = false → exec .vauxLoss s = .next s) ∧
    (s.bay.vaux = true → exec .vauxReturn s = .next s) ∧
    (s.bay.vaux = true → s.boot.supply = .reset → ∃ t, exec .vauxLoss s = .next t ∧ t.boot.supply = .bay false ∧
      t.bay.vaux = false ∧ t.reg F.BAY_STAT_RAIL_SRC = 1 ∧ t.reg F.BAY_STAT_WAS_BAY = 1 ∧ t.mem = s.mem) ∧
    (s.bay.vaux = true → s.boot.supply = .run → s.bay.moved = false → ∃ t, exec .vauxLoss s = .next t ∧
      t.boot.supply = .run ∧ t.bay.vaux = false ∧ t.reg F.BAY_STAT_RAIL_SRC = 1 ∧ t.reg F.BAY_CELL_TIME_V = 0 ∧
      t.bay.runs = false ∧ t.mem = s.mem) ∧
    (s.bay.vaux = false → s.boot.supply = .bay false → s.bay.railsGood = false →
      ∃ t, exec .vauxReturn s = .next t ∧ t.boot.supply = .reset ∧ t.bay.vaux = true ∧
        t.reg F.BAY_STAT_RAIL_SRC = 0 ∧ t.mem = s.mem) ∧
    (s.boot.supply ≠ .off → s.flag F.BAY_STAT_RAIL_SRC = true → ∃ t, exec .cellCutoff s = .next t ∧
      t.boot.supply = .off ∧ t.mem = [] ∧ t.pt = 0) ∧
    (s.flag F.BAY_STAT_RAIL_SRC = false → exec .cellCutoff s = .next s) ∧
    (s.boot.supply = .off → ∃ t, exec .coldStart s = .next t ∧
      t.boot.supply = (if s.bay.vaux then .reset else .bay false) ∧ t.reg F.BAY_STAT_COLD = 1 ∧
      t.reg F.BAY_STAT_RAIL_SRC = boolBit (!s.bay.vaux)) ∧
    (s.boot.supply ≠ .off → exec .coldStart s = .next s)) ∧
  (∀ (s : State) (ir : Nat),
    (s.mainPower = false → exec (.boundaryScanInstruction ir) s = .next s) ∧
    (s.mainPower = true →
      ((ir = 1 ∨ ir = 2) → s.isRunning = false → ∃ t, exec (.boundaryScanInstruction ir) s = .next t ∧
        t.jtag.ir = some ir ∧ t.jtag.scan = true ∧ t.jtag.strobes < 64 ∧ Changes [.jtag, .freeCtr] [] s t) ∧
      (¬ ((ir = 1 ∨ ir = 2) ∧ s.isRunning = false) →
        (s.jtag.scan = false → exec (.boundaryScanInstruction ir) s = .next { s with jtag := ⟨.other, some ir, false, 0⟩ }) ∧
        (s.jtag.scan = true → ∃ t, exec (.boundaryScanInstruction ir) s = .next t ∧
          t.jtag = ⟨.other, some ir, false, 0⟩ ∧ t.pt = s.pt ∧ t.mem = s.mem ∧
          ((∃ c, c < 4 ∧ bitAt s.arr.kills c = true) → s.arr.strobes.length = 6 → ∀ n since, n < 6 → t.strobe n ≠ .high since)))))

/-- CHARGER_TICK, CHG_FAULT_CLR and CHG_RESTART (R456 to R458, R463, Table BAY-3): a charger that is OFF does not tick;
a second tick of QUALIFY goes to PRE below 3,000 mV and to FAST otherwise, and shows the mean of the tick, 625 mV of the
NTC as 25 °C; outside the temperature window TEMP_HOLD begins with it, and no current flows; a shorted
NTC is FAULT with code 3; FAULT_CLR clears the code and leaves FAULT for QUALIFY; RESTART goes to QUALIFY from any
state but FAULT. Where it says more than these rules it rests on the model's readings and choices in
notes/assumptions/4.md, notes/assumptions/9.md and notes/assumptions/47.md. -/
def Obligations.ChargerStates : Prop :=
  (∀ s : State, s.bay.runs = false → exec .chargerTick s = .next s) ∧
  (∀ (s : State) (v n m k : Nat), s.bay.runs = true → s.bay.cellSum = (v, n) → n ≠ 0 → v / n ≤ 5400 →
    s.bay.ntcSum = (m, k) → k ≠ 0 →
    (s.reg F.BAY_CHG_STAT_STATE = 1 → 50 < m / k → s.bay.ticks = 1 →
      ∃ t, exec .chargerTick s = .next t ∧ t.reg F.BAY_CHG_STAT_STATE = (if v / n < 3000 then 2 else 3) ∧
        t.reg F.BAY_CELL_VOLT = v / n ∧ t.bay.cellSum = (0, 0) ∧ t.pt = s.pt ∧
        (m / k = 625 → t.reg F.BAY_CELL_TEMP = 400) ∧
        t.bay.hold = (s.bay.hold || decide (ntcCode (m / k) < 80 ∨ 720 < ntcCode (m / k))) ∧
        (t.bay.hold = true → t.reg F.BAY_CHG_STAT_CURRENT = 0)) ∧
    (1 ≤ s.reg F.BAY_CHG_STAT_STATE → s.reg F.BAY_CHG_STAT_STATE ≤ 5 → m / k ≤ 50 →
      ∃ t, exec .chargerTick s = .next t ∧ t.reg F.BAY_CHG_STAT_STATE = 6 ∧ t.reg F.BAY_CHG_STAT_FAULT = 3 ∧
        t.reg F.BAY_CHG_STAT_FAULTED = 1 ∧ t.reg F.BAY_CHG_STAT_CURRENT = 0)) ∧
  (∀ s : State, s.takesWrites →
    (s.reg F.BAY_CHG_STAT_STATE ≠ 6 → exec .chgFaultClr s = .next (s.setReg F.BAY_CHG_STAT_FAULT 0)) ∧
    (s.reg F.BAY_CHG_STAT_STATE = 6 → ∃ t, exec .chgFaultClr s = .next t ∧ t.reg F.BAY_CHG_STAT_FAULT = 0 ∧
      t.reg F.BAY_CHG_STAT_STATE = 1 ∧ t.reg F.BAY_CHG_ELAPSED_V = 0) ∧
    (s.bay.runs = true → s.reg F.BAY_CHG_STAT_STATE ≠ 6 → ∃ t, exec .chgRestart s = .next t ∧
      t.reg F.BAY_CHG_STAT_STATE = 1 ∧ t.reg F.BAY_CHG_ELAPSED_V = 0) ∧
    (s.reg F.BAY_CHG_STAT_STATE = 6 → exec .chgRestart s = .next s))

/-! ### What every step keeps -/

/-- Every step keeps the canonical form of the memory: addresses rise strictly, and no entry is what an unlisted byte
reads as. The form holds at reset (`Obligations.ResetLeavesTheResetValues`). What an unlisted byte reads as is the
model's choice (notes/assumptions/2.md). -/
def Obligations.StepKeepsTheMemoryForm : Prop :=
  ∀ s t : State, s.memOk → step s = .next t → t.memOk

/-- Every step that answers a next state leaves the queue of commands without its front one and with the rest in its
order, and keeps the event FIFO at 256 records or fewer (R345). Both are empty at reset. The queue is the model's
(notes/assumptions/8.md). -/
def Obligations.StepKeepsTheQueues : Prop :=
  ∀ s t : State, step s = .next t → t.pending = s.pending.tail ∧ (s.fifoOk → t.fifoOk)

/-- Every step keeps the shape of the state: the fixed numbers of counters, groups, strobes, detectors, pins, streams,
ports and rings, and the rising keys of the shadow and of the reliability log. The shape holds at reset. The lists are
the model's own form of what the spec counts. -/
def Obligations.StepKeepsTheShape : Prop :=
  ∀ s t : State, s.shapeOk → step s = .next t → t.shapeOk
end

