-- ==== Sys2Proof/Laws/Bank.lean ====
section
/-! SUPPORT. Laws of the sorted lists, of the register bank and of the memory: a read after a write, the writes that
leave a place alone, and the canonical form that every write keeps. -/

namespace Sys2Proof.Machine

variable {α : Type}

/-! ### Sorted lists -/

theorem Assoc.find_erase_same (m : Assoc α) (k : Nat) : (m.erase k).find k = none := by
  induction m with
  | nil => rfl
  | cons c r ih => obtain ⟨k', v⟩ := c; simp only [Assoc.erase]; split <;> simp_all [Assoc.find]

theorem Assoc.find_erase_ne (m : Assoc α) {k j : Nat} (h : j ≠ k) : (m.erase k).find j = m.find j := by
  induction m with
  | nil => rfl
  | cons c r ih =>
    obtain ⟨k', v⟩ := c
    simp only [Assoc.erase]
    split
    · subst_vars; simp [Assoc.find, ih, Ne.symm h]
    · simp [Assoc.find, ih]

theorem Assoc.find_insert_same (m : Assoc α) (k : Nat) (v : α) : (m.insert k v).find k = some v := by
  induction m with
  | nil => simp [Assoc.insert, Assoc.find]
  | cons c r ih =>
    obtain ⟨k', w⟩ := c
    simp only [Assoc.insert]
    split
    · simp [Assoc.find]
    · split
      · simp [Assoc.find]
      · rename_i h; simp [Assoc.find, h, ih]

theorem Assoc.find_insert_ne (m : Assoc α) {k j : Nat} (v : α) (h : j ≠ k) : (m.insert k v).find j = m.find j := by
  induction m with
  | nil => simp [Assoc.insert, Assoc.find, Ne.symm h]
  | cons c r ih =>
    obtain ⟨k', w⟩ := c
    simp only [Assoc.insert]
    split
    · simp [Assoc.find, Ne.symm h]
    · split
      · subst_vars; simp [Assoc.find, Ne.symm h]
      · simp [Assoc.find, ih]

/-- The keys of a list rise from above `lo`. -/
theorem Assoc.risingFrom_erase (m : Assoc α) (lo : Option Nat) (k : Nat) (h : Assoc.risingFrom lo m = true) :
    Assoc.risingFrom lo (m.erase k) = true := by
  induction m generalizing lo with
  | nil => cases lo <;> rfl
  | cons c r ih =>
    obtain ⟨k', v⟩ := c
    have weaken : ∀ (a : Nat) (b : Option Nat) (l : Assoc α), (∀ x, b = some x → x < a) →
        Assoc.risingFrom (some a) l = true → Assoc.risingFrom b l = true := by
      intro a b l hb hl
      cases l with
      | nil => cases b <;> rfl
      | cons d t =>
        cases b with
        | none => simp_all [Assoc.risingFrom]
        | some x => have := hb x rfl; simp_all [Assoc.risingFrom]; omega
    have hr : Assoc.risingFrom (some k') r = true ∧ ∀ x, lo = some x → x < k' := by
      cases lo <;> simp_all [Assoc.risingFrom]
    simp only [Assoc.erase]
    split
    · exact ih lo (weaken k' lo r hr.2 hr.1)
    · have := ih (some k') hr.1
      cases lo with
      | none => simpa [Assoc.risingFrom] using this
      | some x => simp [Assoc.risingFrom, this, hr.2 x rfl]

theorem Assoc.risingFrom_insert (m : Assoc α) (lo : Option Nat) (k : Nat) (v : α) (hk : ∀ x, lo = some x → x < k)
    (h : Assoc.risingFrom lo m = true) : Assoc.risingFrom lo (m.insert k v) = true := by
  induction m generalizing lo with
  | nil => cases lo <;> simp_all [Assoc.insert, Assoc.risingFrom]
  | cons c r ih =>
    obtain ⟨k', w⟩ := c
    have hr : Assoc.risingFrom (some k') r = true ∧ ∀ x, lo = some x → x < k' := by
      cases lo <;> simp_all [Assoc.risingFrom]
    simp only [Assoc.insert]
    split
    · rename_i hlt
      cases lo <;> simp_all [Assoc.risingFrom]
    · split
      · subst_vars; cases lo <;> simp_all [Assoc.risingFrom]
      · have hlt : k' < k := by omega
        have := ih (some k') (by intro x hx; cases hx; exact hlt) hr.1
        cases lo with
        | none => simpa [Assoc.risingFrom] using this
        | some x => simp [Assoc.risingFrom, this, hr.2 x rfl]

/-! ### The register bank (00_scope.md R7) -/

/-- A field that has been set reads the value cut to its width. -/
theorem Bank.get_set_same (b : Bank) (f : Field) (v : Nat) : (b.set f v).get f = v % 2 ^ f.w := by
  simp only [Bank.set]
  split
  · rename_i h; simp only [Bank.get, Assoc.find_erase_same]; exact h.symm
  · simp [Bank.get, Assoc.find_insert_same]

/-- Setting a field leaves every other cell alone. -/
theorem Bank.get_set_ne (b : Bank) {f g : Field} (v : Nat) (h : g.key ≠ f.key) : (b.set f v).get g = b.get g := by
  simp only [Bank.set]
  split
  · simp [Bank.get, Assoc.find_erase_ne _ h]
  · simp [Bank.get, Assoc.find_insert_ne _ _ h]

/-- A field set reads back through a state. -/
theorem State.reg_setReg_same (s : State) (f : Field) (v : Nat) : (s.setReg f v).reg f = v % 2 ^ f.w :=
  Bank.get_set_same s.regs f v

/-- The read of a field set, where the place asked is the field's own. -/
theorem State.reg_setReg (s : State) (f g : Field) (v : Nat) (h : g = f) : (s.setReg f v).reg g = v % 2 ^ f.w := by
  subst h; exact s.reg_setReg_same g v

theorem State.reg_setReg_ne (s : State) {f g : Field} (v : Nat) (h : g.key ≠ f.key) :
    (s.setReg f v).reg g = s.reg g := Bank.get_set_ne s.regs v h

/-! ### The memory (10_host_interface_and_dma.md, Table DMA-2) -/

/-- A write of a byte keeps the canonical form. -/
theorem Memory.wf_writeByte (m : List Host.Cell) (a : Nat) (v : Byte) (h : Memory.wf m = true) :
    Memory.wf (writeByte m a v) = true := by
  have erased : ∀ (l : List Host.Cell) (k : Nat), l.all (fun c => c.2 != unwrittenByte) = true →
      (Assoc.erase l k).all (fun c => c.2 != unwrittenByte) = true := by
    intro l k hl
    induction l with
    | nil => rfl
    | cons c r ih =>
      rw [List.all_cons, Bool.and_eq_true] at hl
      simp only [Assoc.erase]
      split
      · exact ih hl.2
      · rw [List.all_cons, Bool.and_eq_true]; exact ⟨hl.1, ih hl.2⟩
  have inserted : ∀ (l : List Host.Cell) (k : Nat) (x : Byte), x ≠ unwrittenByte →
      l.all (fun c => c.2 != unwrittenByte) = true →
      (Assoc.insert l k x).all (fun c => c.2 != unwrittenByte) = true := by
    intro l k x hx hl
    have hx' : (x != unwrittenByte) = true := by simpa using hx
    induction l with
    | nil => simpa [Assoc.insert] using hx
    | cons c r ih =>
      rw [List.all_cons, Bool.and_eq_true] at hl
      simp only [Assoc.insert]
      split
      · rw [List.all_cons, List.all_cons, hx', hl.1, hl.2]; rfl
      · split
        · rw [List.all_cons, hx', hl.2]; rfl
        · rw [List.all_cons, hl.1, ih hl.2]; rfl
  simp only [Memory.wf, Bool.and_eq_true, Assoc.rising] at h ⊢
  unfold writeByte
  split
  · exact ⟨Assoc.risingFrom_erase m none a h.1, erased m a h.2⟩
  · rename_i hv
    exact ⟨Assoc.risingFrom_insert m none a v (by simp) h.1, inserted m a v hv h.2⟩

/-- A write of bytes keeps the canonical form. -/
theorem Memory.wf_writeBytes (m : List Host.Cell) (a : Nat) (bs : List Byte) (h : Memory.wf m = true) :
    Memory.wf (writeBytes m a bs) = true := by
  induction bs generalizing m a with
  | nil => exact h
  | cons b r ih => exact ih _ _ (Memory.wf_writeByte m a b h)

/-- A byte written reads back. -/
theorem readByte_writeByte_same (m : List Host.Cell) (a : Nat) (v : Byte) : readByte (writeByte m a v) a = v := by
  unfold writeByte
  split
  · rename_i h; simp [readByte, Assoc.find_erase_same, h]
  · simp [readByte, Assoc.find_insert_same]

/-- A write of a byte leaves every other byte alone. -/
theorem readByte_writeByte_ne (m : List Host.Cell) {a c : Nat} (v : Byte) (h : c ≠ a) :
    readByte (writeByte m a v) c = readByte m c := by
  unfold writeByte
  split
  · simp [readByte, Assoc.find_erase_ne _ h]
  · simp [readByte, Assoc.find_insert_ne _ _ h]

/-- Bytes written leave every byte outside their range alone. -/
theorem readByte_writeBytes_outside (m : List Host.Cell) (a : Nat) (bs : List Byte) (c : Nat)
    (h : c < a ∨ a + bs.length ≤ c) : readByte (writeBytes m a bs) c = readByte m c := by
  induction bs generalizing m a with
  | nil => rfl
  | cons b r ih =>
    simp only [List.length_cons] at h
    rw [writeBytes, ih _ _ (by omega), readByte_writeByte_ne _ _ (by omega)]

/-- Bytes written read back, each at its place. -/
theorem readByte_writeBytes_inside (m : List Host.Cell) (a : Nat) (bs : List Byte) (i : Nat) (h : i < bs.length) :
    readByte (writeBytes m a bs) (a + i) = bs[i] := by
  induction bs generalizing m a i with
  | nil => simp at h
  | cons b r ih =>
    cases i with
    | zero => rw [writeBytes, readByte_writeBytes_outside _ _ _ _ (by omega)]; simp [readByte_writeByte_same]
    | succ i =>
      have := ih (writeByte m a b) (a + 1) i (by simpa using h)
      rw [writeBytes, show a + (i + 1) = a + 1 + i by omega, this]; rfl

/-- The bytes of a range written read back as they were written. -/
theorem readBytes_writeBytes (m : List Host.Cell) (a : Nat) (bs : List Byte) :
    readBytes (writeBytes m a bs) a bs.length = bs := by
  induction bs generalizing m a with
  | nil => rfl
  | cons b r ih =>
    simp only [List.length_cons, readBytes, writeBytes]
    rw [ih, readByte_writeBytes_outside _ _ _ _ (by omega), readByte_writeByte_same]

end Sys2Proof.Machine
end

