-- ==== Sys2Proof/Laws/State.lean ====
section
/-! SUPPORT. What each named update of the state leaves alone, one lemma per field and update. -/

namespace Sys2Proof.Machine

/-! ### Updates that are one record update -/

@[simp] theorem State.setReg_pending (s : State) (f : Field) (v : Nat) : (s.setReg f v).pending = s.pending := rfl
@[simp] theorem State.setReg_shadow (s : State) (f : Field) (v : Nat) : (s.setReg f v).shadow = s.shadow := rfl
@[simp] theorem State.setReg_live (s : State) (f : Field) (v : Nat) : (s.setReg f v).live = s.live := rfl
@[simp] theorem State.setReg_pt (s : State) (f : Field) (v : Nat) : (s.setReg f v).pt = s.pt := rfl
@[simp] theorem State.setReg_lines (s : State) (f : Field) (v : Nat) : (s.setReg f v).lines = s.lines := rfl
@[simp] theorem State.setReg_ptc (s : State) (f : Field) (v : Nat) : (s.setReg f v).ptc = s.ptc := rfl
@[simp] theorem State.setReg_thy (s : State) (f : Field) (v : Nat) : (s.setReg f v).thy = s.thy := rfl
@[simp] theorem State.setReg_arr (s : State) (f : Field) (v : Nat) : (s.setReg f v).arr = s.arr := rfl
@[simp] theorem State.setReg_cnv (s : State) (f : Field) (v : Nat) : (s.setReg f v).cnv = s.cnv := rfl
@[simp] theorem State.setReg_lfl (s : State) (f : Field) (v : Nat) : (s.setReg f v).lfl = s.lfl := rfl
@[simp] theorem State.setReg_cal (s : State) (f : Field) (v : Nat) : (s.setReg f v).cal = s.cal := rfl
@[simp] theorem State.setReg_pip (s : State) (f : Field) (v : Nat) : (s.setReg f v).pip = s.pip := rfl
@[simp] theorem State.setReg_sor (s : State) (f : Field) (v : Nat) : (s.setReg f v).sor = s.sor := rfl
@[simp] theorem State.setReg_chv (s : State) (f : Field) (v : Nat) : (s.setReg f v).chv = s.chv := rfl
@[simp] theorem State.setReg_clk (s : State) (f : Field) (v : Nat) : (s.setReg f v).clk = s.clk := rfl
@[simp] theorem State.setReg_commit (s : State) (f : Field) (v : Nat) : (s.setReg f v).commit = s.commit := rfl
@[simp] theorem State.setReg_twi (s : State) (f : Field) (v : Nat) : (s.setReg f v).twi = s.twi := rfl
@[simp] theorem State.setReg_boot (s : State) (f : Field) (v : Nat) : (s.setReg f v).boot = s.boot := rfl
@[simp] theorem State.setReg_jtag (s : State) (f : Field) (v : Nat) : (s.setReg f v).jtag = s.jtag := rfl
@[simp] theorem State.setReg_hkp (s : State) (f : Field) (v : Nat) : (s.setReg f v).hkp = s.hkp := rfl
@[simp] theorem State.setReg_bay (s : State) (f : Field) (v : Nat) : (s.setReg f v).bay = s.bay := rfl
@[simp] theorem State.setReg_dma (s : State) (f : Field) (v : Nat) : (s.setReg f v).dma = s.dma := rfl
@[simp] theorem State.setReg_held (s : State) (f : Field) (v : Nat) : (s.setReg f v).held = s.held := rfl
@[simp] theorem State.setReg_fifo (s : State) (f : Field) (v : Nat) : (s.setReg f v).fifo = s.fifo := rfl
@[simp] theorem State.setReg_fifoLost (s : State) (f : Field) (v : Nat) : (s.setReg f v).fifoLost = s.fifoLost := rfl
@[simp] theorem State.setReg_evtSeq (s : State) (f : Field) (v : Nat) : (s.setReg f v).evtSeq = s.evtSeq := rfl
@[simp] theorem State.setReg_outbox (s : State) (f : Field) (v : Nat) : (s.setReg f v).outbox = s.outbox := rfl
@[simp] theorem State.setReg_mem (s : State) (f : Field) (v : Nat) : (s.setReg f v).mem = s.mem := rfl
@[simp] theorem State.setReg_freeCtr (s : State) (f : Field) (v : Nat) : (s.setReg f v).freeCtr = s.freeCtr := rfl

@[simp] theorem State.setFlag_pending (s : State) (f : Field) (b : Bool) : (s.setFlag f b).pending = s.pending := rfl
@[simp] theorem State.setFlag_shadow (s : State) (f : Field) (b : Bool) : (s.setFlag f b).shadow = s.shadow := rfl
@[simp] theorem State.setFlag_live (s : State) (f : Field) (b : Bool) : (s.setFlag f b).live = s.live := rfl
@[simp] theorem State.setFlag_pt (s : State) (f : Field) (b : Bool) : (s.setFlag f b).pt = s.pt := rfl
@[simp] theorem State.setFlag_lines (s : State) (f : Field) (b : Bool) : (s.setFlag f b).lines = s.lines := rfl
@[simp] theorem State.setFlag_ptc (s : State) (f : Field) (b : Bool) : (s.setFlag f b).ptc = s.ptc := rfl
@[simp] theorem State.setFlag_thy (s : State) (f : Field) (b : Bool) : (s.setFlag f b).thy = s.thy := rfl
@[simp] theorem State.setFlag_arr (s : State) (f : Field) (b : Bool) : (s.setFlag f b).arr = s.arr := rfl
@[simp] theorem State.setFlag_cnv (s : State) (f : Field) (b : Bool) : (s.setFlag f b).cnv = s.cnv := rfl
@[simp] theorem State.setFlag_lfl (s : State) (f : Field) (b : Bool) : (s.setFlag f b).lfl = s.lfl := rfl
@[simp] theorem State.setFlag_cal (s : State) (f : Field) (b : Bool) : (s.setFlag f b).cal = s.cal := rfl
@[simp] theorem State.setFlag_pip (s : State) (f : Field) (b : Bool) : (s.setFlag f b).pip = s.pip := rfl
@[simp] theorem State.setFlag_sor (s : State) (f : Field) (b : Bool) : (s.setFlag f b).sor = s.sor := rfl
@[simp] theorem State.setFlag_chv (s : State) (f : Field) (b : Bool) : (s.setFlag f b).chv = s.chv := rfl
@[simp] theorem State.setFlag_clk (s : State) (f : Field) (b : Bool) : (s.setFlag f b).clk = s.clk := rfl
@[simp] theorem State.setFlag_commit (s : State) (f : Field) (b : Bool) : (s.setFlag f b).commit = s.commit := rfl
@[simp] theorem State.setFlag_twi (s : State) (f : Field) (b : Bool) : (s.setFlag f b).twi = s.twi := rfl
@[simp] theorem State.setFlag_boot (s : State) (f : Field) (b : Bool) : (s.setFlag f b).boot = s.boot := rfl
@[simp] theorem State.setFlag_jtag (s : State) (f : Field) (b : Bool) : (s.setFlag f b).jtag = s.jtag := rfl
@[simp] theorem State.setFlag_hkp (s : State) (f : Field) (b : Bool) : (s.setFlag f b).hkp = s.hkp := rfl
@[simp] theorem State.setFlag_bay (s : State) (f : Field) (b : Bool) : (s.setFlag f b).bay = s.bay := rfl
@[simp] theorem State.setFlag_dma (s : State) (f : Field) (b : Bool) : (s.setFlag f b).dma = s.dma := rfl
@[simp] theorem State.setFlag_held (s : State) (f : Field) (b : Bool) : (s.setFlag f b).held = s.held := rfl
@[simp] theorem State.setFlag_fifo (s : State) (f : Field) (b : Bool) : (s.setFlag f b).fifo = s.fifo := rfl
@[simp] theorem State.setFlag_fifoLost (s : State) (f : Field) (b : Bool) : (s.setFlag f b).fifoLost = s.fifoLost := rfl
@[simp] theorem State.setFlag_evtSeq (s : State) (f : Field) (b : Bool) : (s.setFlag f b).evtSeq = s.evtSeq := rfl
@[simp] theorem State.setFlag_outbox (s : State) (f : Field) (b : Bool) : (s.setFlag f b).outbox = s.outbox := rfl
@[simp] theorem State.setFlag_mem (s : State) (f : Field) (b : Bool) : (s.setFlag f b).mem = s.mem := rfl
@[simp] theorem State.setFlag_freeCtr (s : State) (f : Field) (b : Bool) : (s.setFlag f b).freeCtr = s.freeCtr := rfl

@[simp] theorem State.addReg_pending (s : State) (f : Field) (n : Nat) : (s.addReg f n).pending = s.pending := rfl
@[simp] theorem State.addReg_shadow (s : State) (f : Field) (n : Nat) : (s.addReg f n).shadow = s.shadow := rfl
@[simp] theorem State.addReg_live (s : State) (f : Field) (n : Nat) : (s.addReg f n).live = s.live := rfl
@[simp] theorem State.addReg_pt (s : State) (f : Field) (n : Nat) : (s.addReg f n).pt = s.pt := rfl
@[simp] theorem State.addReg_lines (s : State) (f : Field) (n : Nat) : (s.addReg f n).lines = s.lines := rfl
@[simp] theorem State.addReg_ptc (s : State) (f : Field) (n : Nat) : (s.addReg f n).ptc = s.ptc := rfl
@[simp] theorem State.addReg_thy (s : State) (f : Field) (n : Nat) : (s.addReg f n).thy = s.thy := rfl
@[simp] theorem State.addReg_arr (s : State) (f : Field) (n : Nat) : (s.addReg f n).arr = s.arr := rfl
@[simp] theorem State.addReg_cnv (s : State) (f : Field) (n : Nat) : (s.addReg f n).cnv = s.cnv := rfl
@[simp] theorem State.addReg_lfl (s : State) (f : Field) (n : Nat) : (s.addReg f n).lfl = s.lfl := rfl
@[simp] theorem State.addReg_cal (s : State) (f : Field) (n : Nat) : (s.addReg f n).cal = s.cal := rfl
@[simp] theorem State.addReg_pip (s : State) (f : Field) (n : Nat) : (s.addReg f n).pip = s.pip := rfl
@[simp] theorem State.addReg_sor (s : State) (f : Field) (n : Nat) : (s.addReg f n).sor = s.sor := rfl
@[simp] theorem State.addReg_chv (s : State) (f : Field) (n : Nat) : (s.addReg f n).chv = s.chv := rfl
@[simp] theorem State.addReg_clk (s : State) (f : Field) (n : Nat) : (s.addReg f n).clk = s.clk := rfl
@[simp] theorem State.addReg_commit (s : State) (f : Field) (n : Nat) : (s.addReg f n).commit = s.commit := rfl
@[simp] theorem State.addReg_twi (s : State) (f : Field) (n : Nat) : (s.addReg f n).twi = s.twi := rfl
@[simp] theorem State.addReg_boot (s : State) (f : Field) (n : Nat) : (s.addReg f n).boot = s.boot := rfl
@[simp] theorem State.addReg_jtag (s : State) (f : Field) (n : Nat) : (s.addReg f n).jtag = s.jtag := rfl
@[simp] theorem State.addReg_hkp (s : State) (f : Field) (n : Nat) : (s.addReg f n).hkp = s.hkp := rfl
@[simp] theorem State.addReg_bay (s : State) (f : Field) (n : Nat) : (s.addReg f n).bay = s.bay := rfl
@[simp] theorem State.addReg_dma (s : State) (f : Field) (n : Nat) : (s.addReg f n).dma = s.dma := rfl
@[simp] theorem State.addReg_held (s : State) (f : Field) (n : Nat) : (s.addReg f n).held = s.held := rfl
@[simp] theorem State.addReg_fifo (s : State) (f : Field) (n : Nat) : (s.addReg f n).fifo = s.fifo := rfl
@[simp] theorem State.addReg_fifoLost (s : State) (f : Field) (n : Nat) : (s.addReg f n).fifoLost = s.fifoLost := rfl
@[simp] theorem State.addReg_evtSeq (s : State) (f : Field) (n : Nat) : (s.addReg f n).evtSeq = s.evtSeq := rfl
@[simp] theorem State.addReg_outbox (s : State) (f : Field) (n : Nat) : (s.addReg f n).outbox = s.outbox := rfl
@[simp] theorem State.addReg_mem (s : State) (f : Field) (n : Nat) : (s.addReg f n).mem = s.mem := rfl
@[simp] theorem State.addReg_freeCtr (s : State) (f : Field) (n : Nat) : (s.addReg f n).freeCtr = s.freeCtr := rfl

@[simp] theorem State.setBitOf_pending (s : State) (f : Field) (i : Nat) : (s.setBitOf f i).pending = s.pending := rfl
@[simp] theorem State.setBitOf_shadow (s : State) (f : Field) (i : Nat) : (s.setBitOf f i).shadow = s.shadow := rfl
@[simp] theorem State.setBitOf_live (s : State) (f : Field) (i : Nat) : (s.setBitOf f i).live = s.live := rfl
@[simp] theorem State.setBitOf_pt (s : State) (f : Field) (i : Nat) : (s.setBitOf f i).pt = s.pt := rfl
@[simp] theorem State.setBitOf_lines (s : State) (f : Field) (i : Nat) : (s.setBitOf f i).lines = s.lines := rfl
@[simp] theorem State.setBitOf_ptc (s : State) (f : Field) (i : Nat) : (s.setBitOf f i).ptc = s.ptc := rfl
@[simp] theorem State.setBitOf_thy (s : State) (f : Field) (i : Nat) : (s.setBitOf f i).thy = s.thy := rfl
@[simp] theorem State.setBitOf_arr (s : State) (f : Field) (i : Nat) : (s.setBitOf f i).arr = s.arr := rfl
@[simp] theorem State.setBitOf_cnv (s : State) (f : Field) (i : Nat) : (s.setBitOf f i).cnv = s.cnv := rfl
@[simp] theorem State.setBitOf_lfl (s : State) (f : Field) (i : Nat) : (s.setBitOf f i).lfl = s.lfl := rfl
@[simp] theorem State.setBitOf_cal (s : State) (f : Field) (i : Nat) : (s.setBitOf f i).cal = s.cal := rfl
@[simp] theorem State.setBitOf_pip (s : State) (f : Field) (i : Nat) : (s.setBitOf f i).pip = s.pip := rfl
@[simp] theorem State.setBitOf_sor (s : State) (f : Field) (i : Nat) : (s.setBitOf f i).sor = s.sor := rfl
@[simp] theorem State.setBitOf_chv (s : State) (f : Field) (i : Nat) : (s.setBitOf f i).chv = s.chv := rfl
@[simp] theorem State.setBitOf_clk (s : State) (f : Field) (i : Nat) : (s.setBitOf f i).clk = s.clk := rfl
@[simp] theorem State.setBitOf_commit (s : State) (f : Field) (i : Nat) : (s.setBitOf f i).commit = s.commit := rfl
@[simp] theorem State.setBitOf_twi (s : State) (f : Field) (i : Nat) : (s.setBitOf f i).twi = s.twi := rfl
@[simp] theorem State.setBitOf_boot (s : State) (f : Field) (i : Nat) : (s.setBitOf f i).boot = s.boot := rfl
@[simp] theorem State.setBitOf_jtag (s : State) (f : Field) (i : Nat) : (s.setBitOf f i).jtag = s.jtag := rfl
@[simp] theorem State.setBitOf_hkp (s : State) (f : Field) (i : Nat) : (s.setBitOf f i).hkp = s.hkp := rfl
@[simp] theorem State.setBitOf_bay (s : State) (f : Field) (i : Nat) : (s.setBitOf f i).bay = s.bay := rfl
@[simp] theorem State.setBitOf_dma (s : State) (f : Field) (i : Nat) : (s.setBitOf f i).dma = s.dma := rfl
@[simp] theorem State.setBitOf_held (s : State) (f : Field) (i : Nat) : (s.setBitOf f i).held = s.held := rfl
@[simp] theorem State.setBitOf_fifo (s : State) (f : Field) (i : Nat) : (s.setBitOf f i).fifo = s.fifo := rfl
@[simp] theorem State.setBitOf_fifoLost (s : State) (f : Field) (i : Nat) : (s.setBitOf f i).fifoLost = s.fifoLost := rfl
@[simp] theorem State.setBitOf_evtSeq (s : State) (f : Field) (i : Nat) : (s.setBitOf f i).evtSeq = s.evtSeq := rfl
@[simp] theorem State.setBitOf_outbox (s : State) (f : Field) (i : Nat) : (s.setBitOf f i).outbox = s.outbox := rfl
@[simp] theorem State.setBitOf_mem (s : State) (f : Field) (i : Nat) : (s.setBitOf f i).mem = s.mem := rfl
@[simp] theorem State.setBitOf_freeCtr (s : State) (f : Field) (i : Nat) : (s.setBitOf f i).freeCtr = s.freeCtr := rfl

@[simp] theorem State.applyLive_pending (s : State)  : (s.applyLive).pending = s.pending := rfl
@[simp] theorem State.applyLive_shadow (s : State)  : (s.applyLive).shadow = s.shadow := rfl
@[simp] theorem State.applyLive_pt (s : State)  : (s.applyLive).pt = s.pt := rfl
@[simp] theorem State.applyLive_lines (s : State)  : (s.applyLive).lines = s.lines := rfl
@[simp] theorem State.applyLive_ptc (s : State)  : (s.applyLive).ptc = s.ptc := rfl
@[simp] theorem State.applyLive_thy (s : State)  : (s.applyLive).thy = s.thy := rfl
@[simp] theorem State.applyLive_arr (s : State)  : (s.applyLive).arr = s.arr := rfl
@[simp] theorem State.applyLive_cnv (s : State)  : (s.applyLive).cnv = s.cnv := rfl
@[simp] theorem State.applyLive_lfl (s : State)  : (s.applyLive).lfl = s.lfl := rfl
@[simp] theorem State.applyLive_cal (s : State)  : (s.applyLive).cal = s.cal := rfl
@[simp] theorem State.applyLive_pip (s : State)  : (s.applyLive).pip = s.pip := rfl
@[simp] theorem State.applyLive_sor (s : State)  : (s.applyLive).sor = s.sor := rfl
@[simp] theorem State.applyLive_chv (s : State)  : (s.applyLive).chv = s.chv := rfl
@[simp] theorem State.applyLive_clk (s : State)  : (s.applyLive).clk = s.clk := rfl
@[simp] theorem State.applyLive_commit (s : State)  : (s.applyLive).commit = s.commit := rfl
@[simp] theorem State.applyLive_twi (s : State)  : (s.applyLive).twi = s.twi := rfl
@[simp] theorem State.applyLive_boot (s : State)  : (s.applyLive).boot = s.boot := rfl
@[simp] theorem State.applyLive_jtag (s : State)  : (s.applyLive).jtag = s.jtag := rfl
@[simp] theorem State.applyLive_hkp (s : State)  : (s.applyLive).hkp = s.hkp := rfl
@[simp] theorem State.applyLive_bay (s : State)  : (s.applyLive).bay = s.bay := rfl
@[simp] theorem State.applyLive_dma (s : State)  : (s.applyLive).dma = s.dma := rfl
@[simp] theorem State.applyLive_held (s : State)  : (s.applyLive).held = s.held := rfl
@[simp] theorem State.applyLive_fifo (s : State)  : (s.applyLive).fifo = s.fifo := rfl
@[simp] theorem State.applyLive_fifoLost (s : State)  : (s.applyLive).fifoLost = s.fifoLost := rfl
@[simp] theorem State.applyLive_evtSeq (s : State)  : (s.applyLive).evtSeq = s.evtSeq := rfl
@[simp] theorem State.applyLive_outbox (s : State)  : (s.applyLive).outbox = s.outbox := rfl
@[simp] theorem State.applyLive_mem (s : State)  : (s.applyLive).mem = s.mem := rfl
@[simp] theorem State.applyLive_freeCtr (s : State)  : (s.applyLive).freeCtr = s.freeCtr := rfl

@[simp] theorem State.emit_pending (s : State) (e : Emission) : (s.emit e).pending = s.pending := rfl
@[simp] theorem State.emit_regs (s : State) (e : Emission) : (s.emit e).regs = s.regs := rfl
@[simp] theorem State.emit_shadow (s : State) (e : Emission) : (s.emit e).shadow = s.shadow := rfl
@[simp] theorem State.emit_live (s : State) (e : Emission) : (s.emit e).live = s.live := rfl
@[simp] theorem State.emit_pt (s : State) (e : Emission) : (s.emit e).pt = s.pt := rfl
@[simp] theorem State.emit_lines (s : State) (e : Emission) : (s.emit e).lines = s.lines := rfl
@[simp] theorem State.emit_ptc (s : State) (e : Emission) : (s.emit e).ptc = s.ptc := rfl
@[simp] theorem State.emit_thy (s : State) (e : Emission) : (s.emit e).thy = s.thy := rfl
@[simp] theorem State.emit_arr (s : State) (e : Emission) : (s.emit e).arr = s.arr := rfl
@[simp] theorem State.emit_cnv (s : State) (e : Emission) : (s.emit e).cnv = s.cnv := rfl
@[simp] theorem State.emit_lfl (s : State) (e : Emission) : (s.emit e).lfl = s.lfl := rfl
@[simp] theorem State.emit_cal (s : State) (e : Emission) : (s.emit e).cal = s.cal := rfl
@[simp] theorem State.emit_pip (s : State) (e : Emission) : (s.emit e).pip = s.pip := rfl
@[simp] theorem State.emit_sor (s : State) (e : Emission) : (s.emit e).sor = s.sor := rfl
@[simp] theorem State.emit_chv (s : State) (e : Emission) : (s.emit e).chv = s.chv := rfl
@[simp] theorem State.emit_clk (s : State) (e : Emission) : (s.emit e).clk = s.clk := rfl
@[simp] theorem State.emit_commit (s : State) (e : Emission) : (s.emit e).commit = s.commit := rfl
@[simp] theorem State.emit_twi (s : State) (e : Emission) : (s.emit e).twi = s.twi := rfl
@[simp] theorem State.emit_boot (s : State) (e : Emission) : (s.emit e).boot = s.boot := rfl
@[simp] theorem State.emit_jtag (s : State) (e : Emission) : (s.emit e).jtag = s.jtag := rfl
@[simp] theorem State.emit_hkp (s : State) (e : Emission) : (s.emit e).hkp = s.hkp := rfl
@[simp] theorem State.emit_bay (s : State) (e : Emission) : (s.emit e).bay = s.bay := rfl
@[simp] theorem State.emit_dma (s : State) (e : Emission) : (s.emit e).dma = s.dma := rfl
@[simp] theorem State.emit_held (s : State) (e : Emission) : (s.emit e).held = s.held := rfl
@[simp] theorem State.emit_fifo (s : State) (e : Emission) : (s.emit e).fifo = s.fifo := rfl
@[simp] theorem State.emit_fifoLost (s : State) (e : Emission) : (s.emit e).fifoLost = s.fifoLost := rfl
@[simp] theorem State.emit_evtSeq (s : State) (e : Emission) : (s.emit e).evtSeq = s.evtSeq := rfl
@[simp] theorem State.emit_mem (s : State) (e : Emission) : (s.emit e).mem = s.mem := rfl
@[simp] theorem State.emit_freeCtr (s : State) (e : Emission) : (s.emit e).freeCtr = s.freeCtr := rfl

@[simp] theorem State.emit_outbox (s : State) (e : Emission) : (s.emit e).outbox = s.outbox ++ [e] := rfl
@[simp] theorem State.setReg_regs (s : State) (f : Field) (v : Nat) : (s.setReg f v).regs = s.regs.set f v := rfl

/-! ### The shadow -/

/-- A write of the shadow changes the shadow alone. -/
theorem State.setShadow_eq (s : State) (f : Field) (v : Nat) :
    s.setShadow f v = { s with shadow := (s.setShadow f v).shadow } := by
  unfold State.setShadow; split <;> rfl

@[simp] theorem State.setShadow_pending (s : State) (f : Field) (v : Nat) : (s.setShadow f v).pending = s.pending := by rw [State.setShadow_eq]
@[simp] theorem State.setShadow_regs (s : State) (f : Field) (v : Nat) : (s.setShadow f v).regs = s.regs := by rw [State.setShadow_eq]
@[simp] theorem State.setShadow_live (s : State) (f : Field) (v : Nat) : (s.setShadow f v).live = s.live := by rw [State.setShadow_eq]
@[simp] theorem State.setShadow_pt (s : State) (f : Field) (v : Nat) : (s.setShadow f v).pt = s.pt := by rw [State.setShadow_eq]
@[simp] theorem State.setShadow_lines (s : State) (f : Field) (v : Nat) : (s.setShadow f v).lines = s.lines := by rw [State.setShadow_eq]
@[simp] theorem State.setShadow_ptc (s : State) (f : Field) (v : Nat) : (s.setShadow f v).ptc = s.ptc := by rw [State.setShadow_eq]
@[simp] theorem State.setShadow_thy (s : State) (f : Field) (v : Nat) : (s.setShadow f v).thy = s.thy := by rw [State.setShadow_eq]
@[simp] theorem State.setShadow_arr (s : State) (f : Field) (v : Nat) : (s.setShadow f v).arr = s.arr := by rw [State.setShadow_eq]
@[simp] theorem State.setShadow_cnv (s : State) (f : Field) (v : Nat) : (s.setShadow f v).cnv = s.cnv := by rw [State.setShadow_eq]
@[simp] theorem State.setShadow_lfl (s : State) (f : Field) (v : Nat) : (s.setShadow f v).lfl = s.lfl := by rw [State.setShadow_eq]
@[simp] theorem State.setShadow_cal (s : State) (f : Field) (v : Nat) : (s.setShadow f v).cal = s.cal := by rw [State.setShadow_eq]
@[simp] theorem State.setShadow_pip (s : State) (f : Field) (v : Nat) : (s.setShadow f v).pip = s.pip := by rw [State.setShadow_eq]
@[simp] theorem State.setShadow_sor (s : State) (f : Field) (v : Nat) : (s.setShadow f v).sor = s.sor := by rw [State.setShadow_eq]
@[simp] theorem State.setShadow_chv (s : State) (f : Field) (v : Nat) : (s.setShadow f v).chv = s.chv := by rw [State.setShadow_eq]
@[simp] theorem State.setShadow_clk (s : State) (f : Field) (v : Nat) : (s.setShadow f v).clk = s.clk := by rw [State.setShadow_eq]
@[simp] theorem State.setShadow_commit (s : State) (f : Field) (v : Nat) : (s.setShadow f v).commit = s.commit := by rw [State.setShadow_eq]
@[simp] theorem State.setShadow_twi (s : State) (f : Field) (v : Nat) : (s.setShadow f v).twi = s.twi := by rw [State.setShadow_eq]
@[simp] theorem State.setShadow_boot (s : State) (f : Field) (v : Nat) : (s.setShadow f v).boot = s.boot := by rw [State.setShadow_eq]
@[simp] theorem State.setShadow_jtag (s : State) (f : Field) (v : Nat) : (s.setShadow f v).jtag = s.jtag := by rw [State.setShadow_eq]
@[simp] theorem State.setShadow_hkp (s : State) (f : Field) (v : Nat) : (s.setShadow f v).hkp = s.hkp := by rw [State.setShadow_eq]
@[simp] theorem State.setShadow_bay (s : State) (f : Field) (v : Nat) : (s.setShadow f v).bay = s.bay := by rw [State.setShadow_eq]
@[simp] theorem State.setShadow_dma (s : State) (f : Field) (v : Nat) : (s.setShadow f v).dma = s.dma := by rw [State.setShadow_eq]
@[simp] theorem State.setShadow_held (s : State) (f : Field) (v : Nat) : (s.setShadow f v).held = s.held := by rw [State.setShadow_eq]
@[simp] theorem State.setShadow_fifo (s : State) (f : Field) (v : Nat) : (s.setShadow f v).fifo = s.fifo := by rw [State.setShadow_eq]
@[simp] theorem State.setShadow_fifoLost (s : State) (f : Field) (v : Nat) : (s.setShadow f v).fifoLost = s.fifoLost := by rw [State.setShadow_eq]
@[simp] theorem State.setShadow_evtSeq (s : State) (f : Field) (v : Nat) : (s.setShadow f v).evtSeq = s.evtSeq := by rw [State.setShadow_eq]
@[simp] theorem State.setShadow_outbox (s : State) (f : Field) (v : Nat) : (s.setShadow f v).outbox = s.outbox := by rw [State.setShadow_eq]
@[simp] theorem State.setShadow_mem (s : State) (f : Field) (v : Nat) : (s.setShadow f v).mem = s.mem := by rw [State.setShadow_eq]
@[simp] theorem State.setShadow_freeCtr (s : State) (f : Field) (v : Nat) : (s.setShadow f v).freeCtr = s.freeCtr := by rw [State.setShadow_eq]

/-! ### Events (10_host_interface_and_dma.md R344, R345; 12_two_wire_management_port.md R395) -/

/-- The attention that an event may raise changes two register fields and the two-wire port. -/
theorem State.attend_eq (s : State) (c : Nat) :
    s.attend c = { s with regs := (s.attend c).regs, twi := (s.attend c).twi } := by
  unfold State.attend; repeat' split
  all_goals rfl

/-- A record queued changes the FIFO, its lost count, EVT_LOST and the sequence number. -/
theorem State.enqueue_eq (s : State) (code : Nat) (sn : SegNo) (pt : PressTime) (args : List (Nat × Nat)) :
    s.enqueue code sn pt args =
      { s with regs := (s.enqueue code sn pt args).regs, fifo := (s.enqueue code sn pt args).fifo, fifoLost := (s.enqueue code sn pt args).fifoLost,
               evtSeq := (s.enqueue code sn pt args).evtSeq } := by
  unfold State.enqueue; split <;> rfl

@[simp] theorem State.attend_pending (s : State) (c : Nat) : (s.attend c).pending = s.pending := by rw [State.attend_eq]
@[simp] theorem State.attend_shadow (s : State) (c : Nat) : (s.attend c).shadow = s.shadow := by rw [State.attend_eq]
@[simp] theorem State.attend_live (s : State) (c : Nat) : (s.attend c).live = s.live := by rw [State.attend_eq]
@[simp] theorem State.attend_pt (s : State) (c : Nat) : (s.attend c).pt = s.pt := by rw [State.attend_eq]
@[simp] theorem State.attend_lines (s : State) (c : Nat) : (s.attend c).lines = s.lines := by rw [State.attend_eq]
@[simp] theorem State.attend_ptc (s : State) (c : Nat) : (s.attend c).ptc = s.ptc := by rw [State.attend_eq]
@[simp] theorem State.attend_thy (s : State) (c : Nat) : (s.attend c).thy = s.thy := by rw [State.attend_eq]
@[simp] theorem State.attend_arr (s : State) (c : Nat) : (s.attend c).arr = s.arr := by rw [State.attend_eq]
@[simp] theorem State.attend_cnv (s : State) (c : Nat) : (s.attend c).cnv = s.cnv := by rw [State.attend_eq]
@[simp] theorem State.attend_lfl (s : State) (c : Nat) : (s.attend c).lfl = s.lfl := by rw [State.attend_eq]
@[simp] theorem State.attend_cal (s : State) (c : Nat) : (s.attend c).cal = s.cal := by rw [State.attend_eq]
@[simp] theorem State.attend_pip (s : State) (c : Nat) : (s.attend c).pip = s.pip := by rw [State.attend_eq]
@[simp] theorem State.attend_sor (s : State) (c : Nat) : (s.attend c).sor = s.sor := by rw [State.attend_eq]
@[simp] theorem State.attend_chv (s : State) (c : Nat) : (s.attend c).chv = s.chv := by rw [State.attend_eq]
@[simp] theorem State.attend_clk (s : State) (c : Nat) : (s.attend c).clk = s.clk := by rw [State.attend_eq]
@[simp] theorem State.attend_commit (s : State) (c : Nat) : (s.attend c).commit = s.commit := by rw [State.attend_eq]
@[simp] theorem State.attend_boot (s : State) (c : Nat) : (s.attend c).boot = s.boot := by rw [State.attend_eq]
@[simp] theorem State.attend_jtag (s : State) (c : Nat) : (s.attend c).jtag = s.jtag := by rw [State.attend_eq]
@[simp] theorem State.attend_hkp (s : State) (c : Nat) : (s.attend c).hkp = s.hkp := by rw [State.attend_eq]
@[simp] theorem State.attend_bay (s : State) (c : Nat) : (s.attend c).bay = s.bay := by rw [State.attend_eq]
@[simp] theorem State.attend_dma (s : State) (c : Nat) : (s.attend c).dma = s.dma := by rw [State.attend_eq]
@[simp] theorem State.attend_held (s : State) (c : Nat) : (s.attend c).held = s.held := by rw [State.attend_eq]
@[simp] theorem State.attend_fifo (s : State) (c : Nat) : (s.attend c).fifo = s.fifo := by rw [State.attend_eq]
@[simp] theorem State.attend_fifoLost (s : State) (c : Nat) : (s.attend c).fifoLost = s.fifoLost := by rw [State.attend_eq]
@[simp] theorem State.attend_evtSeq (s : State) (c : Nat) : (s.attend c).evtSeq = s.evtSeq := by rw [State.attend_eq]
@[simp] theorem State.attend_outbox (s : State) (c : Nat) : (s.attend c).outbox = s.outbox := by rw [State.attend_eq]
@[simp] theorem State.attend_mem (s : State) (c : Nat) : (s.attend c).mem = s.mem := by rw [State.attend_eq]
@[simp] theorem State.attend_freeCtr (s : State) (c : Nat) : (s.attend c).freeCtr = s.freeCtr := by rw [State.attend_eq]

@[simp] theorem State.enqueue_pending (s : State) (code : Nat) (sn : SegNo) (pt : PressTime) (args : List (Nat × Nat)) : (s.enqueue code sn pt args).pending = s.pending := by rw [State.enqueue_eq]
@[simp] theorem State.enqueue_shadow (s : State) (code : Nat) (sn : SegNo) (pt : PressTime) (args : List (Nat × Nat)) : (s.enqueue code sn pt args).shadow = s.shadow := by rw [State.enqueue_eq]
@[simp] theorem State.enqueue_live (s : State) (code : Nat) (sn : SegNo) (pt : PressTime) (args : List (Nat × Nat)) : (s.enqueue code sn pt args).live = s.live := by rw [State.enqueue_eq]
@[simp] theorem State.enqueue_pt (s : State) (code : Nat) (sn : SegNo) (pt : PressTime) (args : List (Nat × Nat)) : (s.enqueue code sn pt args).pt = s.pt := by rw [State.enqueue_eq]
@[simp] theorem State.enqueue_lines (s : State) (code : Nat) (sn : SegNo) (pt : PressTime) (args : List (Nat × Nat)) : (s.enqueue code sn pt args).lines = s.lines := by rw [State.enqueue_eq]
@[simp] theorem State.enqueue_ptc (s : State) (code : Nat) (sn : SegNo) (pt : PressTime) (args : List (Nat × Nat)) : (s.enqueue code sn pt args).ptc = s.ptc := by rw [State.enqueue_eq]
@[simp] theorem State.enqueue_thy (s : State) (code : Nat) (sn : SegNo) (pt : PressTime) (args : List (Nat × Nat)) : (s.enqueue code sn pt args).thy = s.thy := by rw [State.enqueue_eq]
@[simp] theorem State.enqueue_arr (s : State) (code : Nat) (sn : SegNo) (pt : PressTime) (args : List (Nat × Nat)) : (s.enqueue code sn pt args).arr = s.arr := by rw [State.enqueue_eq]
@[simp] theorem State.enqueue_cnv (s : State) (code : Nat) (sn : SegNo) (pt : PressTime) (args : List (Nat × Nat)) : (s.enqueue code sn pt args).cnv = s.cnv := by rw [State.enqueue_eq]
@[simp] theorem State.enqueue_lfl (s : State) (code : Nat) (sn : SegNo) (pt : PressTime) (args : List (Nat × Nat)) : (s.enqueue code sn pt args).lfl = s.lfl := by rw [State.enqueue_eq]
@[simp] theorem State.enqueue_cal (s : State) (code : Nat) (sn : SegNo) (pt : PressTime) (args : List (Nat × Nat)) : (s.enqueue code sn pt args).cal = s.cal := by rw [State.enqueue_eq]
@[simp] theorem State.enqueue_pip (s : State) (code : Nat) (sn : SegNo) (pt : PressTime) (args : List (Nat × Nat)) : (s.enqueue code sn pt args).pip = s.pip := by rw [State.enqueue_eq]
@[simp] theorem State.enqueue_sor (s : State) (code : Nat) (sn : SegNo) (pt : PressTime) (args : List (Nat × Nat)) : (s.enqueue code sn pt args).sor = s.sor := by rw [State.enqueue_eq]
@[simp] theorem State.enqueue_chv (s : State) (code : Nat) (sn : SegNo) (pt : PressTime) (args : List (Nat × Nat)) : (s.enqueue code sn pt args).chv = s.chv := by rw [State.enqueue_eq]
@[simp] theorem State.enqueue_clk (s : State) (code : Nat) (sn : SegNo) (pt : PressTime) (args : List (Nat × Nat)) : (s.enqueue code sn pt args).clk = s.clk := by rw [State.enqueue_eq]
@[simp] theorem State.enqueue_commit (s : State) (code : Nat) (sn : SegNo) (pt : PressTime) (args : List (Nat × Nat)) : (s.enqueue code sn pt args).commit = s.commit := by rw [State.enqueue_eq]
@[simp] theorem State.enqueue_twi (s : State) (code : Nat) (sn : SegNo) (pt : PressTime) (args : List (Nat × Nat)) : (s.enqueue code sn pt args).twi = s.twi := by rw [State.enqueue_eq]
@[simp] theorem State.enqueue_boot (s : State) (code : Nat) (sn : SegNo) (pt : PressTime) (args : List (Nat × Nat)) : (s.enqueue code sn pt args).boot = s.boot := by rw [State.enqueue_eq]
@[simp] theorem State.enqueue_jtag (s : State) (code : Nat) (sn : SegNo) (pt : PressTime) (args : List (Nat × Nat)) : (s.enqueue code sn pt args).jtag = s.jtag := by rw [State.enqueue_eq]
@[simp] theorem State.enqueue_hkp (s : State) (code : Nat) (sn : SegNo) (pt : PressTime) (args : List (Nat × Nat)) : (s.enqueue code sn pt args).hkp = s.hkp := by rw [State.enqueue_eq]
@[simp] theorem State.enqueue_bay (s : State) (code : Nat) (sn : SegNo) (pt : PressTime) (args : List (Nat × Nat)) : (s.enqueue code sn pt args).bay = s.bay := by rw [State.enqueue_eq]
@[simp] theorem State.enqueue_dma (s : State) (code : Nat) (sn : SegNo) (pt : PressTime) (args : List (Nat × Nat)) : (s.enqueue code sn pt args).dma = s.dma := by rw [State.enqueue_eq]
@[simp] theorem State.enqueue_held (s : State) (code : Nat) (sn : SegNo) (pt : PressTime) (args : List (Nat × Nat)) : (s.enqueue code sn pt args).held = s.held := by rw [State.enqueue_eq]
@[simp] theorem State.enqueue_outbox (s : State) (code : Nat) (sn : SegNo) (pt : PressTime) (args : List (Nat × Nat)) : (s.enqueue code sn pt args).outbox = s.outbox := by rw [State.enqueue_eq]
@[simp] theorem State.enqueue_mem (s : State) (code : Nat) (sn : SegNo) (pt : PressTime) (args : List (Nat × Nat)) : (s.enqueue code sn pt args).mem = s.mem := by rw [State.enqueue_eq]
@[simp] theorem State.enqueue_freeCtr (s : State) (code : Nat) (sn : SegNo) (pt : PressTime) (args : List (Nat × Nat)) : (s.enqueue code sn pt args).freeCtr = s.freeCtr := by rw [State.enqueue_eq]

@[simp] theorem State.logAt_pending (s : State) (code : Nat) (sn : SegNo) (pt : PressTime) (args : List (Nat × Nat)) : (s.logAt code sn pt args).pending = s.pending := by simp [State.logAt]
@[simp] theorem State.logAt_shadow (s : State) (code : Nat) (sn : SegNo) (pt : PressTime) (args : List (Nat × Nat)) : (s.logAt code sn pt args).shadow = s.shadow := by simp [State.logAt]
@[simp] theorem State.logAt_live (s : State) (code : Nat) (sn : SegNo) (pt : PressTime) (args : List (Nat × Nat)) : (s.logAt code sn pt args).live = s.live := by simp [State.logAt]
@[simp] theorem State.logAt_pt (s : State) (code : Nat) (sn : SegNo) (pt : PressTime) (args : List (Nat × Nat)) : (s.logAt code sn pt args).pt = s.pt := by simp [State.logAt]
@[simp] theorem State.logAt_lines (s : State) (code : Nat) (sn : SegNo) (pt : PressTime) (args : List (Nat × Nat)) : (s.logAt code sn pt args).lines = s.lines := by simp [State.logAt]
@[simp] theorem State.logAt_ptc (s : State) (code : Nat) (sn : SegNo) (pt : PressTime) (args : List (Nat × Nat)) : (s.logAt code sn pt args).ptc = s.ptc := by simp [State.logAt]
@[simp] theorem State.logAt_thy (s : State) (code : Nat) (sn : SegNo) (pt : PressTime) (args : List (Nat × Nat)) : (s.logAt code sn pt args).thy = s.thy := by simp [State.logAt]
@[simp] theorem State.logAt_arr (s : State) (code : Nat) (sn : SegNo) (pt : PressTime) (args : List (Nat × Nat)) : (s.logAt code sn pt args).arr = s.arr := by simp [State.logAt]
@[simp] theorem State.logAt_cnv (s : State) (code : Nat) (sn : SegNo) (pt : PressTime) (args : List (Nat × Nat)) : (s.logAt code sn pt args).cnv = s.cnv := by simp [State.logAt]
@[simp] theorem State.logAt_lfl (s : State) (code : Nat) (sn : SegNo) (pt : PressTime) (args : List (Nat × Nat)) : (s.logAt code sn pt args).lfl = s.lfl := by simp [State.logAt]
@[simp] theorem State.logAt_cal (s : State) (code : Nat) (sn : SegNo) (pt : PressTime) (args : List (Nat × Nat)) : (s.logAt code sn pt args).cal = s.cal := by simp [State.logAt]
@[simp] theorem State.logAt_pip (s : State) (code : Nat) (sn : SegNo) (pt : PressTime) (args : List (Nat × Nat)) : (s.logAt code sn pt args).pip = s.pip := by simp [State.logAt]
@[simp] theorem State.logAt_sor (s : State) (code : Nat) (sn : SegNo) (pt : PressTime) (args : List (Nat × Nat)) : (s.logAt code sn pt args).sor = s.sor := by simp [State.logAt]
@[simp] theorem State.logAt_chv (s : State) (code : Nat) (sn : SegNo) (pt : PressTime) (args : List (Nat × Nat)) : (s.logAt code sn pt args).chv = s.chv := by simp [State.logAt]
@[simp] theorem State.logAt_clk (s : State) (code : Nat) (sn : SegNo) (pt : PressTime) (args : List (Nat × Nat)) : (s.logAt code sn pt args).clk = s.clk := by simp [State.logAt]
@[simp] theorem State.logAt_commit (s : State) (code : Nat) (sn : SegNo) (pt : PressTime) (args : List (Nat × Nat)) : (s.logAt code sn pt args).commit = s.commit := by simp [State.logAt]
@[simp] theorem State.logAt_boot (s : State) (code : Nat) (sn : SegNo) (pt : PressTime) (args : List (Nat × Nat)) : (s.logAt code sn pt args).boot = s.boot := by simp [State.logAt]
@[simp] theorem State.logAt_jtag (s : State) (code : Nat) (sn : SegNo) (pt : PressTime) (args : List (Nat × Nat)) : (s.logAt code sn pt args).jtag = s.jtag := by simp [State.logAt]
@[simp] theorem State.logAt_hkp (s : State) (code : Nat) (sn : SegNo) (pt : PressTime) (args : List (Nat × Nat)) : (s.logAt code sn pt args).hkp = s.hkp := by simp [State.logAt]
@[simp] theorem State.logAt_bay (s : State) (code : Nat) (sn : SegNo) (pt : PressTime) (args : List (Nat × Nat)) : (s.logAt code sn pt args).bay = s.bay := by simp [State.logAt]
@[simp] theorem State.logAt_dma (s : State) (code : Nat) (sn : SegNo) (pt : PressTime) (args : List (Nat × Nat)) : (s.logAt code sn pt args).dma = s.dma := by simp [State.logAt]
@[simp] theorem State.logAt_held (s : State) (code : Nat) (sn : SegNo) (pt : PressTime) (args : List (Nat × Nat)) : (s.logAt code sn pt args).held = s.held := by simp [State.logAt]
@[simp] theorem State.logAt_outbox (s : State) (code : Nat) (sn : SegNo) (pt : PressTime) (args : List (Nat × Nat)) : (s.logAt code sn pt args).outbox = s.outbox := by simp [State.logAt]
@[simp] theorem State.logAt_mem (s : State) (code : Nat) (sn : SegNo) (pt : PressTime) (args : List (Nat × Nat)) : (s.logAt code sn pt args).mem = s.mem := by simp [State.logAt]
@[simp] theorem State.logAt_freeCtr (s : State) (code : Nat) (sn : SegNo) (pt : PressTime) (args : List (Nat × Nat)) : (s.logAt code sn pt args).freeCtr = s.freeCtr := by simp [State.logAt]

@[simp] theorem State.log_pending (s : State) (code : Nat) (args : List (Nat × Nat)) : (s.log code args).pending = s.pending := by simp [State.log]
@[simp] theorem State.log_shadow (s : State) (code : Nat) (args : List (Nat × Nat)) : (s.log code args).shadow = s.shadow := by simp [State.log]
@[simp] theorem State.log_live (s : State) (code : Nat) (args : List (Nat × Nat)) : (s.log code args).live = s.live := by simp [State.log]
@[simp] theorem State.log_pt (s : State) (code : Nat) (args : List (Nat × Nat)) : (s.log code args).pt = s.pt := by simp [State.log]
@[simp] theorem State.log_lines (s : State) (code : Nat) (args : List (Nat × Nat)) : (s.log code args).lines = s.lines := by simp [State.log]
@[simp] theorem State.log_ptc (s : State) (code : Nat) (args : List (Nat × Nat)) : (s.log code args).ptc = s.ptc := by simp [State.log]
@[simp] theorem State.log_thy (s : State) (code : Nat) (args : List (Nat × Nat)) : (s.log code args).thy = s.thy := by simp [State.log]
@[simp] theorem State.log_arr (s : State) (code : Nat) (args : List (Nat × Nat)) : (s.log code args).arr = s.arr := by simp [State.log]
@[simp] theorem State.log_cnv (s : State) (code : Nat) (args : List (Nat × Nat)) : (s.log code args).cnv = s.cnv := by simp [State.log]
@[simp] theorem State.log_lfl (s : State) (code : Nat) (args : List (Nat × Nat)) : (s.log code args).lfl = s.lfl := by simp [State.log]
@[simp] theorem State.log_cal (s : State) (code : Nat) (args : List (Nat × Nat)) : (s.log code args).cal = s.cal := by simp [State.log]
@[simp] theorem State.log_pip (s : State) (code : Nat) (args : List (Nat × Nat)) : (s.log code args).pip = s.pip := by simp [State.log]
@[simp] theorem State.log_sor (s : State) (code : Nat) (args : List (Nat × Nat)) : (s.log code args).sor = s.sor := by simp [State.log]
@[simp] theorem State.log_chv (s : State) (code : Nat) (args : List (Nat × Nat)) : (s.log code args).chv = s.chv := by simp [State.log]
@[simp] theorem State.log_clk (s : State) (code : Nat) (args : List (Nat × Nat)) : (s.log code args).clk = s.clk := by simp [State.log]
@[simp] theorem State.log_commit (s : State) (code : Nat) (args : List (Nat × Nat)) : (s.log code args).commit = s.commit := by simp [State.log]
@[simp] theorem State.log_boot (s : State) (code : Nat) (args : List (Nat × Nat)) : (s.log code args).boot = s.boot := by simp [State.log]
@[simp] theorem State.log_jtag (s : State) (code : Nat) (args : List (Nat × Nat)) : (s.log code args).jtag = s.jtag := by simp [State.log]
@[simp] theorem State.log_hkp (s : State) (code : Nat) (args : List (Nat × Nat)) : (s.log code args).hkp = s.hkp := by simp [State.log]
@[simp] theorem State.log_bay (s : State) (code : Nat) (args : List (Nat × Nat)) : (s.log code args).bay = s.bay := by simp [State.log]
@[simp] theorem State.log_dma (s : State) (code : Nat) (args : List (Nat × Nat)) : (s.log code args).dma = s.dma := by simp [State.log]
@[simp] theorem State.log_held (s : State) (code : Nat) (args : List (Nat × Nat)) : (s.log code args).held = s.held := by simp [State.log]
@[simp] theorem State.log_outbox (s : State) (code : Nat) (args : List (Nat × Nat)) : (s.log code args).outbox = s.outbox := by simp [State.log]
@[simp] theorem State.log_mem (s : State) (code : Nat) (args : List (Nat × Nat)) : (s.log code args).mem = s.mem := by simp [State.log]
@[simp] theorem State.log_freeCtr (s : State) (code : Nat) (args : List (Nat × Nat)) : (s.log code args).freeCtr = s.freeCtr := by simp [State.log]

@[simp] theorem State.logClose_pending (s : State) (code : Nat) (sn : SegNo) (args : List (Nat × Nat)) : (s.logClose code sn args).pending = s.pending := by simp [State.logClose]
@[simp] theorem State.logClose_shadow (s : State) (code : Nat) (sn : SegNo) (args : List (Nat × Nat)) : (s.logClose code sn args).shadow = s.shadow := by simp [State.logClose]
@[simp] theorem State.logClose_live (s : State) (code : Nat) (sn : SegNo) (args : List (Nat × Nat)) : (s.logClose code sn args).live = s.live := by simp [State.logClose]
@[simp] theorem State.logClose_pt (s : State) (code : Nat) (sn : SegNo) (args : List (Nat × Nat)) : (s.logClose code sn args).pt = s.pt := by simp [State.logClose]
@[simp] theorem State.logClose_lines (s : State) (code : Nat) (sn : SegNo) (args : List (Nat × Nat)) : (s.logClose code sn args).lines = s.lines := by simp [State.logClose]
@[simp] theorem State.logClose_ptc (s : State) (code : Nat) (sn : SegNo) (args : List (Nat × Nat)) : (s.logClose code sn args).ptc = s.ptc := by simp [State.logClose]
@[simp] theorem State.logClose_thy (s : State) (code : Nat) (sn : SegNo) (args : List (Nat × Nat)) : (s.logClose code sn args).thy = s.thy := by simp [State.logClose]
@[simp] theorem State.logClose_arr (s : State) (code : Nat) (sn : SegNo) (args : List (Nat × Nat)) : (s.logClose code sn args).arr = s.arr := by simp [State.logClose]
@[simp] theorem State.logClose_cnv (s : State) (code : Nat) (sn : SegNo) (args : List (Nat × Nat)) : (s.logClose code sn args).cnv = s.cnv := by simp [State.logClose]
@[simp] theorem State.logClose_lfl (s : State) (code : Nat) (sn : SegNo) (args : List (Nat × Nat)) : (s.logClose code sn args).lfl = s.lfl := by simp [State.logClose]
@[simp] theorem State.logClose_cal (s : State) (code : Nat) (sn : SegNo) (args : List (Nat × Nat)) : (s.logClose code sn args).cal = s.cal := by simp [State.logClose]
@[simp] theorem State.logClose_pip (s : State) (code : Nat) (sn : SegNo) (args : List (Nat × Nat)) : (s.logClose code sn args).pip = s.pip := by simp [State.logClose]
@[simp] theorem State.logClose_sor (s : State) (code : Nat) (sn : SegNo) (args : List (Nat × Nat)) : (s.logClose code sn args).sor = s.sor := by simp [State.logClose]
@[simp] theorem State.logClose_chv (s : State) (code : Nat) (sn : SegNo) (args : List (Nat × Nat)) : (s.logClose code sn args).chv = s.chv := by simp [State.logClose]
@[simp] theorem State.logClose_clk (s : State) (code : Nat) (sn : SegNo) (args : List (Nat × Nat)) : (s.logClose code sn args).clk = s.clk := by simp [State.logClose]
@[simp] theorem State.logClose_commit (s : State) (code : Nat) (sn : SegNo) (args : List (Nat × Nat)) : (s.logClose code sn args).commit = s.commit := by simp [State.logClose]
@[simp] theorem State.logClose_boot (s : State) (code : Nat) (sn : SegNo) (args : List (Nat × Nat)) : (s.logClose code sn args).boot = s.boot := by simp [State.logClose]
@[simp] theorem State.logClose_jtag (s : State) (code : Nat) (sn : SegNo) (args : List (Nat × Nat)) : (s.logClose code sn args).jtag = s.jtag := by simp [State.logClose]
@[simp] theorem State.logClose_hkp (s : State) (code : Nat) (sn : SegNo) (args : List (Nat × Nat)) : (s.logClose code sn args).hkp = s.hkp := by simp [State.logClose]
@[simp] theorem State.logClose_bay (s : State) (code : Nat) (sn : SegNo) (args : List (Nat × Nat)) : (s.logClose code sn args).bay = s.bay := by simp [State.logClose]
@[simp] theorem State.logClose_dma (s : State) (code : Nat) (sn : SegNo) (args : List (Nat × Nat)) : (s.logClose code sn args).dma = s.dma := by simp [State.logClose]
@[simp] theorem State.logClose_held (s : State) (code : Nat) (sn : SegNo) (args : List (Nat × Nat)) : (s.logClose code sn args).held = s.held := by simp [State.logClose]
@[simp] theorem State.logClose_outbox (s : State) (code : Nat) (sn : SegNo) (args : List (Nat × Nat)) : (s.logClose code sn args).outbox = s.outbox := by simp [State.logClose]
@[simp] theorem State.logClose_mem (s : State) (code : Nat) (sn : SegNo) (args : List (Nat × Nat)) : (s.logClose code sn args).mem = s.mem := by simp [State.logClose]
@[simp] theorem State.logClose_freeCtr (s : State) (code : Nat) (sn : SegNo) (args : List (Nat × Nat)) : (s.logClose code sn args).freeCtr = s.freeCtr := by simp [State.logClose]

@[simp] theorem State.writeIgnored_pending (s : State) (off reason : Nat) : (s.writeIgnored off reason).pending = s.pending := by simp [State.writeIgnored]
@[simp] theorem State.writeIgnored_shadow (s : State) (off reason : Nat) : (s.writeIgnored off reason).shadow = s.shadow := by simp [State.writeIgnored]
@[simp] theorem State.writeIgnored_live (s : State) (off reason : Nat) : (s.writeIgnored off reason).live = s.live := by simp [State.writeIgnored]
@[simp] theorem State.writeIgnored_pt (s : State) (off reason : Nat) : (s.writeIgnored off reason).pt = s.pt := by simp [State.writeIgnored]
@[simp] theorem State.writeIgnored_lines (s : State) (off reason : Nat) : (s.writeIgnored off reason).lines = s.lines := by simp [State.writeIgnored]
@[simp] theorem State.writeIgnored_ptc (s : State) (off reason : Nat) : (s.writeIgnored off reason).ptc = s.ptc := by simp [State.writeIgnored]
@[simp] theorem State.writeIgnored_thy (s : State) (off reason : Nat) : (s.writeIgnored off reason).thy = s.thy := by simp [State.writeIgnored]
@[simp] theorem State.writeIgnored_arr (s : State) (off reason : Nat) : (s.writeIgnored off reason).arr = s.arr := by simp [State.writeIgnored]
@[simp] theorem State.writeIgnored_cnv (s : State) (off reason : Nat) : (s.writeIgnored off reason).cnv = s.cnv := by simp [State.writeIgnored]
@[simp] theorem State.writeIgnored_lfl (s : State) (off reason : Nat) : (s.writeIgnored off reason).lfl = s.lfl := by simp [State.writeIgnored]
@[simp] theorem State.writeIgnored_cal (s : State) (off reason : Nat) : (s.writeIgnored off reason).cal = s.cal := by simp [State.writeIgnored]
@[simp] theorem State.writeIgnored_pip (s : State) (off reason : Nat) : (s.writeIgnored off reason).pip = s.pip := by simp [State.writeIgnored]
@[simp] theorem State.writeIgnored_sor (s : State) (off reason : Nat) : (s.writeIgnored off reason).sor = s.sor := by simp [State.writeIgnored]
@[simp] theorem State.writeIgnored_chv (s : State) (off reason : Nat) : (s.writeIgnored off reason).chv = s.chv := by simp [State.writeIgnored]
@[simp] theorem State.writeIgnored_clk (s : State) (off reason : Nat) : (s.writeIgnored off reason).clk = s.clk := by simp [State.writeIgnored]
@[simp] theorem State.writeIgnored_commit (s : State) (off reason : Nat) : (s.writeIgnored off reason).commit = s.commit := by simp [State.writeIgnored]
@[simp] theorem State.writeIgnored_boot (s : State) (off reason : Nat) : (s.writeIgnored off reason).boot = s.boot := by simp [State.writeIgnored]
@[simp] theorem State.writeIgnored_jtag (s : State) (off reason : Nat) : (s.writeIgnored off reason).jtag = s.jtag := by simp [State.writeIgnored]
@[simp] theorem State.writeIgnored_hkp (s : State) (off reason : Nat) : (s.writeIgnored off reason).hkp = s.hkp := by simp [State.writeIgnored]
@[simp] theorem State.writeIgnored_bay (s : State) (off reason : Nat) : (s.writeIgnored off reason).bay = s.bay := by simp [State.writeIgnored]
@[simp] theorem State.writeIgnored_dma (s : State) (off reason : Nat) : (s.writeIgnored off reason).dma = s.dma := by simp [State.writeIgnored]
@[simp] theorem State.writeIgnored_held (s : State) (off reason : Nat) : (s.writeIgnored off reason).held = s.held := by simp [State.writeIgnored]
@[simp] theorem State.writeIgnored_outbox (s : State) (off reason : Nat) : (s.writeIgnored off reason).outbox = s.outbox := by simp [State.writeIgnored]
@[simp] theorem State.writeIgnored_mem (s : State) (off reason : Nat) : (s.writeIgnored off reason).mem = s.mem := by simp [State.writeIgnored]
@[simp] theorem State.writeIgnored_freeCtr (s : State) (off reason : Nat) : (s.writeIgnored off reason).freeCtr = s.freeCtr := by simp [State.writeIgnored]

end Sys2Proof.Machine
end

