-- ==== Sys2Proof/Laws/Frame.lean ====
section
/-! SUPPORT. How frames compose, and the frame of each shared operation: which parts and which register fields it may
change, stated once. -/

namespace Sys2Proof.Machine

/-! ### Frames compose -/

theorem Part.same_refl (p : Part) (s : State) : p.same s s := by cases p <;> rfl

theorem Part.same_trans {p : Part} {s t u : State} (h : p.same s t) (k : p.same t u) : p.same s u := by
  cases p <;> simp only [Part.same] at * <;> rw [k, h]

theorem OnlyIn.refl (l : List Part) (s : State) : OnlyIn l s s := fun p _ => p.same_refl s

theorem OnlyIn.trans {l : List Part} {s t u : State} (h : OnlyIn l s t) (k : OnlyIn l t u) : OnlyIn l s u :=
  fun p hp => Part.same_trans (h p hp) (k p hp)

theorem OnlyIn.mono {l m : List Part} {s t : State} (h : OnlyIn l s t) (hl : ∀ p ∈ l, p ∈ m) : OnlyIn m s t :=
  fun p hp => h p (fun hq => hp (hl p hq))

theorem RegsSame.refl (l : List Field) (s : State) : RegsSame l s s := fun _ _ => rfl

theorem RegsSame.trans {l : List Field} {s t u : State} (h : RegsSame l s t) (k : RegsSame l t u) : RegsSame l s u :=
  fun f hf => (k f hf).trans (h f hf)

theorem RegsSame.mono {l m : List Field} {s t : State} (h : RegsSame l s t) (hl : ∀ f ∈ l, f ∈ m) : RegsSame m s t :=
  fun f hf => h f (fun hq => hf (by
    obtain ⟨g, hg, e⟩ := List.mem_map.1 hq
    exact List.mem_map.2 ⟨g, hl g hg, e⟩))

/-- States with one register file agree on every register. -/
theorem RegsSame.of_regs {l : List Field} {s t : State} (h : t.regs = s.regs) : RegsSame l s t :=
  fun f _ => by rw [State.reg, State.reg, h]

theorem Changes.refl (p : List Part) (l : List Field) (s : State) : Changes p l s s := ⟨OnlyIn.refl p s, RegsSame.refl l s⟩

theorem Changes.trans {p : List Part} {l : List Field} {s t u : State} (h : Changes p l s t) (k : Changes p l t u) :
    Changes p l s u := ⟨h.1.trans k.1, h.2.trans k.2⟩

theorem Changes.mono {p q : List Part} {l m : List Field} {s t : State} (h : Changes p l s t) (hp : ∀ x ∈ p, x ∈ q)
    (hl : ∀ f ∈ l, f ∈ m) : Changes q m s t := ⟨h.1.mono hp, h.2.mono hl⟩

/-! ### Register updates -/

theorem OnlyIn.setReg (s : State) (f : Field) (v : Nat) : OnlyIn [.regs] s (s.setReg f v) := by
  intro p hp; cases p <;> first | rfl | simp at hp

theorem RegsSame.setReg (s : State) (f : Field) (v : Nat) : RegsSame [f] s (s.setReg f v) :=
  fun _ hg => State.reg_setReg_ne s v (fun e => hg (by simp [e]))

theorem Changes.setReg (s : State) (f : Field) (v : Nat) : Changes [.regs] [f] s (s.setReg f v) :=
  ⟨OnlyIn.setReg s f v, RegsSame.setReg s f v⟩

theorem Changes.setFlag (s : State) (f : Field) (b : Bool) : Changes [.regs] [f] s (s.setFlag f b) := Changes.setReg s f _

theorem Changes.addReg (s : State) (f : Field) (n : Nat) : Changes [.regs] [f] s (s.addReg f n) := Changes.setReg s f _

theorem Changes.emit (s : State) (e : Emission) : Changes [.outbox] [] s (s.emit e) :=
  ⟨fun p hp => by cases p <;> first | exact absurd (by decide) hp | rfl, RegsSame.of_regs rfl⟩

/-! ### Events (10_host_interface_and_dma.md R344, R345) -/

theorem RegsSame.enqueue (s : State) (code : Nat) (sn : SegNo) (pt : PressTime) (args : List (Nat × Nat)) :
    RegsSame attnFields s (s.enqueue code sn pt args) := by
  unfold State.enqueue
  split
  · exact RegsSame.of_regs rfl
  · exact (RegsSame.setReg { s with fifoLost := s.fifoLost + 1 } F.DMA_STAT_EVT_LOST 1).mono (by simp [attnFields])

theorem RegsSame.attend (s : State) (c : Nat) : RegsSame attnFields s (s.attend c) := by
  have a : RegsSame attnFields s (s.setReg F.TWI_ATTN_SRC_ALARM 1) := (RegsSame.setReg s _ _).mono (by simp [attnFields])
  have b : RegsSame attnFields s (s.setBitOf F.TWI_ATTN_SRC_CLASS (c - 1)) :=
    (RegsSame.setReg s _ _).mono (by simp [attnFields])
  unfold State.attend
  split
  · split
    · split
      · exact RegsSame.refl _ s
      · exact fun f hf => a f hf
    · split
      · exact RegsSame.refl _ s
      · exact fun f hf => b f hf
  · exact RegsSame.refl _ s

theorem RegsSame.logAt (s : State) (code : Nat) (sn : SegNo) (pt : PressTime) (args : List (Nat × Nat)) :
    RegsSame attnFields s (s.logAt code sn pt args) :=
  (RegsSame.attend s _).trans (RegsSame.enqueue _ code sn pt args)

theorem RegsSame.log (s : State) (code : Nat) (args : List (Nat × Nat)) : RegsSame attnFields s (s.log code args) :=
  RegsSame.logAt s code _ _ args

theorem OnlyIn.logAt (s : State) (code : Nat) (sn : SegNo) (pt : PressTime) (args : List (Nat × Nat)) :
    OnlyIn logParts s (s.logAt code sn pt args) := by
  intro p hp; cases p <;> first | exact absurd (by decide) hp | simp [Part.same]

theorem OnlyIn.log (s : State) (code : Nat) (args : List (Nat × Nat)) : OnlyIn logParts s (s.log code args) :=
  OnlyIn.logAt s code _ _ args

theorem Changes.logAt (s : State) (code : Nat) (sn : SegNo) (pt : PressTime) (args : List (Nat × Nat)) :
    Changes logParts attnFields s (s.logAt code sn pt args) := ⟨OnlyIn.logAt s code sn pt args, RegsSame.logAt s code sn pt args⟩

theorem Changes.log (s : State) (code : Nat) (args : List (Nat × Nat)) : Changes logParts attnFields s (s.log code args) :=
  Changes.logAt s code _ _ args

/-- What logging does to the FIFO: the record stands at its end, or is counted where it is full. -/
theorem LoggedAt.logAt (s : State) (code : Nat) (sn : SegNo) (pt : PressTime) (args : List (Nat × Nat)) :
    LoggedAt s (s.logAt code sn pt args) code sn pt args := by
  have pos : (s.attend (code / 256)).posNow = s.posNow := RegsSame.attend s _ _ (by decide)
  unfold LoggedAt State.logAt State.enqueue
  simp only [State.attend_fifo, State.attend_evtSeq, State.attend_fifoLost, pos]
  split
  · simp
  · exact ⟨rfl, rfl, State.reg_setReg_same _ _ _⟩

theorem Logged.log (s : State) (code : Nat) (args : List (Nat × Nat)) : Logged s (s.log code args) code args :=
  LoggedAt.logAt s code _ _ args

end Sys2Proof.Machine
end

