-- ==== Sys2Proof/Laws/Ops.lean ====
section
/-! SUPPORT. The shared operations as later proofs use them: the gates of a host's access, reads of the register file
after events and updates, and the counters. -/

namespace Sys2Proof.Machine

/-! ### The gates of a host's access (R374, R376, R432) -/

/-- Where the module takes writes, an action of the host acts. -/
theorem State.hostAction_run {s : State} (h : s.takesWrites) (off : Nat) (f : State → State) :
    s.hostAction off f = f s := by
  obtain ⟨a, b, c⟩ := h
  have : ¬ s.reg F.CFG_BOOT_STAT_PHASE < 5 := by omega
  simp [State.hostAction, a, c, this]

theorem State.hostLive_run {s : State} (h : s.takesWrites) (g : s.flag F.CFG_BOOT_STAT_SAFE = false) (off : Nat)
    (f : State → State) : s.hostLive off f = f s := by
  simp [State.hostLive, State.hostAction_run h, g]

theorem State.hostHold_run {s : State} (h : s.takesWrites) (f : State → State) : s.hostHold f = f s := by
  obtain ⟨a, b, c⟩ := h
  have : ¬ s.reg F.CFG_BOOT_STAT_PHASE < 5 := by omega
  simp [State.hostHold, a, this]

/-- Outside run nothing that a host sends acts. -/
theorem State.hostAction_off {s : State} (h : s.boot.supply ≠ .run) (off : Nat) (f : State → State) :
    s.hostAction off f = s := by
  simp [State.hostAction, h]

/-! ### Reads of the register file after an event -/

@[simp] theorem State.log_get (s : State) (code : Nat) (args : List (Nat × Nat)) (f : Field)
    (h : f.key ∉ attnFields.map Field.key) : (s.log code args).regs.get f = s.regs.get f := RegsSame.log s code args f h

@[simp] theorem State.logAt_get (s : State) (code : Nat) (sn : SegNo) (pt : PressTime) (args : List (Nat × Nat))
    (f : Field) (h : f.key ∉ attnFields.map Field.key) : (s.logAt code sn pt args).regs.get f = s.regs.get f :=
  RegsSame.logAt s code sn pt args f h

@[simp] theorem State.setFlag_regs (s : State) (f : Field) (b : Bool) :
    (s.setFlag f b).regs = s.regs.set f (boolBit b) := rfl

@[simp] theorem State.addReg_regs (s : State) (f : Field) (n : Nat) :
    (s.addReg f n).regs = s.regs.set f (s.regs.get f + n) := rfl

@[simp] theorem boolBit_true : boolBit true = 1 := rfl

@[simp] theorem boolBit_false : boolBit false = 0 := rfl

/-- An event logged in a state that agrees with `s` on what its record shows is logged from `s`. -/
theorem LoggedAt.of_same {s u t : State} {code : Nat} {sn : SegNo} {pt : PressTime} {args : List (Nat × Nat)}
    (h : LoggedAt u t code sn pt args) (fifo : u.fifo = s.fifo) (lost : u.fifoLost = s.fifoLost)
    (seq : u.evtSeq = s.evtSeq) (pos : u.posNow = s.posNow) : LoggedAt s t code sn pt args := by
  unfold LoggedAt at *; rw [fifo, lost, seq, pos] at h; exact h

theorem Logged.of_same {s u t : State} {code : Nat} {args : List (Nat × Nat)} (h : Logged u t code args)
    (fifo : u.fifo = s.fifo) (lost : u.fifoLost = s.fifoLost) (seq : u.evtSeq = s.evtSeq) (pos : u.posNow = s.posNow)
    (sn : u.snNow = s.snNow) (pt : u.pt = s.pt) : Logged s t code args := by
  unfold Logged at *; rw [sn, pt] at h; exact h.of_same fifo lost seq pos

/-! ### Counters (02_press_time_and_counters.md) -/

theorem State.cnt_setCnt_same {s : State} {n : Nat} {c : Counter} (h : n < s.ptc.counters.length) :
    (s.setCnt n c).cnt n = c := by
  simp [State.cnt, State.setCnt, h]

theorem State.cnt_setCnt_ne {s : State} {n k : Nat} {c : Counter} (h : k ≠ n) : (s.setCnt n c).cnt k = s.cnt k := by
  simp [State.cnt, State.setCnt, Ne.symm h]

theorem Changes.setCnt (s : State) (n : Nat) (c : Counter) : Changes [.ptc] [] s (s.setCnt n c) :=
  ⟨fun p hp => by cases p <;> first | exact absurd (by decide) hp | rfl, RegsSame.of_regs rfl⟩

end Sys2Proof.Machine
end

