-- ==== Sys2Proof/Laws/Units.lean ====
section
/-! SUPPORT. The numbered units of a part, ports, rings, streams, detectors, groups and strobes: each reads as it was
last set, the others stay, and nothing else changes. -/

namespace Sys2Proof.Machine

theorem State.port_setPort_same {s : State} {n : Nat} {x : ChvPort} (h : n < s.chv.ports.length) :
    (s.setPort n x).port n = x := by
  simp [State.port, State.setPort, h]

theorem State.port_setPort_ne {s : State} {n k : Nat} {x : ChvPort} (h : k ≠ n) : (s.setPort n x).port k = s.port k := by
  simp [State.port, State.setPort, Ne.symm h]

@[simp] theorem State.setPort_regs (s : State) (n : Nat) (x : ChvPort) : (s.setPort n x).regs = s.regs := rfl

@[simp] theorem State.setPort_length (s : State) (n : Nat) (x : ChvPort) :
    (s.setPort n x).chv.ports.length = s.chv.ports.length := by
  simp [State.setPort]

theorem Changes.setPort (s : State) (n : Nat) (x : ChvPort) : Changes [.chv] [] s (s.setPort n x) :=
  ⟨fun p hp => by cases p <;> first | exact absurd (by decide) hp | rfl, RegsSame.of_regs rfl⟩

theorem State.ring_setRing_same {s : State} {n : Nat} {x : Ring} (h : n < s.dma.rings.length) :
    (s.setRing n x).ring n = x := by
  simp [State.ring, State.setRing, h]

theorem State.ring_setRing_ne {s : State} {n k : Nat} {x : Ring} (h : k ≠ n) : (s.setRing n x).ring k = s.ring k := by
  simp [State.ring, State.setRing, Ne.symm h]

@[simp] theorem State.setRing_regs (s : State) (n : Nat) (x : Ring) : (s.setRing n x).regs = s.regs := rfl

@[simp] theorem State.setRing_length (s : State) (n : Nat) (x : Ring) :
    (s.setRing n x).dma.rings.length = s.dma.rings.length := by
  simp [State.setRing]

theorem Changes.setRing (s : State) (n : Nat) (x : Ring) : Changes [.dma] [] s (s.setRing n x) :=
  ⟨fun p hp => by cases p <;> first | exact absurd (by decide) hp | rfl, RegsSame.of_regs rfl⟩

theorem State.stream_setStream_same {s : State} {n : Nat} {x : Stream} (h : n < s.pip.streams.length) :
    (s.setStream n x).stream n = x := by
  simp [State.stream, State.setStream, h]

theorem State.stream_setStream_ne {s : State} {n k : Nat} {x : Stream} (h : k ≠ n) : (s.setStream n x).stream k = s.stream k := by
  simp [State.stream, State.setStream, Ne.symm h]

@[simp] theorem State.setStream_regs (s : State) (n : Nat) (x : Stream) : (s.setStream n x).regs = s.regs := rfl

@[simp] theorem State.setStream_length (s : State) (n : Nat) (x : Stream) :
    (s.setStream n x).pip.streams.length = s.pip.streams.length := by
  simp [State.setStream]

theorem Changes.setStream (s : State) (n : Nat) (x : Stream) : Changes [.pip] [] s (s.setStream n x) :=
  ⟨fun p hp => by cases p <;> first | exact absurd (by decide) hp | rfl, RegsSame.of_regs rfl⟩

theorem State.det_setDet_same {s : State} {n : Nat} {x : Det} (h : n < s.lfl.dets.length) :
    (s.setDet n x).det n = x := by
  simp [State.det, State.setDet, h]

theorem State.det_setDet_ne {s : State} {n k : Nat} {x : Det} (h : k ≠ n) : (s.setDet n x).det k = s.det k := by
  simp [State.det, State.setDet, Ne.symm h]

@[simp] theorem State.setDet_regs (s : State) (n : Nat) (x : Det) : (s.setDet n x).regs = s.regs := rfl

@[simp] theorem State.setDet_length (s : State) (n : Nat) (x : Det) :
    (s.setDet n x).lfl.dets.length = s.lfl.dets.length := by
  simp [State.setDet]

theorem Changes.setDet (s : State) (n : Nat) (x : Det) : Changes [.lfl] [] s (s.setDet n x) :=
  ⟨fun p hp => by cases p <;> first | exact absurd (by decide) hp | rfl, RegsSame.of_regs rfl⟩

theorem State.pix_setPix_same {s : State} {n : Nat} {x : GroupPix} (h : n < s.arr.groups.length) :
    (s.setPix n x).pix n = x := by
  simp [State.pix, State.setPix, h]

theorem State.pix_setPix_ne {s : State} {n k : Nat} {x : GroupPix} (h : k ≠ n) : (s.setPix n x).pix k = s.pix k := by
  simp [State.pix, State.setPix, Ne.symm h]

@[simp] theorem State.setPix_regs (s : State) (n : Nat) (x : GroupPix) : (s.setPix n x).regs = s.regs := rfl

@[simp] theorem State.setPix_length (s : State) (n : Nat) (x : GroupPix) :
    (s.setPix n x).arr.groups.length = s.arr.groups.length := by
  simp [State.setPix]

theorem Changes.setPix (s : State) (n : Nat) (x : GroupPix) : Changes [.arr] [] s (s.setPix n x) :=
  ⟨fun p hp => by cases p <;> first | exact absurd (by decide) hp | rfl, RegsSame.of_regs rfl⟩

theorem State.strobe_setStrobe_same {s : State} {n : Nat} {x : StrobePin} (h : n < s.arr.strobes.length) :
    (s.setStrobe n x).strobe n = x := by
  simp [State.strobe, State.setStrobe, h]

theorem State.strobe_setStrobe_ne {s : State} {n k : Nat} {x : StrobePin} (h : k ≠ n) : (s.setStrobe n x).strobe k = s.strobe k := by
  simp [State.strobe, State.setStrobe, Ne.symm h]

@[simp] theorem State.setStrobe_regs (s : State) (n : Nat) (x : StrobePin) : (s.setStrobe n x).regs = s.regs := rfl

@[simp] theorem State.setStrobe_length (s : State) (n : Nat) (x : StrobePin) :
    (s.setStrobe n x).arr.strobes.length = s.arr.strobes.length := by
  simp [State.setStrobe]

theorem Changes.setStrobe (s : State) (n : Nat) (x : StrobePin) : Changes [.arr] [] s (s.setStrobe n x) :=
  ⟨fun p hp => by cases p <;> first | exact absurd (by decide) hp | rfl, RegsSame.of_regs rfl⟩

/-- With no capture waiting for an input event, an input event takes none (R71, R72). -/
theorem State.takeCaptures_none {s : State} {n : Nat} (h : (s.cnt n).captDue = []) :
    s.takeCaptures n = s.setCnt n (s.cnt n) := by
  have : { s.cnt n with captDue := [] } = s.cnt n := by rw [← h]
  simp [State.takeCaptures, h, this]

/-- What a message of MSI-X can do (R342): it leaves, or its pending bit is set. -/
theorem Changes.sendMsix (s : State) (v : Nat) : Changes [.dma, .outbox] [] s (s.sendMsix v) := by
  unfold State.sendMsix
  split
  · exact ⟨fun p hp => by cases p <;> first | exact absurd (by decide) hp | rfl, RegsSame.of_regs rfl⟩
  · exact (Changes.emit s _).mono (by decide) (by simp)

/-- A port that is to train again (R287): it powers up at once, or waits for the lock of PLL-T and PLL-C. -/
theorem Changes.restartPort (s : State) (p : Nat) :
    Changes [.chv, .regs] [F.CHV_PORT_STAT_STATE p] s (s.restartPort p) := by
  unfold State.restartPort
  split
  · exact ((Changes.setPort s p _).mono (by decide) (by simp)).trans ((Changes.setReg _ _ _).mono (by decide) (by simp))
  · exact (Changes.setPort s p _).mono (by decide) (by simp)

end Sys2Proof.Machine
end

