-- ==== Sys2Proof/Tests/Slice0.lean ====
section
/-! SUPPORT. The project's own tests: the refusals of the well-formedness check, a few steps on fixed values taken from
the spec, and for each statement of Certificates/Slice0/Obligations.lean a state and operands that meet the hypotheses
of its clauses. -/

namespace Sys2Proof.Tests

set_option Elab.async false

open Sys2Proof.Machine

/-! ### States -/

/-- A state with fields of the register file set. -/
def put (s : State) (l : List (Field × Nat)) : State := l.foldl (fun (s : State) x => s.setReg x.1 x.2) s

/-- A module in STANDBY after boot, TCLK running. -/
def standby : State :=
  put { State.reset with
      boot := { Boot.reset with supply := .run, resetN := true },
      clk := { State.reset.clk with ptMode := .ticks },
      arr := { Arr.reset with kills := 0, strobes := List.replicate 6 .low } }
    [(F.CFG_BOOT_STAT_PHASE, 5), (F.HKP_PWR_STATE, 2), (F.CLK_PLL_STAT_GATED 0, 0), (F.CLK_PLL_STAT_GATED 1, 0),
      (F.CLK_PLL_STAT_GATED 4, 0), (F.CLK_MON_LF_OK, 1), (F.CLK_MON_XREF_OK, 1), (F.CHV_POS_POS, 2)]

/-- The head of a chain of three, synchronised. -/
def head : State :=
  put standby [(F.CHV_POS_HEAD, 1), (F.CHV_POS_POS, 0), (F.CHV_POS_N, 3), (F.CHV_SYNC_SYNCED, 1),
    (F.CHV_PORT_STAT_STATE 1, 3), (F.THY_CTL_EN, 1)]

/-- A module of a chain, synchronised, that is not its head. -/
def tail : State :=
  put standby [(F.CHV_POS_N, 3), (F.CHV_SYNC_SYNCED, 1), (F.CHV_PORT_STAT_STATE 0, 3), (F.CHV_PORT_STAT_STATE 1, 3),
    (F.THY_CTL_EN, 1)]

/-- Launching lines. -/
def launching (s : State) : State := put s [(F.THY_CTL_RUNNING, 1), (F.HKP_PWR_STATE, 3)]

/-- With counter `n` as given. -/
def withCnt (s : State) (n : Nat) (c : Counter) : State := s.setCnt n c

/-! ### The step, press time and the counters -/

theorem meets_StepRunsTheFrontCommand :
    { standby with pending := [.go, .discard] }.pending = .go :: [.discard] := rfl

def slewing (n : Int) : State := { standby with ptc := { Ptc.reset with slewLeft := n } }

theorem meets_IdleStepsAdvancePressTime :
    (standby.pending = [] ∧ standby.ticks = true ∧ standby.ptc.slewLeft = 0) ∧
    (State.reset.pending = [] ∧ State.reset.ticks = false) ∧
    ((slewing 1).pending = [] ∧ (slewing 1).ticks = true ∧ (slewing 1).ptc.slewPhase = 0 ∧ (slewing 1).ptc.slewLeft ≠ 0) ∧
    ((slewing (-64)).pending = [] ∧ (slewing (-64)).ticks = true ∧ (slewing (-64)).ptc.slewPhase = 0 ∧
      (slewing (-64)).ptc.slewLeft ≠ 0) := by decide +kernel

theorem standby_takesWrites : standby.takesWrites := by refine ⟨?_, ?_, ?_⟩ <;> decide +kernel
theorem head_takesWrites : head.takesWrites := by refine ⟨?_, ?_, ?_⟩ <;> decide +kernel
theorem tail_takesWrites : tail.takesWrites := by refine ⟨?_, ?_, ?_⟩ <;> decide +kernel
theorem launchingHead_takesWrites : (launching head).takesWrites := by refine ⟨?_, ?_, ?_⟩ <;> decide +kernel
theorem launchingTail_takesWrites : (launching tail).takesWrites := by refine ⟨?_, ?_, ?_⟩ <;> decide +kernel

def stepping : State := { tail with chv := { Chv.reset with stepDue := some 65 } }

theorem meets_PressTimeLoadAndStep :
    (head.takesWrites ∧ head.isHead = true ∧ head.isRunning = false) ∧ (tail.takesWrites ∧ tail.isHead = false) ∧
    (stepping.chv.stepDue = some 65 ∧ stepping.lineInFlight = false) :=
  ⟨⟨head_takesWrites, by decide +kernel⟩, ⟨tail_takesWrites, by decide +kernel⟩, by decide +kernel⟩

def armedCnt : State := put standby [(F.PTC_CNT_CTL_ARM 7, 1), (F.PTC_CNT_CTL_EN 7, 1)]

theorem meets_CounterActionsOfTheHost :
    armedCnt.takesWrites ∧ 7 < 8 ∧ armedCnt.ptc.counters.length = 8 ∧
      armedCnt.latched (F.PTC_CNT_CAPT_PT_V 7).off = false ∧ 2 ^ 24 + 2 ^ 25 < 2 ^ 32 ∧
      bitAt (2 ^ 24 + 2 ^ 25) 24 = true ∧ bitAt (2 ^ 24 + 2 ^ 25) 25 = true :=
  ⟨by refine ⟨?_, ?_, ?_⟩ <;> decide +kernel, by decide +kernel⟩

/-- Counter `n` enabled with source `src`, PERIOD 5 and a prescaler of 2 input events. -/
def counting (n src : Nat) (c : Counter) : State :=
  withCnt (put standby [(F.PTC_CNT_CTL_EN n, 1), (F.PTC_CNT_CTL_SRC n, src), (F.PTC_CNT_PERIOD_V n, 5),
    (F.PTC_CNT_PRESC_P n, 2), (F.PTC_CNT_FRAC_F n, 0x800000)]) n c

def lapping : State := counting 7 1 { Counter.reset with count := 4, need := 2, n := 1, acc := 0x800000 }

theorem meets_CountersCountAndLink :
    7 < 8 ∧ lapping.ptc.counters.length = 8 ∧ lapping.edgesCount = true ∧ lapping.reg (F.PTC_CNT_CTL_SRC 7) = 1 ∧
      lapping.cntRuns 7 = true ∧ (lapping.cnt 7).n + 1 = (lapping.cnt 7).need ∧
      lapping.period 7 ≤ (lapping.cnt 7).count + 1 := by decide +kernel

/-- Counter 7 counts the matches of counter 6 (source 10), and an event of it waits. -/
def linkedCnt (src : Nat) (c : Counter) : State :=
  put (counting 7 src { c with inDue := [false], need := 2, n := 1 })
    [(F.PTC_CNT_CTL_SRC_SEL 7, 6), (F.PTC_CNT_CMP_V 7, 4), (F.PTC_CNT_LINK_MATCH_RST 7, 1), (F.PTC_CNT_LINK_MATCH_START 7, 2),
      (F.PTC_CNT_LINK_LAP_RST 7, 4), (F.PTC_CNT_LINK_LAP_START 7, 8), (F.PTC_CNT_CTL_LOG_MATCH 7, 1),
      (F.PTC_CNT_CTL_LOG_LAP 7, 1), (F.PTC_CNT_CTL_ONESHOT 7, 1), (F.PTC_CNT_CTL_SRC 3, 10), (F.PTC_CNT_CTL_SRC_SEL 3, 7),
      (F.PTC_CNT_CTL_SRC 4, 11), (F.PTC_CNT_CTL_SRC_SEL 4, 7), (F.PTC_CNT_CAPTCTL_CAPT_SRC 2, 6), (F.PTC_CNT_CAPTCTL_CAPT_SEL 2, 7)]

/-- A match without a lap, at the last count before one, and a lap without a match, of every source from 4 up; the same
with a record of the last 65,536 ticks, and an event that does not complete the count. -/
theorem meets_CountersCountAndLink_events :
    (∀ src ∈ [4, 6, 7, 8, 9, 10, 11], ∀ n ∈ [3, 4], ∀ l ∈ [none, some (0 : PressTime)],
      let s := linkedCnt src { Counter.reset with count := n, lastLog := l }
      s.ptc.counters.length = 8 ∧ s.cntRuns 7 = true ∧ s.reg (F.PTC_CNT_CTL_SRC 7) = src ∧
        (s.cnt 7).inDue.head? = some false ∧ (s.cnt 7).captDue = [] ∧ (s.cnt 7).n + 1 = (s.cnt 7).need ∧
        (s.cnt 7).lastLog = l ∧ (s.pt - 0).toNat < 65536 ∧ (∀ k, k < 8 → s.latched (F.PTC_CNT_CAPT_PT_V k).off = false) ∧
        (n = 3 → n + 1 = s.reg (F.PTC_CNT_CMP_V 7) ∧ n + 1 < s.period 7 ∧ s.flag (F.PTC_CNT_CTL_LOG_MATCH 7) = true) ∧
        (n = 4 → s.period 7 ≤ n + 1 ∧ 0 ≠ s.reg (F.PTC_CNT_CMP_V 7) ∧ s.flag (F.PTC_CNT_CTL_LOG_LAP 7) = true)) ∧
    ((linkedCnt 4 Counter.reset).reg (F.PTC_CNT_CAPTCTL_CAPT_SRC 2) = 6 ∧
      (linkedCnt 4 Counter.reset).reg (F.PTC_CNT_CAPTCTL_CAPT_SEL 2) = 7 ∧ ((linkedCnt 4 Counter.reset).cnt 2).inDue = []) ∧
    ((counting 7 10 { Counter.reset with inDue := [false], need := 3, n := 1 }).cnt 7).n + 1 ≠ 3 := by decide +kernel

/-- Press time advances from LFCLK, and counter 7 counts `src` with period 5, at both sides of the carry. -/
def bursting (src lf : Nat) : State :=
  let s := put (counting 7 src { Counter.reset with need := 1, lfTclk := lf, lfXref := lf })
    [(F.PTC_CNT_PRESC_P 7, 1), (F.PTC_CNT_FRAC_F 7, 0), (F.PTC_CNT_CMP_V 7, 4)]
  { s with clk := { s.clk with ptMode := .lf } }

theorem meets_CountersCountAndLink_bursts :
    (∀ x ∈ [(1, 2000), (1, 2001), (2, 30), (2, 31), (3, 0)], (bursting x.1 x.2).ptc.counters.length = 8 ∧
      (bursting x.1 x.2).clk.ptMode = .lf ∧ (bursting x.1 x.2).clk.lfLost = false ∧
      (bursting x.1 x.2).hkp.sleeping = false ∧ (bursting x.1 x.2).cntRuns 7 = true ∧
      (bursting x.1 x.2).reg (F.PTC_CNT_CTL_SRC 7) = x.1 ∧ ((bursting x.1 x.2).cnt 7).lfTclk = x.2 ∧
      ((bursting x.1 x.2).cnt 7).lfXref = x.2 ∧ (bursting x.1 x.2).flag (F.PTC_CNT_CTL_ONESHOT 7) = false ∧
      ((bursting x.1 x.2).cnt 7).need = 1 ∧ ((bursting x.1 x.2).cnt 7).n = 0 ∧ ((bursting x.1 x.2).cnt 7).acc = 0 ∧
      ((bursting x.1 x.2).cnt 7).count = 0 ∧ ((bursting x.1 x.2).cnt 7).cmpHeld = false ∧
      (bursting x.1 x.2).period 7 = 5 ∧ (0 + 4) % 5 = (bursting x.1 x.2).reg (F.PTC_CNT_CMP_V 7)) ∧
    (2000 + 47 < 2048 ∧ 2048 ≤ 2001 + 47 ∧ 30 + 97 < 128 ∧ 128 ≤ 31 + 97 ∧ 2 ≤ (0 + 2861) / 5) ∧
    ((armedCnt.cntRuns 7 = false ∧ armedCnt.reg (F.PTC_CNT_CTL_SRC 7) = 0) ∧
      (put armedCnt [(F.PTC_CNT_CTL_SRC 7, 4)]).cntRuns 7 = false ∧
      4 ≤ (put armedCnt [(F.PTC_CNT_CTL_SRC 7, 4)]).reg (F.PTC_CNT_CTL_SRC 7) ∧
      ((put armedCnt [(F.PTC_CNT_CTL_SRC 7, 4)]).cnt 7).captDue = []) := by decide +kernel

theorem meets_ReverseCountUndoesOne :
    ∀ c ∈ [{ Counter.reset with inDue := [true], n := 1, need := 2, count := 3 },
        { Counter.reset with inDue := [true], n := 0, need := 2, count := 1 },
        { Counter.reset with inDue := [true], n := 0, need := 2, count := 0 },
        { Counter.reset with inDue := [false], n := 1, need := 2, count := 4 }],
      7 < 8 ∧ (counting 7 5 c).ptc.counters.length = 8 ∧ (counting 7 5 c).reg (F.PTC_CNT_CTL_SRC 7) = 5 ∧
        (counting 7 5 c).cntRuns 7 = true ∧ (counting 7 5 c).cnt 7 = c := by decide +kernel

def encoder (mode : Nat) : State := put standby [(F.PTC_ENC_CTL_MODE, mode)]

theorem meets_EncoderCounts :
    ∀ m ∈ [0, 1, 2, 3], (encoder m).encPowered = true ∧ (encoder m).reg F.PTC_ENC_CTL_MODE = m ∧
      true ≠ (encoder m).ptc.encA ∧ true ≠ (encoder m).ptc.encB := by decide +kernel

/-- The latch of counter 7's capture register held through a port. -/
def latching (c : Option (Nat × PressTime)) : State :=
  withCnt { standby with ptc := { Ptc.reset with latches := [(latchKey 1 (F.PTC_CNT_CAPT_PT_V 7).off, 5)] } } 7
    { Counter.reset with capt2 := c }

theorem latching_takesWrites (c : Option (Nat × PressTime)) : (latching c).takesWrites := standby_takesWrites

/-- Counter 7 counts encoder edges and captures at the index; one input event waits, with the captures given. -/
def indexed (due : List (Nat × PressTime)) : State :=
  withCnt (put standby [(F.PTC_CNT_CTL_EN 7, 1), (F.PTC_CNT_CTL_SRC 7, 5), (F.PTC_CNT_CAPTCTL_CAPT_SRC 7, 1)]) 7
    { Counter.reset with inDue := [false], captDue := due }

theorem meets_CapturesIndexAndSnapshot :
    ((latching none).ptc.counters.length = 8 ∧ (latching none).latched (F.PTC_CNT_CAPT_PT_V 7).off = true ∧
      ((latching none).cnt 7).capt2 = none) ∧
    ((latching (some (3, 9))).latched (F.PTC_CNT_CAPT_PT_V 7).off = true ∧
      ((latching (some (3, 9))).cnt 7).capt2 = some (3, 9) ∧
      Assoc.find (latching (some (3, 9))).ptc.latches (latchKey 1 (F.PTC_CNT_CAPT_PT_V 7).off) = some 5 ∧
      Assoc.find (latching (some (3, 9))).ptc.latches (latchKey 0 (F.PTC_CNT_CAPT_PT_V 7).off) = none) ∧
    (standby.encPowered = true ∧ true ≠ standby.flag F.PTC_ENC_CTL_Z_EDGE ∧
      standby.flag F.PTC_ENC_CTL_Z_GATE = false) ∧
    ((indexed []).encPowered = true ∧ true ≠ (indexed []).flag F.PTC_ENC_CTL_Z_EDGE ∧
      (indexed []).flag F.PTC_ENC_CTL_Z_GATE = false ∧ (indexed []).ptc.counters.length = 8 ∧
      (indexed []).reg (F.PTC_CNT_CAPTCTL_CAPT_SRC 7) = 1 ∧ ((indexed []).cnt 7).inDue ≠ []) ∧
    ((indexed [(1, 44)]).ptc.counters.length = 8 ∧ 4 ≤ (indexed [(1, 44)]).reg (F.PTC_CNT_CTL_SRC 7) ∧
      (indexed [(1, 44)]).latched (F.PTC_CNT_CAPT_PT_V 7).off = false ∧ ((indexed [(1, 44)]).cnt 7).inDue = [false] ∧
      ((indexed [(1, 44)]).cnt 7).captDue = [(1, 44)]) ∧
    { standby with ptc := { Ptc.reset with snapDue := true } }.ptc.snapDue = true := by decide +kernel

/-! ### Clocks of press time, and register accesses -/

def onLfclk (gated acc : Nat) : State :=
  put { standby with clk := { State.reset.clk with ptMode := .lf }, ptc := { Ptc.reset with lfAcc := acc } }
    [(F.CLK_PLL_STAT_GATED 0, gated), (F.PTC_PT_CTL_LF, 1)]

/-- Press time that waits for LFCLK, or comes from HKCLK. -/
def fromClock (m : PtMode) : State := { standby with clk := { State.reset.clk with ptMode := m } }

def haltedState : State := { standby with clk := { State.reset.clk with ptMode := .lf, halted := true } }

theorem meets_ClockLossAndDebugHalt :
    (∀ g ∈ [0, 1], ∀ a ∈ [80, 81], (onLfclk g a).clk.lfLost = false ∧ (onLfclk g a).hkp.sleeping = false ∧
      (onLfclk g a).clk.ptMode = .lf ∧ (onLfclk g a).tclkRuns = (g == 0) ∧ (onLfclk g a).ptc.counters.length = 8) ∧
    (∀ m ∈ [PtMode.lfEnter, .hk], (fromClock m).clk.lfLost = false ∧ (fromClock m).hkp.sleeping = false ∧
      (fromClock m).clk.ptMode = m) ∧
    ((onLfclk 1 80).boot.supply = .run ∧ (onLfclk 1 80).clk.lfLost = false ∧ (onLfclk 1 80).gated 0 = true) ∧
    ((put standby [(F.CLK_MON_LF_OK, 0)]).boot.supply = .run ∧ (put standby [(F.CLK_MON_LF_OK, 0)]).clk.halted = false ∧
      (put standby [(F.CLK_MON_LF_OK, 0)]).flag F.CFG_LOCK_LOCKED = false) ∧
    (standby.boot.supply = .run ∧ standby.clk.lfLost = false ∧ standby.clk.ptMode = .ticks) ∧
    ((put standby [(F.CLK_MON_LF_OK, 0)]).flag F.CLK_MON_LF_OK = false) ∧
    (standby.clk.halted = false ∧ standby.flag F.CFG_LOCK_LOCKED = false ∧ standby.flag F.CLK_MON_LF_OK = true) ∧
    ((put standby [(F.CFG_LOCK_LOCKED, 1)]).flag F.CFG_LOCK_LOCKED = true) ∧ haltedState.clk.halted = true ∧
    haltedState.clk.refLost = false ∧ haltedState.thermDown = false ∧
    (put haltedState [(F.HKP_THERM_HOLD, 1)]).clk.halted = true ∧
    (put haltedState [(F.HKP_THERM_HOLD, 1)]).thermDown = true := by
  decide +kernel

def latchedPt : State :=
  { standby with ptc := { Ptc.reset with latches := [(latchKey 1 0x10000, 7)] }, pt := 0x0123456789ABCDEF }

theorem meets_WideReadsAreConsistent :
    latchedPt.boot.supply = .run ∧ latchedPt.booting = false ∧ 0x10000 % 4 = 0 ∧ 0x10000 + 8 ≤ bar0Size ∧
      isWideLow 0x10000 = true ∧ 0x10000 ≠ ptmPt ∧ 0x10000 ≠ ptmHost ∧
      (∀ k, k < 8 → 0x10000 ≠ (F.PTC_CNT_CAPT_PT_V k).off) ∧
      Assoc.find latchedPt.ptc.latches (latchKey 1 0x10000) = some 7 ∧ isWideLow (0x10000 + 4) = false ∧
      0x10000 % 8 = 0 := by
  decide +kernel

/-- The joint latch of the PTM pair held through port 1. -/
def latchedPtm : State :=
  { standby with ptc := { Ptc.reset with
      latches := [(latchKey 1 ptmPt, 7), (latchKey 1 ptmHost, 6), (latchKey 1 ptmHostLow, 5)] } }

theorem meets_WideReadsAreConsistent_ptm :
    (latchedPtm.boot.supply = .run ∧ latchedPtm.booting = false ∧ latchedPtm.flag F.HKP_THERM_HOLD = false ∧
      latchedPtm.reg F.PCX_PTM_PT_V < 2 ^ 64 ∧ latchedPtm.reg F.PCX_PTM_HOST_V < 2 ^ 64) ∧
    (5 < 2 ^ 32 ∧ 6 < 2 ^ 32 ∧ 7 < 2 ^ 32 ∧ Assoc.find latchedPtm.ptc.latches (latchKey 1 ptmHostLow) = some 5 ∧
      Assoc.find latchedPtm.ptc.latches (latchKey 1 ptmHost) = some 6 ∧
      Assoc.find latchedPtm.ptc.latches (latchKey 1 ptmPt) = some 7) := by decide +kernel

/-- Registers whose fields have their own places in one word: of class S, read-only, class X, class B, W1C, class L
with a line boundary, class L with a value that is refused, and class L without a line boundary. -/
theorem plain_places : ∀ off ∈ [0x10118, 0x10114, 0x20058, 0xF013C, 0x10120, 0x10110, 0x120104, 0xC0104],
    ¬ inWindow off ∧ fieldsAt off ≠ [] ∧ ownPlaces off ∧ off % 4 = 0 ∧ off + 4 ≤ bar0Size ∧
      ∀ f ∈ fieldsAt off, standby.reg f < 2 ^ f.w := by
  unfold inWindow ownPlaces
  decide +kernel

/-- The module with the shadow view selected. -/
def viewing : State := put standby [(F.CFG_VIEW_SHADOW, 1)]

theorem meets_ReadsAndTimeoutsOfTheBars :
    (standby.boot.supply = .run ∧ 0x3FFFFE + 2 ≤ bar0Size ∧ ¬ ((2 = 4 ∨ 2 = 8) ∧ 0x3FFFFE % 2 = 0)) ∧
    (0x7FFFC + 4 ≤ bar0Size ∧ 0x7FFFC % 4 = 0 ∧ standby.booting = false ∧ assigned 0x7FFFC = false) ∧
    (viewing.boot.supply = .run ∧ viewing.booting = false ∧ viewing.flag F.HKP_THERM_HOLD = false ∧
      isWideLow 0x10118 = false ∧ isWideLow (0x10118 - 4) = false ∧ viewing.shadowView 0 = true ∧
      (∀ f ∈ fieldsAt 0x10118, f.cls = .s ∧ viewing.shown f = none ∧ f.key ≠ F.CFG_VIEW_SHADOW.key ∧
        viewing.shadowReg f < 2 ^ f.w)) ∧
    (bar0Size < 0x3FFFFD + 4 ∧ bar2Size < 0xFFFFFFF + [1, 2].length) ∧ (0x3FFFFF < bar0Size ∧ 0xFFFFFFF < bar2Size) := by
  decide +kernel

/-- Two words that no register is assigned to answer as the two halves of an 8-byte read do. -/
theorem meets_ReadsOfEightBytes : 0x7FFF8 % 8 = 0 ∧ 0x7FFF8 + 8 ≤ bar0Size ∧
    exec (.bar0Read 0 0x7FFF8 4) standby = .next (standby.emit (.readData 0 4 0)) ∧
    exec (.bar0Read 0 (0x7FFF8 + 4) 4) standby = .next (standby.emit (.readData 0 4 0)) :=
  ⟨by decide +kernel, by decide +kernel, by rfl, by rfl⟩

/-- The configuration locked, and the shadow frozen. -/
def lockedCfg : State := put standby [(F.CFG_LOCK_LOCKED, 1)]
def frozenCfg : State := { standby with commit := { standby.commit with frozen := true } }

/-- Running, with a class L value that waits. -/
def waitsLive : State := { launching head with live := [(F.CAL_SETS_EN.key, 1)] }

theorem meets_WritesFollowTheClass :
    (standby.flag F.CFG_BOOT_STAT_SAFE = false ∧ standby.live = [] ∧ standby.commit.frozen = false ∧
      frozenCfg.commit.frozen = true ∧ assigned 0x7FFFC = false ∧ 0xFFFFFFFF < 2 ^ 32) ∧
    (waitsLive.isRunning = true ∧ waitsLive.ringStopped = false ∧ waitsForLine 0x10110 = true) ∧
    (standby.isRunning = false ∧ waitsForLine 0xC0104 = false) ∧
    (standby.blockRuns 0x20058 = false ∧ (launching head).blockRuns 0x20058 = true) ∧
    (standby.flag F.CFG_LOCK_LOCKED = false ∧ lockedCfg.flag F.CFG_LOCK_LOCKED = true ∧
      standby.flag (F.SEC_SLOT_CTL_STATE ((0xF013C - 0xF0120) / 0x40)) = false ∧
      (put standby [(F.SEC_SLOT_CTL_STATE 0, 1)]).flag (F.SEC_SLOT_CTL_STATE ((0xF013C - 0xF0120) / 0x40)) = true) ∧
    (∀ off ∈ [0x10118, 0x10114, 0x20058, 0xF013C, 0x10120, 0x10110, 0x120104, 0xC0104], wordActions off = []) ∧
    (∀ off ∈ [0x10110, 0xC0104], ∀ f ∈ fieldsAt off, f.acc = .rw → refusedValue f (bitsAt 5 f.lo f.w) = false) ∧
    (∀ f ∈ fieldsAt 0x120104, f.acc = .rw → refusedValue f (bitsAt 0 f.lo f.w) = true) := by
  decide +kernel

theorem meets_WritesFollowTheClass_classes :
    writesOf 0x10118 .rw (some .s) ∧ (∀ f ∈ fieldsAt 0x10114, f.acc = .ro ∨ f.acc = .w1s) ∧
      writesOf 0x10110 .rw (some .l) ∧ writesOf 0x120104 .rw (some .l) ∧ writesOf 0xC0104 .rw (some .l) ∧
      writesOf 0x10120 .w1c none ∧ writesOf 0x20058 .rw (some .x) ∧ writesOf 0xF013C .rw (some .b) := by
  unfold writesOf
  decide +kernel

theorem meets_WritesFollowTheClass_wide :
    fieldsAt 0x10018 = [F.PTC_PT_LOAD_V] ∧ fieldsAt (0x10018 + 4) = [] ∧ ¬ inWindow 0x10018 ∧ ¬ inWindow (0x10018 + 4) ∧
      wordActions 0x10018 = [] ∧ wordActions (0x10018 + 4) = [] ∧ 0x10018 + 8 ≤ bar0Size ∧ F.PTC_PT_LOAD_V.off = 0x10018 ∧
      F.PTC_PT_LOAD_V.cls = .x ∧ F.PTC_PT_LOAD_V.acc = .rw ∧ F.PTC_PT_LOAD_V.lo < 32 ∧
      32 < F.PTC_PT_LOAD_V.lo + F.PTC_PT_LOAD_V.w ∧ F.PTC_PT_LOAD_V.lo + F.PTC_PT_LOAD_V.w ≤ 64 ∧
      standby.reg F.PTC_PT_LOAD_V < 2 ^ F.PTC_PT_LOAD_V.w ∧ standby.blockRuns 0x10018 = false := by
  unfold inWindow
  decide +kernel

theorem meets_WideWritesApplyTogether :
    standby.takesWrites ∧ standby.flag F.CFG_BOOT_STAT_SAFE = false ∧ standby.live = [] ∧
      Assoc.find standby.ptc.holding (latchKey 1 F.BAY_WAKE_PT_V.off) = none ∧ 0xFFFFFFFF < 2 ^ 32 :=
  ⟨standby_takesWrites, by decide +kernel⟩

/-! ### Thyme and the array -/

def anAction (ln : Nat) : Action :=
  { skip := false, ln := BitVec.ofNat 48 ln, t := 5000, sn := 0, boundary := false, cause := 0, reason := 0, own := false,
    idx := 3, start := false, lost := none }

def stoppable (s : State) : State := { launching s with thy := { Thy.reset with armed := [anAction 9], ln := 10 } }

theorem meets_LaunchingStartsAndStops :
    (head.isHead = true ∧ head.flag F.THY_CTL_EN = true ∧ head.isRunning = false ∧
      (head.commit.busy && head.commit.now) = false ∧ head.flag F.CFG_BOOT_STAT_SAFE = false) ∧ tail.isHead = false ∧
    ((stoppable head).isHead = true ∧ (stoppable head).isRunning = true ∧ (stoppable head).thy.stopping = false ∧
      (stoppable head).thy.first = false ∧ (stoppable head).thy.armed ≠ []) ∧
    ((stoppable tail).hearsWest = true ∧ (stoppable tail).isRunning = true ∧ (stoppable tail).thy.armed ≠ []) := by
  decide +kernel

/-- Running with nothing armed, the event stream on. -/
def emptied (s : State) : State := put { launching s with thy := { Thy.reset with ln := 10 } } [(F.DMA_EVT_EN, 1)]

/-- Stopping, with the last action armed. -/
def lastOne (s : State) (a : Action) : State :=
  put { launching s with thy := { Thy.reset with armed := [a], stopping := true } } [(F.DMA_EVT_EN, 1)]

theorem meets_LaunchingStartsAndStops_end :
    (∀ s ∈ [emptied head, emptied tail, lastOne head (anAction 9), lastOne tail { anAction 9 with skip := true, reason := 4 }],
      s.isRunning = true ∧ s.thy.first = false ∧ s.live = [] ∧ s.shadow = [] ∧ s.fifo.length < 240 ∧
        s.reg F.DMA_EVT_EN = 1) ∧
    (∀ s ∈ [emptied head, emptied tail], s.thy.armed = [] ∧ s.thy.stopping = false) ∧
    ((emptied head).isHead = true ∧ (emptied tail).hearsWest = true) ∧
    ((lastOne head (anAction 9)).thy.armed = [anAction 9] ∧ (lastOne head (anAction 9)).thy.stopping = true) := by
  decide +kernel

theorem emptied_takesWrites : (emptied head).takesWrites := by refine ⟨?_, ?_, ?_⟩ <;> decide +kernel

/-- The head in TIMED mode with its next line at `t`. -/
def timed (t : PressTime) : State :=
  put { launching head with thy := { Thy.reset with t0 := t } } [(F.THY_CTL_MODE, 1)]

theorem meets_LinesAreIssuedWithTheirLead :
    let lead := BitVec.ofNat 64 (timed 0).leadEff
    ((timed lead).headIssues = true ∧ (timed lead).nextTime = some lead ∧
      signedDiff lead (timed lead).pt ≤ Int.ofNat (timed lead).leadEff) ∧
    ((timed (lead + 1)).headIssues = true ∧ (timed (lead + 1)).nextTime = some (lead + 1) ∧
      Int.ofNat (timed (lead + 1)).leadEff < signedDiff (lead + 1) (timed (lead + 1)).pt) := by decide +kernel

/-- The same with the line's place in its segment, a frame that was launched at 0, and the boundary requests. -/
def issuing (first : Bool) (n : Nat) (req : Bool) (last : Option (PressTime × Nat)) : State :=
  let s := timed 1000
  { s with thy := { s.thy with first := first, sinceBoundary := n, reqHost := req, last := last } }

/-- The boundary and its cause: the first line, one before line 64 of its segment, one with a request behind it, and the
longest segment; and the skip: PAST, OVERSPEED, inside the hold, and none. -/
theorem meets_LinesAreIssuedWithTheirLead_verdicts :
    (∀ x ∈ [(true, 0, false), (false, 63, true), (false, 64, true), (false, 65536, false)],
      (issuing x.1 x.2.1 x.2.2 none).headIssues = true ∧ (issuing x.1 x.2.1 x.2.2 none).nextTime = some 1000 ∧
        signedDiff 1000 (issuing x.1 x.2.1 x.2.2 none).pt ≤ Int.ofNat (issuing x.1 x.2.1 x.2.2 none).leadEff ∧
        (issuing x.1 x.2.1 x.2.2 none).commit.busy = false) ∧
    ((issuing false 5 false none).thy.last = none ∧ (issuing false 5 false (some (1000 - 65536, 400))).heldTime 1000 = 1000 ∧
      (issuing false 5 false (some (999 - 65536, 400))).heldTime 1000 = 1432 ∧
      Int.ofNat (issuing false 5 false none).lmin ≤ signedDiff 1000 (issuing false 5 false none).pt) ∧
    signedDiff 1000 (500 + BitVec.ofNat 64 (Cfg.minper (issuing false 5 false none).regs)) < 0 ∧
    (timed 100).headIssues = true ∧ (timed 100).nextTime = some 100 ∧ signedDiff 100 (timed 100).pt < Int.ofNat (timed 100).lmin := by
  decide +kernel

def triggered : State := put (launching head) [(F.THY_CTL_MODE, 2)]

theorem meets_HeadInputs :
    (head.isHead = true ∧ head.thy.stallLogged = false) ∧
    { head with thy := { Thy.reset with stallLogged := true } }.thy.stallLogged = true ∧
    ((put triggered [(F.CHV_POS_N, 1)]).encPowered = true ∧ (put triggered [(F.CHV_POS_N, 1)]).headIssues = true ∧
      (put triggered [(F.CHV_POS_N, 1)]).reg F.THY_CTL_MODE = 2 ∧
      (put triggered [(F.CHV_POS_N, 1)]).flag F.THY_TRIG_EDGE ≠ true ∧ (put triggered [(F.CHV_POS_N, 1)]).chainLen = 1 ∧
      (put triggered [(F.CHV_POS_N, 1)]).commit.busy = false) ∧
    (triggered.encPowered = true ∧ triggered.headIssues = true ∧ triggered.reg F.THY_CTL_MODE = 2 ∧
      triggered.flag F.THY_TRIG_EDGE ≠ true ∧ 1 < triggered.chainLen) ∧
    (head.flag F.CFG_BOOT_STAT_SAFE = false ∧ head.ringStopped = true ∧
      (put (launching head) [(F.THY_RING_PI_PI, 1)]).ringStopped = false) ∧
    ((put head [(F.THY_SEG_SRC_HOST, 1)]).flag F.THY_SEG_SRC_HOST = true ∧ tail.isHead = false) := by decide +kernel

/-- Line 8, launched, under a configuration. -/
def line8 (c : Cfg) : LineInfo :=
  { ln := 8, sn := 0, t := 4000, ctx := 0, prog := 0, launched := true, reason := 0, boundary := false, idx := 2,
    gap := none, start := false, restarts := [], detFresh := [], cfg := c, spares := [], run := none,
    settle := [] }

/-- A module between lines 8 and 9, with an action for line 9. -/
def between (a : Action) : State :=
  { launching tail with
      thy := { Thy.reset with armed := [a] },
      chv := { Chv.reset with lastExec := some 8 },
      arr := { (launching tail).arr with unconverted := some ⟨8, 0, 4000, 0, 0⟩ },
      lines := [line8 (put State.reset [(F.ARR_GRP_EN 0, 1)]).regs] }

def launchable : State := between (anAction 9)

def aSkip (reason : Nat) : Action := { anAction 9 with skip := true, reason := reason }

theorem meets_LaunchRunsTheLine :
    launchable.thy.armed = [anAction 9] ∧ (anAction 9).skip = false ∧ (anAction 9).start = false ∧
      (anAction 9).lost = none ∧ launchable.chv.lastExec.isSome = true ∧ snLater (anAction 9).sn launchable.snNow = false ∧
      launchable.live = [] ∧ launchable.thy.stopping = false ∧ launchable.mayLaunch = true ∧ launchable.arr.hold = none ∧
      (∀ i ∈ launchable.lineInfo 8, i.cfg.enabledGroups ≠ []) ∧ (launchable.lineInfo 8).isSome = true := by decide +kernel

theorem meets_SkipsAreCounted :
    ∀ r ∈ [1, 5], (between (aSkip r)).thy.armed = [aSkip r] ∧ (aSkip r).skip = true ∧ (aSkip r).start = false ∧
      (aSkip r).lost = none ∧ (between (aSkip r)).chv.lastExec.isSome = true ∧
      snLater (aSkip r).sn (between (aSkip r)).snNow = false ∧ (between (aSkip r)).live = [] ∧
      (between (aSkip r)).thy.stopping = false ∧ 1 ≤ (aSkip r).reason ∧ (aSkip r).reason ≤ 5 := by decide +kernel

/-- The actions of the other clauses: a start, the boundary of segment 1, one line lost and none in a gap, a segment
and lines lost with it, and more lines lost than the ledger takes. -/
def startAction : Action := { anAction 9 with start := true, boundary := true, idx := 0, sn := 1 }
def crossing1 : Action := { anAction 9 with boundary := true, idx := 0, sn := 1 }
def lossAction (ln : Nat) (sn : SegNo) : Action := { anAction ln with sn := sn, lost := some (8, 1, 0) }

/-- The flush hold is open at the T of `anAction`, at 5,000, or not yet. -/
def flushHeld (lo : PressTime) : State := { launchable with arr := { launchable.arr with hold := some (lo, lo + 33) } }

theorem meets_LaunchRunsTheLine_actions :
    (∀ a ∈ [anAction 9, startAction, crossing1, lossAction 10 0, lossAction 10 1, lossAction 4105 0, lossAction 4106 0],
      (between a).thy.armed = [a] ∧ a.skip = false ∧ (between a).live = [] ∧ (between a).shadow = [] ∧
        (between a).thy.stopping = false ∧ (between a).isHead = false ∧ (between a).mayLaunch = true ∧
        (between a).ptc.counters.length = 8 ∧ Assoc.rising (between a).live = true) ∧
    (snLater crossing1.sn (between crossing1).snNow = true ∧ snLater (anAction 9).sn launchable.snNow = false) ∧
    (∀ x ∈ [((10 : LineNo), 1), (4105, 4096), (4106, 4097)], (x.1 - 8 - 1).toNat = x.2) ∧
    (put launchable [(F.CHV_SYNC_SYNCED, 0)]).mayLaunch = false ∧
    ((flushHeld 4990).arr.hold = some (4990, 5023) ∧ 0 < signedDiff (anAction 9).t 4990 ∧
      signedDiff (anAction 9).t 5023 < 0 ∧ ¬ 0 < signedDiff (anAction 9).t 5000) ∧
    ({ launchable with thy := { launchable.thy with stopping := true, armed := [anAction 9, anAction 10] } }.thy.armed.tail ≠ []) ∧
    (put launchable [(F.PTC_CNT_CTL_SRC 7, 7)]).reg (F.PTC_CNT_CTL_SRC 7) = 7 := by decide +kernel

/-- Values that wait for the line: one of Thyme and one of a counter. -/
def liveWaits (a : Action) : State :=
  { between a with live := Assoc.insert (Assoc.insert [] (F.PTC_CNT_PERIOD_V 3).key 9) F.THY_RING_PI_PI.key 5 }

theorem meets_LaunchRunsTheLine_live :
    ∀ a ∈ [anAction 9, aSkip 4], Assoc.rising (liveWaits a).live = true ∧
      Assoc.find (liveWaits a).live F.THY_RING_PI_PI.key = some 5 ∧ 5 < 2 ^ F.THY_RING_PI_PI.w ∧
      Assoc.find (liveWaits a).live (F.PTC_CNT_PERIOD_V 3).key = some 9 ∧
      lineFields.contains F.THY_RING_PI_PI = true ∧ lineFields.contains (F.PTC_CNT_PERIOD_V 3) = true ∧
      Assoc.find (liveWaits a).live F.THY_SN_V.key = none ∧ (liveWaits a).shadow = [] := by decide +kernel

/-- At the boundary of segment 1: a commit in state `st` for segment 1, a rebuilt working set, and a READY bank. -/
def boundaryAt (st target : Nat) (done : PressTime) (swap : SegNo) : State :=
  let s := between crossing1
  put { s with
      commit := ⟨true, true, 7, BitVec.ofNat 32 target, false, some 0, [], false⟩,
      shadow := [(F.PIP_SEAM_OVL_W.key, 3)],
      cal := { s.cal with shadow := some (⟨[], [], none, true⟩, done) },
      sor := { s.sor with arm := .ready 3 259 swap done } } [(F.CFG_STAT_STATE, st)]

/-- A confirmed commit of this segment, one without CONFIRM, one of the next segment, a working set and a bank 256 ticks
old and 255, and a bank for the next segment. -/
theorem meets_LaunchRunsTheLine_boundary :
    (∀ st ∈ [2, 3], (boundaryAt st 1 4744 1).commit.busy = true ∧ (boundaryAt st 1 4744 1).reg F.CFG_STAT_STATE = st ∧
      snLater (boundaryAt st 1 4744 1).commit.target crossing1.sn = false ∧
      (boundaryAt st 1 4744 1).cal.repairDue = false ∧ Assoc.rising (boundaryAt st 1 4744 1).shadow = true ∧
      (boundaryAt st 1 4744 1).live = [] ∧ (boundaryAt st 1 4744 1).thy.armed = [crossing1] ∧
      (boundaryAt st 1 4744 1).shadowReg F.PIP_SEAM_OVL_W = 3 ∧ F.PIP_SEAM_OVL_W.cls = .s ∧
      (boundaryAt st 1 4744 1).reg F.PIP_SEAM_OVL_W ≠ 3 ∧
      (fieldsAt F.PIP_SEAM_OVL_W.off).contains F.PIP_SEAM_OVL_W = true) ∧
    snLater (boundaryAt 3 2 4744 1).commit.target crossing1.sn = true ∧
    (0 ≤ signedDiff crossing1.t (4744 + 256) ∧ signedDiff crossing1.t (4745 + 256) < 0) ∧
    (256 ≤ signedDiff crossing1.t 4744 ∧ signedDiff crossing1.t 4745 < 256) ∧
    (snLater 1 crossing1.sn = false ∧ snLater 2 crossing1.sn = true) ∧
    (Assoc.find (boundaryAt 3 1 4744 1).shadow F.SOR_RT_STAT_IN_FORCE.key = none ∧
      Assoc.find (boundaryAt 3 1 4744 1).shadow F.CAL_SWAPS_V.key = none) := by decide +kernel

/-- A line whose program has one step left: its kind on group and strobe 5. -/
def stepping1 (kind : Nat) : State :=
  let c := put State.reset [(F.ARR_GRP_EN 5, 1), (F.ARR_STRB_EN_EN, 32), (F.ARR_STRB_MAXON_MAXON 5, 100)]
  { launching tail with
      regs := (put { launching tail with regs := (launching tail).regs }
        [(F.ARR_STRB_EN_EN, 32), (F.ARR_STRB_MAXON_MAXON 5, 100)]).regs,
      thy := { Thy.reset with running := [⟨8, 0, 4000, 0, [(40, kind, 32)]⟩] },
      arr := { (launching tail).arr with groups := List.replicate 6 ⟨some 10, 4, []⟩ },
      lines := [line8 c.regs] }

theorem meets_ProgramStepsDrive :
    State.reset.tclkRuns = false ∧
    ∀ k ∈ [1, 2, 3, 4, 5], (stepping1 k).tclkRuns = true ∧ (stepping1 k).live = [] ∧
      (stepping1 k).thy.running = [⟨8, 0, 4000, 0, [(40, k, 32)]⟩] ∧ (stepping1 k).arr.groups.length = 6 ∧
      (stepping1 k).arr.strobes.length = 6 ∧ bitAt 32 5 = true ∧ ((stepping1 k).lineCfg 8).grpEn 5 = true ∧
      ((stepping1 k).pix 5).openAt = some 10 ∧ (stepping1 k).arr.kills = 0 ∧
      bitAt (((stepping1 k).lineCfg 8).get F.ARR_STRB_EN_EN) 5 = true ∧
      ((stepping1 k).lineCfg 8).get (F.ARR_STRB_MAXON_MAXON 5) ≠ 0 := by decide +kernel

/-- More steps of the line and another line stay behind the step, and the kills of its clause. -/
def stepping2 (kind kills : Nat) (killAt : Option PressTime) : State :=
  let s := stepping1 kind
  { s with
      thy := { s.thy with
        running := [⟨8, 0, 4000, 0, [(40, kind, 32), (41, 5, 32), (41, 1, 1)]⟩, ⟨9, 0, 5000, 0, [(3, 1, 32)]⟩] },
      arr := { s.arr with kills := kills, killAt := killAt } }

theorem meets_ProgramStepsDrive_rest :
    ∀ k ∈ [1, 2, 3, 4, 5], ∀ x ∈ [(0, none), (4, none), (0, some (0 : PressTime)), (0, some 9)],
      (stepping2 k x.1 x.2).tclkRuns = true ∧ (stepping2 k x.1 x.2).live = [] ∧
        (stepping2 k x.1 x.2).thy.running.length = 2 ∧ (stepping2 k x.1 x.2).pt = 0 ∧
        (∀ y ∈ [(41, 5, 32), (41, 1, 1)].head?, y.1 ≠ 40) ∧ (stepping2 k x.1 x.2).arr.groups.length = 6 ∧
        (stepping2 k x.1 x.2).arr.strobes.length = 6 ∧ ((stepping2 k x.1 x.2).lineCfg 8).grpEn 5 = true := by decide +kernel

def strobing : State :=
  { standby with arr := { standby.arr with strobes := [.low, .low, .low, .low, .low, .high 7] },
                 thy := { Thy.reset with trigOut := some true } }

theorem meets_FlushAndStrobeEnds :
    launchable.arr.unconverted = some ⟨8, 0, 4000, 0, 0⟩ ∧ strobing.thy.trigOut = some true ∧
    (5 < strobing.arr.strobes.length ∧ 5 < strobing.arr.strobeForced.length ∧ strobing.jtag.scan = false ∧
      strobing.strobe 5 = .high 7) ∧
    standby.arr.kills = 0 ∧ { standby with arr := { standby.arr with kills := 1 } }.arr.kills ≠ 0 := by decide +kernel

/-- Word 0 of a LINE packet for a line, with its bits from 48 up. -/
def lineW0 (ln bits : Nat) : Word64 := BitVec.ofNat 64 (ln + 2 ^ 48 * bits)

/-- A running module that last received line 8. -/
def received : State :=
  { launching tail with chv := { Chv.reset with lastRx := some (8, 2, 0), lastExec := some 8 } }

theorem meets_LineActionsArrive :
    (received.hearsWest = true ∧ received.flag F.THY_CTL_EN = true ∧ received.isRunning = true ∧
      received.chv.refused = false ∧ received.mayLaunch = true ∧
      received.flag F.CFG_BOOT_STAT_SAFE = false ∧ tail.flag F.CFG_BOOT_STAT_SAFE = false ∧
      ∀ k ∈ [9, 10], bitAt (lineW0 k 0).toNat 58 = false ∧
        0 < signedDiff (BitVec.ofNat 48 (lineW0 k 0).toNat) (8 : LineNo)) ∧
    (put received [(F.CFG_BOOT_STAT_SAFE, 1)]).flag F.CFG_BOOT_STAT_SAFE = true ∧
    ((put tail [(F.THY_CTL_EN, 0)]).hearsWest = true ∧ (put tail [(F.THY_CTL_EN, 0)]).flag F.THY_CTL_EN = false) ∧
    (tail.isRunning = false ∧ tail.chv.lastExec = none ∧ tail.flag F.CNV_TEST_STAT_BUSY = false ∧
      bitAt (lineW0 8 0x400).toNat 58 = true ∧
      signedDiff (BitVec.ofNat 48 (lineW0 8 0x400).toNat) (8 : LineNo) ≤ 0) ∧
    (signedDiff (255 : PressTime) received.pt < 256 ∧ ¬ signedDiff (256 : PressTime) received.pt < 256) := by
  decide +kernel

/-! ### Converters, filters, detectors and calibration -/

/-- The configuration in force at reset, with preset 4. -/
def fastCfg : Cfg := (put State.reset [(F.CNV_PRESET_PRESET, 4)]).regs

def frame8 : Frame :=
  { ln := 8, sn := 0, start := 7000, t := 4000, ctx := 0, prog := 0, flush := false, waiting := [5], visit := none,
    bgLevel := 0 }

/-- A module whose line 8 is on its way: the frame waits for group 5. -/
def converting : State :=
  { launching tail with
      lines := [line8 fastCfg],
      arr := { (launching tail).arr with frames := [frame8] } }

theorem meets_LineSamplesAreTaken :
    5 < 6 ∧ converting.cnv.out.length = 6 ∧
      (converting.arr.frames.find? (fun x => x.waiting.contains 5)).map (fun f => f.ln) = some 8 ∧
      (converting.lineInfo 8).isSome = true ∧ converting.arr.frames.length = 1 ∧ fastCfg.tdi 5 = 1 ∧
      converting.cnv.stages[5]?.getD [] = [] := by decide +kernel

/-- A line sample or chain output of line 8: one column with value `v`. -/
def sample8 (v : Nat) : GroupLine :=
  { ln := 8, sn := 0, ctx := 0, restart := false, captured := true, unsettled := false, pt := 4000,
    cols := [⟨8000, v, false, false⟩], stale := [], calExtrap := false, spares := [] }

def chaining : State :=
  { launching tail with lines := [line8 fastCfg],
                        cnv := { Cnv.reset with out := (List.replicate 6 []).set 5 [sample8 100] } }

/-- The same with line 8 not launched. -/
def chainingMissed : State :=
  { launching tail with lines := [{ line8 fastCfg with launched := false, reason := 1 }] }

theorem meets_ChainsDeliver :
    (chainingMissed.lfl.out.length = 6 ∧ chainingMissed.lfl.hist.length = 6 ∧ chainingMissed.cnv.out.length = 6 ∧
      (chainingMissed.nextChainLine 5).map (fun i => (i.ln, i.launched)) = some (8, false)) ∧
    chaining.cnv.out.length = 6 ∧ 5 < 6 ∧ chaining.lfl.out.length = 6 ∧ chaining.lfl.hist.length = 6 ∧
      (chaining.nextChainLine 5).map (fun i => (i.ln, i.launched)) = some (8, true) ∧
      (chaining.cnv.out[5]?.getD []).find? (fun y => y.ln == 8) = some (sample8 100) ∧
      Cfg.selected fastCfg 5 8 = true := by decide +kernel

def calibrating (v : Nat) : State :=
  { launching tail with
      lines := [line8 (put { State.reset with regs := fastCfg } [(F.CAL_GRP_MODE 5, 0), (F.CAL_GRP_FILL 5, 0),
        (F.CAL_GRP_DARK_TRACK 5, 0)]).regs],
      lfl := { Lfl.reset with out := (List.replicate 6 []).set 5 [sample8 v] } }

theorem meets_OutputsAreCalibrated :
    5 < 6 ∧ ∀ v ∈ [0, 0x3FFFFF], (calibrating v).cal.out.length = 6 ∧ (calibrating v).lfl.out.length = 6 ∧
      (calibrating v).lfl.out[5]?.getD [] = [sample8 v] ∧ ((calibrating v).lineInfo 8).isSome = true ∧
      (sample8 v).captured = true ∧
      (∀ i ∈ (calibrating v).lines, i.cfg.get (F.CAL_GRP_MODE 5) = 0 ∧ i.cfg.get (F.CAL_GRP_FILL 5) = 0 ∧
        i.cfg.get (F.CAL_GRP_DARK_TRACK 5) = 0) := by decide +kernel

def testing : State := put { standby with cnv := { Cnv.reset with fails := [3] } } [(F.CNV_TEST_STAT_BUSY, 1)]

theorem meets_ConverterSelfTest :
    (standby.isRunning = false ∧ standby.flag F.CNV_TEST_STAT_BUSY = false) ∧ (launching head).isRunning = true ∧
      testing.flag F.CNV_TEST_STAT_BUSY = true := by decide +kernel

/-- Sixteen conversions of one converter at each level, and converter numbers at the end of their range. -/
def levelCodes (b : Bool) : List (List Bool) := List.replicate 16 [b]

theorem meets_ConverterSelfTest_codes :
    [(50309, levelCodes false, levelCodes true, levelCodes false)].find? (fun x => x.1 == 50309)
        = some (50309, levelCodes false, levelCodes true, levelCodes false) ∧
      (levelCodes true).length = 16 ∧ 50309 < 50310 ∧
      (Instr.selftestDone [(50309, levelCodes false, levelCodes true, levelCodes false)]).wf = true := by decide +kernel

theorem testing_takesWrites : testing.takesWrites := by refine ⟨?_, ?_, ?_⟩ <;> decide +kernel

def tapLine : TapLine :=
  { ln := 8, sn := 0, pt := 4000, captured := true, unsettled := false, sat := false, cols := [(3, 500)], stepLines := 1,
    fresh := false }

/-- Detector 63 in state `st` with a tap output to evaluate, level mode, thresholds `lo` and `hi`, QUAL 1. -/
def detecting (st lo hi : Nat) : State :=
  put { launching tail with
      lines := [line8 (put State.reset [(F.LFL_DET_CTL_MODE 63, 1), (F.LFL_DET_TH_LO_TH 63, lo),
        (F.LFL_DET_TH_HI_TH 63, hi), (F.LFL_DET_CTL_QUAL 63, 1)]).regs],
      lfl := { Lfl.reset with dets := (List.replicate 64 Det.reset).set 63 { Det.reset with inq := [tapLine] } } }
    [(F.LFL_DET_STAT_STATE 63, st)]

def levelQueue (fifo : List FifoRec) : State :=
  { standby with
      lfl := { Lfl.reset with dets := (List.replicate 64 Det.reset).set 63 { Det.reset with queue := [[1], [2]] } },
      fifo := fifo }

theorem meets_DetectorsAndLevelRecords :
    (∀ x ∈ [(0, 499), (0, 500), (2, 500)], 63 < 64 ∧ (detecting x.1 501 x.2).lfl.dets.length = 64 ∧
      ((detecting x.1 501 x.2).det 63).inq = [tapLine] ∧
      ((detecting x.1 501 x.2).lineCfg 8).get (F.LFL_DET_CTL_MODE 63) = 1 ∧
      (detecting x.1 501 x.2).reg (F.LFL_DET_STAT_STATE 63) = x.1) ∧
    (((detecting 2 501 600).lineCfg 8).get (F.LFL_DET_TH_LO_TH 63) = 501 ∧
      reduceCols (((detecting 2 501 600).lineCfg 8).get (F.LFL_DET_CTL_REDUCE 63)) tapLine.cols = 500 ∧
      ((detecting 2 501 600).lineCfg 8).get (F.LFL_DET_CTL_QUAL 63)
        ≤ (extendRun ((detecting 2 501 600).det 63).run 0 tapLine 500 ((detecting 2 501 600).det 63).prev).lines) ∧
    (((detecting 2 500 600).lineCfg 8).get (F.LFL_DET_TH_LO_TH 63) ≤ 500) ∧
    (63 < (levelQueue []).lfl.dets.length ∧ ((levelQueue []).det 63).queue = [1] :: [[2]] ∧
      (levelQueue []).fifo.length < 256) ∧
    256 ≤ (levelQueue (List.replicate 256 (.level []))).fifo.length := by decide +kernel

def building : State :=
  put { standby with cal := { Cal.reset with building := some (List.replicate 8 0) } } [(F.CAL_STAT_BUILDING, 1)]

theorem meets_WorkingSetsAreRebuilt :
    (standby.flag F.CFG_BOOT_STAT_SAFE = false ∧ standby.isRunning = false ∧ standby.reg F.CAL_SETS_EN = 0 ∧
      standby.slotFails (standby.reg F.CAL_SETS_VALID) 7 ≠ none ∧
      bitAt ((put standby [(F.CAL_SETS_EN, 255)]).reg F.CAL_SETS_EN) 7 = true) ∧
    (launching head).isRunning = true ∧
    (standby.flag F.CAL_STAT_BUILDING = false ∧ standby.cal.shadow = none) ∧
    { launching head with cal := { Cal.reset with shadow := some (⟨[], [], none, false⟩, 5) } }.cal.shadow ≠ none ∧
    building.flag F.CAL_STAT_BUILDING = true ∧ building.cal.building = some (List.replicate 8 0) ∧
    { launching head with cal := building.cal }.cal.building = some (List.replicate 8 0) := by decide +kernel

def visiting : State := { standby with cal := { Cal.reset with visit := some (257, 2, true, true, Cfg.fs standby.regs) } }

def fullBusy : State := put standby [(F.CAL_STAT_FULL_BUSY, 1)]

theorem meets_CalibrationMeasures :
    (visiting.cal.visit = some (257, 2, true, true, Cfg.fs visiting.regs) ∧ (convPlace 50309).1 = 257 ∧ (convPlace 50309).2.1 = 2 ∧
      (estimateConv (Cfg.fs visiting.regs) (meanDown [Cfg.fs visiting.regs / 16])
        (meanDown [Cfg.fs visiting.regs * 15 / 16])).isSome = true ∧
      estimateConv (Cfg.fs visiting.regs) (meanDown [0]) (meanDown [0]) = none) ∧
    (standby.isRunning = false ∧ (launching head).isRunning = true ∧ fullBusy.flag F.CAL_STAT_FULL_BUSY = true ∧
      fullBusy.cal.capture = none) ∧
    ((put standby [(F.CAL_CAPT_KIND, 1)]).reg F.CAL_CAPT_KIND = 1 ∧
      (put (launching head) [(F.CAL_CAPT_KIND, 2)]).reg F.CAL_CAPT_KIND = 2) := by decide +kernel

/-! ### The pipeline and Sorrel -/

/-- A line that was not launched, and a module whose pipeline has it next; stream 15 carries lines. -/
def skipped9 : LineInfo :=
  { line8 (put State.reset [(F.PIP_ROI_CTL_EN 15, 1), (F.PIP_CTL_COLOUR_EN, 1), (F.PIP_ROI_STG_STG_KIB 15, 1),
      (F.PIP_CTL_INSP_EN, 0), (F.PIP_SEAM_OVL_W, 0)]).regs with ln := 9, launched := false, reason := 4 }

def aligning (i : LineInfo) : State :=
  { launching tail with lines := [i], pip := { Pip.reset with seg := some (0, 8, i.cfg) } }

/-- The same with PLL-H gated. -/
def aligningGated (i : LineInfo) : State := { aligning i with dma := { Dma.reset with hub := true } }

theorem meets_RecordsAreAligned :
    ((aligning skipped9).isRunning = true ∧ (aligning skipped9).unaligned.map (fun i => i.ln) = [9] ∧
      Cfg.recordAt skipped9.cfg 9 = true ∧ skipped9.launched = false ∧ skipped9.cfg.get F.PIP_SEAM_OVL_W = 0 ∧
      (aligning skipped9).pip.waiting = [] ∧ 15 < 16 ∧ (aligning skipped9).pip.streams.length = 18 ∧
      (aligning skipped9).pip.seg = some (0, 8, skipped9.cfg) ∧ skipped9.gap = none ∧
      skipped9.cfg.get F.PIP_CTL_INSP_EN = 0 ∧ skipped9.cfg.get F.PIP_CTL_COLOUR_EN = 1 ∧
      (∀ j ∈ (aligning skipped9).unaligned, ¬ signedDiff j.ln skipped9.ln < 0) ∧ skipped9.cfg.streamOn 15 = true ∧
      ((aligning skipped9).stream 15).off skipped9.sn = false ∧ ((aligning skipped9).stream 15).linkDrop = none ∧
      (aligning skipped9).dma.lost = false ∧ ((aligning skipped9).stream 15).dropping = none ∧
      ((aligning skipped9).stream 15).used + 64 + 128 ≤ 1024 * skipped9.cfg.get (F.PIP_ROI_STG_STG_KIB 15)) ∧
    ((aligning skipped9).dma.hub = false ∧ (aligningGated skipped9).isRunning = true ∧ (aligningGated skipped9).dma.hub = true ∧
      (aligningGated skipped9).unaligned.map (fun i => i.ln) = [9]) ∧
    (∀ i ∈ [line8 fastCfg], i.launched = true ∧ (aligning i).isRunning = true ∧ Cfg.recordAt i.cfg i.ln = true ∧
      0 ∈ i.cfg.enabledGroups ∧ (aligning i).groupReady 0 i.ln = false) := by decide +kernel

/-- A module with an overlap of 3 columns to the west. -/
def overlapped : State := put (launching tail) [(F.PIP_SEAM_OVL_W, 3)]

/-- The buffer full: 4,096 west lines. -/
def westFull : State :=
  { overlapped with pip := { Pip.reset with west := List.replicate 4096 ⟨20, 0, 3, true, false, false, false, false, false, []⟩ } }

/-- Words 0 and 1 of a SEAM packet of line 9, segment 0, width field 3, plane 0. -/
def seamW0 : Word64 := BitVec.ofNat 64 (9 + 2 ^ 48 * 3)
def seamW1 : Word64 := BitVec.ofNat 64 (2 ^ 48)

/-- Stopped, with the record of line 8 waiting for its west line, and the west line's first word. -/
def seamStopped : State :=
  { put tail [(F.PIP_SEAM_OVL_W, 3)] with pip := { Pip.reset with
      waiting := [⟨line8 overlapped.regs, false, 0, false, [], 0, 0, false, false, 0, false⟩] } }

def seamLast : Word64 :=
  BitVec.ofNat 64 ((Cfg.seamLines (line8 overlapped.regs).cfg (line8 overlapped.regs).ln).1.toNat + 2 ^ 48 * 3)

/-- A record that waits for its west line. -/
def seamWaiting : State :=
  { overlapped with pip := { Pip.reset with
      waiting := [⟨line8 overlapped.regs, false, 0, false, [], 0, 0, false, false, 0, false⟩] } }

theorem meets_SeamLinesFromTheWest :
    (overlapped.isRunning = true ∧ overlapped.dma.hub = false ∧ westFull.isRunning = true ∧ westFull.dma.hub = false ∧
      { overlapped with dma := { Dma.reset with hub := true } }.isRunning = true) ∧
    (seamStopped.portUp 0 = true ∧ seamStopped.chv.cwIgnored = false ∧ seamStopped.isRunning = false ∧
      seamStopped.dma.hub = false ∧ seamStopped.pip.waiting.map (fun a => a.info.ln) = [8] ∧ seamStopped.unaligned = [] ∧
      seamStopped.seamSlots < 4096 ∧ seamLast.toNat / 2 ^ 48 % 512 = seamStopped.reg F.PIP_SEAM_OVL_W ∧
      (∀ a ∈ seamStopped.pip.waiting, BitVec.ofNat 48 seamLast.toNat = (Cfg.seamLines a.info.cfg a.info.ln).1) ∧
      seamStopped.westPassed (BitVec.ofNat 48 seamLast.toNat) = false ∧ seamStopped.pip.westDropping ≠ some 0) ∧
    (overlapped.portUp 0 = true ∧ overlapped.chv.cwIgnored = false ∧ overlapped.pip.waiting = [] ∧
      seamW0.toNat / 2 ^ 48 % 512 = overlapped.reg F.PIP_SEAM_OVL_W ∧ overlapped.westPassed 9 = false ∧
      overlapped.pip.westDropping ≠ some 0 ∧ overlapped.seamSlots < 4096) ∧
    (∀ data ∈ [[(5 : Word64)], [5, 6]], (data.length = 1) = (data.length = ((3 + 1) * 1 + 3) / 4) ∧ data ≠ []) ∧
    (westFull.portUp 0 = true ∧ westFull.chv.cwIgnored = false ∧ westFull.pip.waiting = [] ∧
      westFull.westPassed 9 = false ∧ westFull.pip.westDropping ≠ some 0 ∧ 4096 ≤ westFull.seamSlots) ∧
    (seamWaiting.isRunning = true ∧ seamWaiting.pip.waiting.length = 1 ∧
      seamWaiting.pip.waiting.all (fun a => !a.mark && !a.placeholder && a.info.cfg.get F.PIP_SEAM_OVL_W == 3) = true ∧
      seamWaiting.pip.west = []) := by decide +kernel

/-- PLL-H gated, and a packet of another width, once and once more. -/
def seamGated (seen : List SegNo) : State :=
  put { overlapped with pip := { overlapped.pip with mismatched := seen } } [(F.CLK_PLL_STAT_GATED 1, 1)]

theorem meets_SeamLinesFromTheWest_gated :
    (seamGated []).portUp 0 = true ∧ (seamGated []).chv.cwIgnored = false ∧ (seamGated []).pip.waiting = [] ∧
      (seamGated []).isRunning = true ∧ (seamGated []).gated 1 = true ∧ overlapped.gated 1 = false ∧
      seamStopped.gated 1 = false ∧ westFull.gated 1 = false ∧
      seamW0.toNat / 2 ^ 48 % 512 = (seamGated []).overlapOf (BitVec.ofNat 32 seamW1.toNat) ∧
      (BitVec.ofNat 64 (9 + 2 ^ 48 * 4)).toNat / 2 ^ 48 % 512 ≠ (seamGated []).overlapOf (BitVec.ofNat 32 seamW1.toNat) ∧
      (BitVec.ofNat 32 seamW1.toNat) ∉ (seamGated []).pip.mismatched := by decide +kernel

/-- A SOLID band of segment 7, rows 16 to 31 (Table SOR-1), with its CRC. -/
def solidBand (crc : Nat) : List Byte :=
  [2, 1, 0, 0, 7, 0, 0, 0, 16, 0, 16, 0] ++ List.replicate 48 0 ++ leBytes 4 crc

def parsing (bytes : List Byte) (last : Option (SegNo × Nat)) : State :=
  { standby with sor := { Sor.reset with parse := [(true, bytes)], lastBand := last } }

def aBand : Band := { btype := 2, sn := 7, y0 := 16, nrows := 16, solid := [], payload := [], resident := false }

theorem meets_ExpectedImageIsParsed :
    (parsing ((solidBand 0).take 63) none).sor.waiting.length < 64 ∧
    (∀ c ∈ [0x7735814B, 0], ∀ l ∈ [none, some (7, 15)],
      let w := (parsing (solidBand c) l).sor.waiting
      64 ≤ w.length ∧ bandFault (Cfg.tiles (parsing (solidBand c) l).regs) (w.take 64) = none ∧
        64 + hdrField (w.take 64) 20 4 ≤ w.length ∧ hdrField (w.take 64) 60 4 = c ∧
        (parsing (solidBand c) l).bandClosed 7 = false ∧ (parsing (solidBand c) l).bandLate 7 16 16 = false) ∧
    (crc32 ((solidBand 0).take 60 ++ [])).toNat = 0x7735814B ∧
    ({ standby with sor := { Sor.reset with bands := [aBand] } }.cacheHolds aBand = true) := by decide +kernel

def aRow (used : Nat) (noRef : Bool) : RowAcc :=
  { y := 5, sn := 0, cfg := State.reset.regs, first := 1, last := 2, ctx := 0, reason := 0, used := used, total := 2,
    sums := [], unsettled := false, extrap := false, sat := false, seamDropped := false, stale := none, staleSlots := 0,
    noRef := noRef, fresh := false, ptNew := 0, ptOld := 0, planeCtx := 0, seamSrc := 0 }

def comparing (rows : List SorIn) : State :=
  { launching tail with sor := { Sor.reset with rows := rows, seg := some (0, 5) } }

/-- In the thermal hold. -/
def heldRows : State := put (comparing [.row (aRow 2 false)]) [(F.HKP_THERM_HOLD, 1)]

theorem meets_SorrelRowsAndAlarm :
    ((∀ rows ∈ [[SorIn.row (aRow 0 false)], [.close 0 9 [] false none]],
        (comparing rows).flag F.HKP_THERM_HOLD = false ∧ (comparing rows).dmaRuns = false ∧
          Memory.wf (comparing rows).mem = true) ∧
      (∀ q, q < 16 → (((comparing []).ring q).isRef && (comparing []).ringUsed q) = false) ∧
      (([] : List SorIn).head? = none) ∧
      heldRows.flag F.HKP_THERM_HOLD = true ∧ heldRows.dmaRuns = false) ∧
    (∀ u ∈ [0, 2], ∀ b ∈ [true, false], (comparing [.row (aRow u b)]).sor.rows = [.row (aRow u b)] ∧
      (comparing [.row (aRow u b)]).sor.rows.tail = []) ∧
    ((comparing [.close 0 9 [] false none]).sor.rows = [.close 0 9 [] false none] ∧
      (comparing [.close 0 9 [] false none]).sor.seg = some (0, 5)) ∧
    (standby.reg F.SOR_ALARM_MODE = 0 ∧ standby.flag F.HKP_THERM_HOLD = false ∧ (put standby [(F.SOR_ALARM_MODE, 1)]).reg F.SOR_ALARM_MODE = 1) := by
  decide +kernel

/-- A library slot with one byte, and SRC naming the slot. -/
def arming (src : Nat) : State :=
  put { standby with mem := [(dramBase + 0x3000000 + 0x100000 * (src - 1), 9)] } [(F.SOR_RT_CTL_SRC, src)]

theorem arming_takesWrites : ∀ k ∈ [0, 1, 16], (arming k).takesWrites := by
  simp only [List.mem_cons, List.not_mem_nil, or_false, forall_eq_or_imp, forall_eq]
  refine ⟨⟨?_, ?_, ?_⟩, ⟨?_, ?_, ?_⟩, ⟨?_, ?_, ?_⟩⟩ <;> decide +kernel

def validating (s : State) (count : Nat) : State := { s with sor := { Sor.reset with arm := .validating count 3 0 9 } }

/-- An entry whose last column lies before its first. -/
def badEntry : State := { standby with mem := [(bankBase standby.idleBank, 1)] }

theorem meets_RegionTableArms :
    (∀ k ∈ [0, 1, 16], (arming k).sor.arm = .idle ∧ Memory.wf (arming k).mem = true ∧
      (arming k).reg F.SOR_RT_CTL_SRC = k) ∧
    (validating standby 0).sor.arm ≠ .idle ∧
    (∀ s ∈ [standby, launching tail], (validating s 0).sor.arm = .validating 0 3 0 9 ∧
      (validating s 0).firstBad (bankBase (validating s 0).idleBank) 0 0 none [] = none) ∧
    ((validating badEntry 1).sor.arm = .validating 1 3 0 9 ∧
      (validating badEntry 1).firstBad (bankBase (validating badEntry 1).idleBank) 1 0 none [] = some (2, 0)) := by
  decide +kernel

/-! ### Chive -/

/-- Port `p` in state `st`; on `s`. -/
def port (s : State) (p st : Nat) : State := put s [(F.CHV_PORT_STAT_STATE p, st)]

/-- A module whose PLL-C has lost its lock. -/
def pllLost : State := put tail [(F.CLK_PLL_STAT_GATED 4, 1)]

def withPort (s : State) (p : Nat) (x : ChvPort) : State :=
  { s with chv := { s.chv with ports := s.chv.ports.set p x } }

theorem meets_PortsTrain :
    (∀ p ∈ [0, 1], ∀ st ∈ [1, 5], p < 2 ∧ (port tail p st).portTrains p = true ∧ (port tail p st).portState p = st ∧
      (port tail p st).mayTrain = true ∧ (port pllLost p st).portTrains p = true ∧
      (port pllLost p st).portState p = st ∧ (port pllLost p st).mayTrain = false) ∧
    (∀ p ∈ [0, 1], (port tail p 2).mayTrain = true ∧ (port pllLost p 4).mayTrain = false ∧
      (port pllLost p 4).portState p = 4 ∧ 540 * 64 < 34561 ∧ 34560 ≤ 540 * 64) ∧
    (3 < 4 ∧ (port tail 0 2).portState 0 = 2 ∧ (port tail 1 2).portState 1 = 2 ∧
      (port tail 1 2).posNow ≠ 31) ∧
    (∀ p ∈ [0, 1], (port tail p 2).portState p = 2 ∧ (port tail p 2).chv.ports.length = 2) ∧
    ((withPort (port tail 1 2) 1 { ChvPort.reset with trainFails := 2 }).portState 1 = 2 ∧
      ((withPort (port tail 1 2) 1 { ChvPort.reset with trainFails := 2 }).port 1).trainFails = 2) ∧
    (∀ p ∈ [0, 1], (put (withPort (port tail p 4) p { ChvPort.reset with retryDue := true })
        [(F.CHV_CTL_AUTO_RETRAIN, 1)]).portState p = 4 ∧
      ((withPort (port tail p 4) p { ChvPort.reset with retryDue := true }).port p).retryDue = true ∧
      (put (port tail p 4) [(F.CHV_CTL_AUTO_RETRAIN, 0)]).flag F.CHV_CTL_AUTO_RETRAIN = false) ∧
    (∀ p ∈ [0, 1], ∀ st ∈ [3, 4], (port tail p st).portTrains p = true ∧ (port tail p st).portState p = st) := by
  decide +kernel

theorem port_takesWrites : ∀ p ∈ [0, 1], ∀ st ∈ [3, 4], (port tail p st).takesWrites := by
  simp only [List.mem_cons, List.not_mem_nil, or_false, forall_eq_or_imp, forall_eq]
  refine ⟨⟨⟨?_, ?_, ?_⟩, ⟨?_, ?_, ?_⟩⟩, ⟨⟨?_, ?_, ?_⟩, ⟨?_, ?_, ?_⟩⟩⟩ <;> decide +kernel

def unechoed : State := withPort tail 1 { ChvPort.reset with unechoed := [(15, 640)] }

/-- A boot in phase 2 with its image read, and the same halted by a thermal hold. -/
def waitsForPos (halted : Bool) : State :=
  put { tail with boot := { tail.boot with image := some [], halted := halted } } [(F.CFG_BOOT_STAT_PHASE, 2)]

theorem meets_PortsFail :
    (∀ h ∈ [true, false], (waitsForPos h).reg F.CFG_BOOT_STAT_PHASE = 2 ∧ (waitsForPos h).boot.halted = h ∧
      (waitsForPos h).boot.image.isSome = true) ∧
    (∀ p ∈ [0, 1], p < 2 ∧ tail.portUp p = true ∧ standby.portUp p = false) ∧
    (unechoed.portUp 1 = true ∧ (15, 640) ∈ (unechoed.port 1).unechoed ∧ (tail.port 1).unechoed = []) ∧
    ((put tail [(F.THY_CTL_SYNCED, 1)]).isHead = false ∧ (put tail [(F.THY_CTL_SYNCED, 1)]).isSynced = true ∧
      head.isHead = true) ∧
    ((port tail 1 1).isHead = false ∧ (port tail 1 1).portUp 0 = true ∧ (port tail 1 1).portState 1 = 1 ∧
      (port tail 1 1).posNow ≠ 31) := by decide +kernel

/-- A control block with a content of 48 bits and its CRC (Tables CHV-2, CHV-4, CHV-5). -/
def block (ty c : Nat) : Word64 := BitVec.ofNat 64 (ty + 256 * (c + 2 ^ 48 * (crc8 (leBytes 6 c)).toNat))

def phased (n : Int) : State := { tail with clk := { tail.clk with steps := n } }

def measured (n : Nat) : State :=
  withPort tail 1 { ChvPort.reset with unechoed := [(5, 640)], ds := List.replicate n 700 }

theorem meets_SprigsAndPhase :
    (head.portUp 1 = true ∧ head.tclkRuns = true ∧ (head.port 1).syncDue = false ∧ head.chv.ports.length = 2 ∧
      (standby.portUp 1 && standby.tclkRuns) = false) ∧
    (tail.hearsWest = true ∧ tail.isHead = false ∧ pairContent 0x2D 0 0 = none ∧
      pairContent 0x2D 0x1E 0x1E = none ∧ pairContent 0x2D 0x1E 0 = none ∧
      (pairContent 0x2D 0 (block 0x2D (15 * 2 ^ 42 + 6400))).map (fun c => c % 2 ^ 48) = some (15 * 2 ^ 42 + 6400)) ∧
    (∀ n ∈ [0, 14, 15], (measured n).portUp 1 = true ∧ (measured n).chv.ports.length = 2 ∧
      (pairContent 0x33 (block 0x33 (5 + 16 * 64)) 0).map (fun c => bitsAt c 0 21) = some (5 + 16 * 64) ∧
      ((measured n).port 1).unechoed.find? (fun e => e.1 == bitsAt (5 + 16 * 64) 0 4) = some (5, 640) ∧
      ((measured n).port 1).ds.length = n) ∧
    ∀ n ∈ [(1 : Int), -1, 0], (phased n).tclkRuns = true ∧ (phased n).isHead = false ∧ (phased n).clk.steps = n := by
  decide +kernel

def noPos : State := put tail [(F.CHV_POS_POS, 31)]
def deaf : State := { tail with chv := { Chv.reset with cwIgnored := true } }

theorem meets_ChainPositions :
    (head.chv.cwIgnored = false ∧ head.isHead = true ∧ tail.chv.cwIgnored = false ∧ tail.isHead = false ∧
      tail.portUp 0 = true) ∧
    (noPos.posNow = 31 ∧ tail.posNow = (bitsAt (1 : Word64).toNat 0 5 + 1) % 32 ∧
      tail.posNow ≠ (bitsAt (7 : Word64).toNat 0 5 + 1) % 32 ∧ tail.posNow ≠ 31) ∧
    deaf.chv.cwIgnored = true ∧
    (head.portUp 1 = true ∧ bitsAt (23 : Word64).toNat 0 5 < 24 ∧ bitsAt (2 : Word64).toNat 0 5 < head.reg F.CHV_POS_N) ∧
    (tail.portUp 1 = true ∧ tail.hearsWest = true) := by decide +kernel

/-! ### Commits -/

def committing (s : State) (id : Nat) (target : SegNo) (now : Bool) (st : Nat) (results : Assoc Nat) : State :=
  put { s with commit := ⟨true, true, id, target, now, none, results, false⟩ } [(F.CFG_STAT_STATE, st)]

def commitBits (id target phase : Nat) : Word64 := commitWord id (BitVec.ofNat 32 target) phase false

/-- A head alone, whose CE is UP all the same. -/
def lone : State := put head [(F.CHV_POS_N, 1)]

theorem meets_CommitsAreProposed :
    (lone.isHead = true ∧ lone.chainLen ≤ 1 ∧ lone.portUp 1 = true ∧
      lone.goRefused (BitVec.ofNat 32 (lone.reg F.CFG_COMMIT_SN_V)) (lone.flag F.CFG_COMMIT_NOW) = none) ∧
    (head.isHead = true ∧ head.flag F.CFG_BOOT_STAT_SAFE = false ∧
      head.goRefused (BitVec.ofNat 32 (head.reg F.CFG_COMMIT_SN_V)) (head.flag F.CFG_COMMIT_NOW) = none ∧
      (committing head 1 5 false 1 []).goRefused 0 false = some 0x80) ∧
    (tail.isHead = false ∧ 1 < tail.reg F.CHV_POS_N ∧ tail.commit.frozen = false ∧
      (committing tail 1 5 false 1 []).commit.frozen = true) ∧
    (tail.flag F.CFG_LOCK_LOCKED = false ∧ (put tail [(F.CFG_LOCK_LOCKED, 1)]).flag F.CFG_LOCK_LOCKED = true) ∧
    (tail.hearsWest = true ∧ bitsAt (commitBits 7 5 0).toNat 48 2 = 0) ∧
    ((tail.commit.busy && tail.reg F.CFG_STAT_STATE == 1) = false ∧
      (committing tail 1 5 false 1 []).commit.busy = true ∧
      (committing tail 1 5 false 1 []).reg F.CFG_STAT_STATE = 1 ∧ (committing tail 1 5 false 1 []).isHead = false ∧
      1 < (committing tail 1 5 false 1 []).reg F.CHV_POS_N) := by decide +kernel

/-- The head of a chain of two that waits for the result of position 1. -/
def awaiting : State :=
  { committing (put head [(F.CHV_POS_N, 2)]) 7 5 false 2 [(0, 0)] with commit := ⟨true, true, 7, 5, false, some 0, [(0, 0)], true⟩ }

def resultBits (r : Nat) : Word64 := BitVec.ofNat 64 (1 + 2 ^ 16 * 7 + 2 ^ 32 * r)

/-- The head of a chain of `n` in state `st` of its commit, with the results given. -/
def headOf (n : Nat) (now : Bool) (st : Nat) (results : Assoc Nat) : State :=
  put { head with
      commit := ⟨true, true, 7, 5, now, some 0, results, true⟩,
      shadow := [(F.PIP_SEAM_OVL_W.key, 3)] } [(F.CHV_POS_N, n), (F.CFG_STAT_STATE, st)]

/-- The word of a result of position `p`. -/
def resultAt (p r : Nat) : Word64 := BitVec.ofNat 64 (p + 2 ^ 16 * 7 + 2 ^ 32 * r)

def allBut (n p : Nat) : Assoc Nat := ((List.range n).filter (fun q => q != p)).map (fun q => (q, 0))

/-- The last of 2, 3 and 24 results, with NOW and without; one of them with another outstanding; and a refusal. -/
theorem meets_CommitsAreResolved_results : ∀ x ∈ [(2, true), (3, false), (24, false)],
    (headOf x.1 x.2 2 (allBut x.1 1)).portUp 1 = true ∧ (headOf x.1 x.2 2 (allBut x.1 1)).isHead = true ∧
      (headOf x.1 x.2 2 (allBut x.1 1)).commit.busy = true ∧ (headOf x.1 x.2 2 (allBut x.1 1)).reg F.CFG_STAT_STATE ≠ 3 ∧
      (headOf x.1 x.2 2 (allBut x.1 1)).chainLen = x.1 ∧ x.1 ≤ 24 ∧
      (∀ p, p < x.1 → p ≠ 1 → Assoc.find (headOf x.1 x.2 2 (allBut x.1 1)).commit.results p = some 0) ∧
      Assoc.find (headOf x.1 x.2 2 []).commit.results 0 = none ∧
      Assoc.rising (headOf x.1 x.2 2 (allBut x.1 1)).shadow = true ∧
      (headOf x.1 x.2 2 (allBut x.1 1)).cal.repairDue = false := by decide +kernel

theorem meets_CommitsAreResolved_words : ∀ r ∈ [0, 3], bitsAt (resultAt 1 r).toNat 16 16 = 7 ∧
    bitsAt (resultAt 1 r).toNat 0 5 = 1 ∧ bitsAt (resultAt 1 r).toNat 32 8 = r := by decide +kernel

/-- A chain of three whose head issues the first action of TARGET_SN with the result of position 2 outstanding: the
first line of a run, and a requested boundary. -/
def timesOut (first : Bool) (target : Nat) : State :=
  put { head with
      thy := { Thy.reset with t0 := 100, first := first, sinceBoundary := 64, reqHost := true, sn := 4 },
      commit := ⟨true, true, 7, BitVec.ofNat 32 target, false, some 0, [(0, 0), (1, 0)], true⟩ }
    [(F.THY_CTL_RUNNING, 1), (F.HKP_PWR_STATE, 3), (F.THY_CTL_MODE, 1), (F.CFG_STAT_STATE, 2)]

theorem meets_CommitsAreResolved_aborts :
    (∀ b ∈ [true, false], ∀ target ∈ [5, 4], (timesOut b target).isHead = true ∧
      (timesOut b target).commit.busy = true ∧ (timesOut b target).chainLen = 3 ∧
      (timesOut b target).cal.repairDue = false ∧ (timesOut b target).headIssues = true ∧
      (timesOut b target).nextTime = some 100 ∧
      signedDiff 100 (timesOut b target).pt ≤ Int.ofNat (timesOut b target).leadEff ∧
      (timesOut b target).reg F.CFG_STAT_STATE ≠ 3 ∧ (timesOut b target).thy.first = b ∧
      64 ≤ (timesOut b target).thy.sinceBoundary ∧ (timesOut b target).thy.reqHost = true ∧
      snLater (timesOut b target).commit.target ((timesOut b target).thy.sn + 1) = false) ∧
    ((headOf 3 false 2 []).portUp 1 = true ∧ ∀ p ∈ [0, 23], bitsAt (BitVec.ofNat 64 p : Word64).toNat 0 5 < 24 ∧
      bitsAt (BitVec.ofNat 64 p : Word64).toNat 0 5 + 1 ≠ (headOf 3 false 2 []).reg F.CHV_POS_N) := by decide +kernel

theorem meets_CommitsAreResolved :
    (tail.portUp 1 = true ∧ tail.isHead = false) ∧
    (awaiting.portUp 1 = true ∧ awaiting.isHead = true ∧ awaiting.commit.busy = true ∧ awaiting.reg F.CFG_STAT_STATE = 2 ∧
      awaiting.reg F.CHV_POS_N = 2 ∧ awaiting.commit.results = [(0, 0)] ∧ awaiting.commit.own = some 0 ∧
      ∀ r ∈ [0, 255], awaiting.commit.id = bitsAt (resultBits r).toNat 16 16 ∧ bitsAt (resultBits r).toNat 0 5 = 1 ∧
        bitsAt (resultBits r).toNat 32 8 = r) ∧
    (∀ now ∈ [true, false], (committing tail 7 5 now 2 []).hearsWest = true ∧
      (committing tail 7 5 now 2 []).commit.busy = true ∧ Assoc.rising (committing tail 7 5 now 2 []).shadow = true ∧
      (committing tail 7 5 now 2 []).cal.repairDue = false ∧ (committing tail 7 5 now 2 []).commit.id = 7) ∧
    (∀ p ∈ [1, 2], bitsAt (commitBits 7 5 p).toNat 48 2 = p ∧ bitsAt (commitBits 7 5 p).toNat 32 16 = 7) ∧
    tail.commit.busy = false := by decide +kernel

/-! ### DMA, the PCIe link and BAR2 -/

def aDesc (idx used phase : Nat) : Desc :=
  { idx := idx, slot := dramBase + 0x2000000 + 32 * (idx % 8), len := 4096, addr := 0x1000, irq := false, used := used, firstRec := 0, split := false, segclose := false,
    partial_ := false, cont := none, begins := [], ends := [], bad := [], evts := 0, status := 0, phase := phase }

def aRing (stream : Nat) (down : Bool) (held : List Desc) (take : Nat) : Ring :=
  { Ring.reset with active := true, stream := some stream, held := held, take := take, buf := 4096, down := down }

/-- Ring 15 in use, with DMA running and PI as given. -/
def ringing (x : Ring) (pi : Nat) : State :=
  put ({ standby with dma := { Dma.reset with rings := (List.replicate 16 Ring.reset).set 15 x } })
    [(F.DMA_CTL_EN, 1), (F.DMA_STAT_LINKED, 1), (F.DMA_RING_PI_PI 15, pi)]

def aRecord : Staged := ⟨List.replicate 66 7, 9, 9, 0, 1, 1, 0⟩

def staged (x : Ring) (pi : Nat) : State := (ringing x pi).setStream 15 { Stream.reset with recs := [aRecord] }

/-- DMA without its link. -/
def unlinked (pi : Nat) : State := put (ringing (aRing 15 false [] 0) pi) [(F.DMA_STAT_LINKED, 0)]

/-- Ring 14 takes stream 15 over from ring 15 with segment 5. -/
def handedOver : State :=
  (staged { aRing 15 false [] 0 with next := [.ends 4] } 0).setRing 14 { aRing 15 false [] 0 with since := some 5 }

theorem meets_RingsWriteStopAndRead :
    ((handedOver.ring 15).held = [] ∧ handedOver.posted 15 = 0 ∧ (handedOver.ring 15).stream = some 15 ∧
      handedOver.pip.streams.length = 18 ∧ handedOver.otherRing 15 15 = some (handedOver.ring 14) ∧
      (staged (aRing 15 false [] 0) 0).otherRing 15 15 = none) ∧
    (15 < 16 ∧ (standby.ring 15).active = false ∧ standby.flag F.CFG_BOOT_STAT_SAFE = false ∧
      standby.mayWrite 15 = false) ∧
    ((unlinked 0).dmaRuns = false ∧ ((unlinked 0).ring 15).active = true ∧ ((unlinked 0).ring 15).size = 8) ∧
    ((staged (aRing 15 false [aDesc 7 100 0] 0) 0).mayWrite 15 = true ∧
      ((staged (aRing 15 false [aDesc 7 100 0] 0) 0).ring 15).stream = some 15 ∧
      ((staged (aRing 15 false [aDesc 7 100 0] 0) 0).ring 15).next = [] ∧
      ((staged (aRing 15 false [aDesc 7 100 0] 0) 0).ring 15).serves aRecord.sn = true ∧
      (staged (aRing 15 false [aDesc 7 100 0] 0) 0).dma.rings.length = 16 ∧
      (staged (aRing 15 false [aDesc 7 100 0] 0) 0).pip.streams.length = 18 ∧
      ((staged (aRing 15 false [aDesc 7 100 0] 0) 0).stream 15).recs = [aRecord] ∧ aRecord.done = 0 ∧
      aRecord.bytes ≠ [] ∧ aRecord.kind ≠ 3 ∧
      (staged (aRing 15 false [aDesc 7 100 0] 0) 0).filling 15 = some (aDesc 7 100 0) ∧
      100 + aRecord.bytes.length < (aDesc 7 100 0).len ∧ (badBytes [(0, 65)] 0 64 0).filter
        (fun i => decide (i < aRecord.bytes.length)) ≠ []) ∧
    ((staged (aRing 15 false [] 0) 0).filling 15 = none ∧ (staged (aRing 15 false [] 0) 0).posted 15 = 0 ∧
      (staged (aRing 15 false [] 0) 0).mayWrite 15 = true ∧
      (staged (aRing 15 false [] 0) 0).flag (F.DMA_RING_STAT_STARVED 15) = false) ∧
    ((ringing (aRing 19 true [aDesc 15 4 0] 0) 0).dmaRuns = true ∧
      ((ringing (aRing 19 true [aDesc 15 4 0] 0) 0).ring 15).down = true ∧
      ((ringing (aRing 19 true [aDesc 15 4 0] 0) 0).ring 15).held = [aDesc 15 4 0] ∧
      (ringing (aRing 19 true [aDesc 15 4 0] 0) 0).posted 15 = 0 ∧
      (ringing (aRing 19 true [aDesc 15 4 0] 0) 0).sor.seeking = false ∧
      (ringing (aRing 19 true [aDesc 15 4 0] 0) 0).backlogUsed + (aDesc 15 4 0).used ≤ 0x4000000 ∧
      ((ringing (aRing 19 true [aDesc 15 4 0] 0) 0).ring 15).active = true ∧
      (aDesc 15 4 0).phase = 0 ∧
      (ringing (aRing 19 true [aDesc 15 4 0] 0) 0).flag (F.DMA_RING_CTL_STOPPED 15) = false) ∧
    (∀ x ∈ [aRing 15 false [] 0, aRing 19 true [] 0], ((ringing x 0).ring 15).held = [] ∧ (ringing x 0).posted 15 = 0 ∧
      ((ringing x 0).ring 15).stream = x.stream) ∧
    ((standby.ring 15).held = [] ∧ (standby.ring 15).stream = none) := by decide +kernel

def aging : State := put (ringing (aRing 15 false [aDesc 7 100 0] 0) 0) [(F.DMA_RING_AGE_AGE 15, 1)]

def flushing : State := ringing (aRing 15 false [aDesc 15 100 2] 0) 0

def moderated (enabled : Bool) : State :=
  put { ringing { aRing 15 false [] 0 with unsent := 1 } 0 with
      dma := { Dma.reset with rings := (List.replicate 16 Ring.reset).set 15 { aRing 15 false [] 0 with unsent := 1 },
                              msix := [(12, 0)], pcie := { Pcie.reset with msixEnable := enabled } } }
    [(F.DMA_RING_CTL_IRQ_EN 15, 1), (F.DMA_RING_MOD_TIMER 15, 1)]

def closing (w : Nat) : State := { standby with dma := { Dma.reset with closes := [⟨4, 9, w, 3⟩] } }

theorem meets_BuffersComplete :
    (aging.dma.rings.length = 16 ∧ aging.filling 15 = some (aDesc 7 100 0) ∧ aging.mayWrite 15 = true ∧ 100 ≠ 0 ∧
      aging.reg (F.DMA_RING_AGE_AGE 15) ≠ 0 ∧ ∀ e ∈ (aging.ring 15).held, e.phase ≠ 2) ∧
    ((ringing (aRing 15 false [aDesc 7 0 0] 0) 0).filling 15 = some (aDesc 7 0 0)) ∧
    ((flushing.ring 15).held = [aDesc 15 100 2] ∧ (aDesc 15 100 2).phase = 2 ∧ (flushing.ring 15).next = [] ∧
      flushing.dma.drain = false ∧ flushing.posted 15 = 0 ∧ (flushing.ring 15).stream ≠ some 18 ∧
      Memory.wf flushing.mem = true ∧ (flushing.ring 15).retried = false ∧ (flushing.ring 15).down = false) ∧
    ((flushing.ring 15).down = false ∧ (aDesc 15 100 2).bad = []) ∧
    (∀ b ∈ [true, false], (moderated b).flag (F.DMA_RING_CTL_IRQ_EN 15) = true ∧
      (moderated b).flag F.DMA_STAT_LINKED = true ∧ (moderated b).reg (F.DMA_RING_MOD_TIMER 15) ≠ 0 ∧
      ((moderated b).ring 15).unsent ≠ 0 ∧ (moderated b).msixMasked ((moderated b).reg (F.DMA_RING_CTL_VEC 15)) = !b) ∧
    ((closing 0).dma.closes = [⟨4, 9, 0, 3⟩] ∧ (closing 0).segHandled 4 = true ∧
      (closing 1).dma.closes = [⟨4, 9, 1, 3⟩]) := by decide +kernel

def linked : State :=
  put { standby with dma := { Dma.reset with lastLink := some (4, 8), pcie := { Pcie.reset with ptm := true } } }
    [(F.DMA_STAT_LINKED, 1), (F.PCX_LINK_DL_UP, 1), (F.PCX_LINK_SPEED, 4)]
def lostLink : State := { standby with dma := { Dma.reset with lost := true } }
def dialog : State := { linked with dma := { Dma.reset with ptmDue := true } }

theorem meets_LinkAndPtmStates :
    (linked.flag F.DMA_STAT_LINKED = true ∧ (∀ r, r < 16 → (linked.ring r).active = false) ∧
      standby.flag F.DMA_STAT_LINKED = false) ∧
    (standby.dma.errDue = 0 ∧ standby.dma.lost = false ∧ lostLink.dma.lost = true ∧ lostLink.dma.hub = false ∧
      lostLink.dma.errDue = 0) ∧
    (1 ≤ 6 ∧ 1 ≤ 1 ∧ linked.dma.lastLink = some (4, 8) ∧ (4, 8) ≠ (6, 8) ∧ standby.dma.lastLink = none ∧
      linked.flag F.DMA_STAT_LINKED = true ∧ linked.dma.pba = 0 ∧ standby.flag F.DMA_STAT_LINKED = false) ∧
    (linked.flag F.PCX_LINK_DL_UP = true ∧ standby.flag F.PCX_LINK_DL_UP = false ∧
      (put linked [(F.PCX_PTM_CTL_AUTO, 1)]).flag F.PCX_PTM_CTL_AUTO = true ∧ linked.dma.pcie.ptm = true ∧
      (put linked [(F.PCX_PTM_CTL_AUTO, 1), (F.PCX_LINK_DL_UP, 0)]).flag F.PCX_LINK_DL_UP = false ∧
      standby.flag F.PCX_PTM_CTL_AUTO = false ∧ standby.dma.pcie.ptm = false) ∧
    (dialog.dma.ptmDue = true ∧ standby.dma.ptmDue = false ∧ 2 ^ 64 - 1 < 2 ^ 64) := by decide +kernel

theorem meets_Bar2Writes :
    (Memory.wf standby.mem = true ∧ onePage 0x4000FFE [1, 2].length = true ∧ 0x4000FFE + [1, 2].length ≤ bar2Size ∧
      bar2Range 0x4000FFE = .readWrite) ∧
    (onePage 0x1FFFFFF [1].length = true ∧ bar2Range 0x1FFFFFF = .slot 0xFFFFFF ∧
      standby.lockedSlot 0xFFFFFF = none ∧ (put standby [(F.CAL_SETS_EN, 128)]).lockedSlot 0xFFFFFF = some 7) ∧
    (bar2Range 0x3000000 = .readOnly ∧ bar2Range (bar2Size - 1) = .reserved ∧ onePage (bar2Size - 1) [1].length = true) := by
  decide +kernel

/-! ### Reset, boot and security -/

def released (b : Bool) (sup : Supply) : State :=
  { State.reset with boot := { Boot.reset with supply := sup, resetN := b } }

def railsBad : State := { released false .reset with bay := { Bay.reset with railsGood := false, railsOff := 15 } }

def pllImage : State := { standby with clk := { standby.clk with imagePairs := 8 } }

theorem meets_ResetAndRelease :
    (railsBad.boot.resetN = false ∧ railsBad.bay.railsGood = false) ∧
    ((released false .reset).boot.resetN = false ∧ (released false .reset).bay.railsGood = true ∧
      (released false .reset).boot.supply = .reset ∧ (released false .reset).clk.refLost = false) ∧
    ((released true .reset).boot.resetN = true ∧ (released true .reset).boot.supply = .reset ∧
      (released true .reset).clk.refLost = false) ∧
    (standby.boot.supply = .run ∧ standby.bay.vaux = true ∧ bitAt standby.clk.imagePairs 3 = false) ∧
    (bitAt pllImage.clk.imagePairs 3 = true ∧ pllImage.clk.refLost = false ∧
      pllPair 3 (pllImage.reg (F.CLK_PLL_CTL_REF_MODE 3)) (pllImage.reg (F.CLK_PLL_CTL_N 3)) = true) := by decide +kernel

/-- Boot in phase `ph`. -/
def booting (ph : Nat) (b : Boot) : State :=
  put { State.reset with boot := { b with supply := .run, resetN := true }, clk := { State.reset.clk with ptMode := .off } }
    [(F.CFG_BOOT_STAT_PHASE, ph)]

/-- A chunk that begins with the magic of an image and a length of 7,984 bytes. -/
def chunk : List Byte := [0x56, 0x4C, 0x42, 0x49, 1, 0, 0, 0] ++ leBytes 4 7984 ++ List.replicate 244 0

def fetched : Assoc Byte := (List.range 256).map (fun i => (i, chunk[i]?.getD 0))

def listening : State :=
  put (booting 2 { Boot.reset with read := .chunks, got := fetched }) [(F.TWI_BOOT_STAT_MODE, 2)]

/-- The controller waits for a bus that a recovery has not freed. -/
def stuckBus : State := booting 2 { Boot.reset with read := .chunks, stuck := true }

theorem meets_ImageIsRead :
    (stuckBus.boot.stuck = true ∧ stuckBus.reads = true ∧ listening.boot.stuck = false ∧ listening.boot.backoff = false ∧
      (booting 2 { Boot.reset with read := .probe1 }).boot.stuck = false ∧
      (booting 2 { Boot.reset with read := .probe2 false }).boot.stuck = false) ∧
    (standby.reads = false ∧ (booting 2 { Boot.reset with read := .probe1, backoff := true }).boot.backoff = true) ∧
    ((booting 2 { Boot.reset with read := .probe1 }).reads = true ∧
      (booting 2 { Boot.reset with read := .probe1 }).boot.backoff = false ∧
      (booting 2 { Boot.reset with read := .probe1 }).boot.read = .probe1 ∧
      (booting 2 { Boot.reset with read := .probe1 }).boot.got = [] ∧ magicOk chunk = true ∧ chunk.length = 256 ∧
      lengthOk 1 (leAt chunk 8 4) = true ∧ magicOk [] = false ∧
      (booting 2 { Boot.reset with read := .probe1 }).reg F.TWI_BOOT_STAT_ARB_LOST < 65535) ∧
    (∀ n ∈ [9, 10], (booting 2 { Boot.reset with read := .probe2 false, probes := n }).reads = true ∧
      (booting 2 { Boot.reset with read := .probe2 false, probes := n }).boot.read = .probe2 false ∧
      (booting 2 { Boot.reset with read := .probe2 false, probes := n }).boot.probes = n) ∧
    ((booting 2 { Boot.reset with read := .retry }).reads = true ∧
      (booting 2 { Boot.reset with read := .retry }).boot.read = .retry) ∧
    (listening.reads = true ∧ listening.boot.read = .chunks ∧
      listenedBytes (listening.reg F.TWI_BOOT_STAT_MODE) [] = none ∧
      listenedBytes (listening.reg F.TWI_BOOT_STAT_MODE) [[0xA0, 0, 0x1F, 0x2F], [0xA1, 5]] = some (0x1F2F, [5]) ∧
      imageLength listening.boot.got = some 7984 ∧ lengthOk (listening.reg F.TWI_BOOT_STAT_MODE) 7984 = true ∧
      0x1F2F < 7984 ∧ firstGap 0 listening.boot.got < 0x1F2F ∧ Assoc.find listening.boot.got 0x1F2F = none) ∧
    (∀ r ∈ [1, 2], (put (booting 2 { Boot.reset with read := .chunks }) [(F.TWI_BOOT_STAT_RECOVERIES, r)]).reads = true ∧
      (put (booting 2 { Boot.reset with read := .chunks }) [(F.TWI_BOOT_STAT_RECOVERIES, r)]).reg
        F.TWI_BOOT_STAT_RECOVERIES = r) := by decide +kernel

/-- An image of the least length with one section, a register record of offset `off` and mask 0 (Tables CFG-5, CFG-6). -/
def imageHead (off : Nat) : List Byte :=
  [0x56, 0x4C, 0x42, 0x49, 1, 0, 0, 0] ++ leBytes 4 7984 ++ leBytes 2 1 ++ List.replicate 50 0
    ++ leBytes 2 1 ++ [0xFF, 0] ++ leBytes 4 80 ++ leBytes 4 12 ++ leBytes 4 0
    ++ leBytes 4 off

def image (off : Nat) : List Byte := imageHead off ++ List.replicate 7900 0

def verifying (img : List Byte) : State := booting 3 { Boot.reset with image := some img }

theorem image_headerOk (off : Nat) (h : off = 0) : headerOk (image off) = true := by
  subst h
  have k : (imageHead 0).length = 84 := by decide +kernel
  have h : (image 0).length = 7984 := by rw [image, List.length_append, List.length_replicate, k]
  unfold headerOk
  rw [h]
  decide +kernel

theorem meets_ImageIsAppliedOrRefused :
    ((verifying []).boot.halted = false ∧ (verifying []).boot.image = some [] ∧
      (verifying []).reg F.CFG_BOOT_STAT_PHASE = 3 ∧ headerOk [] = false) ∧
    ((verifying (image 0)).boot.halted = false ∧ (verifying (image 0)).boot.image = some (image 0) ∧
      (verifying (image 0)).reg F.CFG_BOOT_STAT_PHASE = 3 ∧ headerOk (image 0) = true ∧
      (verifying (image 0)).owned = false ∧
      (verifying (image 0)).reg F.SEC_RB_V ≤ leAt (image 0) 16 4 ∧ sectionsOk (image 0) = true) ∧
    ((put (verifying (image 0)) [(F.SEC_SLOT_CTL_STATE 3, 1)]).owned = true ∧
      (put (verifying (image 0)) [(F.SEC_SLOT_CTL_STATE 3, 1)]).keySlot (image 0) = none) ∧
    standby.reg F.CFG_BOOT_STAT_PHASE ≠ 3 ∧ standby.reg F.CFG_BOOT_STAT_PHASE ≠ 4 ∧
    ((booting 4 { Boot.reset with image := some (image 0xE0000) }).boot.halted = false ∧
      (booting 4 { Boot.reset with image := some (image 0xE0000) }).boot.image = some (image 0xE0000) ∧
      (booting 4 { Boot.reset with image := some (image 0xE0000) }).reg F.CFG_BOOT_STAT_PHASE = 4) ∧
    (standby.reg F.HKP_PWR_STATE = 2 ∧ standby.isRunning = false ∧ (launching head).flag F.CFG_BOOT_STAT_SAFE = false ∧
      (launching head).isRunning = true) :=
  ⟨by decide +kernel, ⟨rfl, rfl, by decide +kernel, image_headerOk 0 rfl, by decide +kernel, by decide +kernel,
    by decide +kernel⟩, by decide +kernel, by decide +kernel, by decide +kernel, ⟨rfl, rfl, by decide +kernel⟩,
    by decide +kernel⟩

/-- An owned device in phase 3 whose slot 2 is in state `st` and holds the hash of the image's public key; the image has
been read once more where `again`. -/
def fitting (st again : Nat) : State :=
  let h := sha256 (((imageHead 0).drop 32).take 32)
  put (verifying (image 0)) ((F.SEC_SLOT_CTL_STATE 2, st) :: (F.CFG_BOOT_STAT_REREAD, again) ::
    (List.range 8).map (fun j => (F.SEC_SLOT_HASH_V 2 j, ofLeBytes ((h.drop (4 * j)).take 4))))

/-- The ACTIVE slot with the key fits, a REVOKED one does not, and a first and a second reading of the image. -/
theorem meets_ImageIsAppliedOrRefused_key :
    (∀ again ∈ [0, 1], (fitting 1 again).boot.halted = false ∧ (fitting 1 again).reg F.CFG_BOOT_STAT_PHASE = 3 ∧
      (fitting 1 again).reg (F.SEC_SLOT_CTL_STATE 2) = 1 ∧
      (fitting 1 again).slotHash 2 = sha256 (((imageHead 0).drop 32).take 32) ∧
      (fitting 1 again).reg F.CFG_BOOT_STAT_REREAD = again ∧
      (fitting 1 again).flag F.CFG_BOOT_STAT_FROM_HOST = false) ∧
    (fitting 2 0).reg (F.SEC_SLOT_CTL_STATE 2) ≠ 0 ∧ (∀ k, k < 4 → (fitting 2 0).reg (F.SEC_SLOT_CTL_STATE k) ≠ 1) := by
  decide +kernel

theorem fitting_image (st again : Nat) : (fitting st again).boot.image = some (image 0) := rfl

/-- The public key of the image lies within the bytes that are written out. -/
theorem image_key : ((image 0).drop 32).take 32 = ((imageHead 0).drop 32).take 32 := by
  have k : (imageHead 0).length = 84 := by decide +kernel
  rw [image, List.drop_append_of_le_length (by omega), List.take_append_of_le_length (by simp [k])]

/-- Rollback numbers on both sides of the counter. -/
theorem meets_ImageIsAppliedOrRefused_rollback :
    leAt (imageHead 0) 16 4 = 0 ∧ (verifying []).reg F.SEC_RB_V = 0 ∧ (put (verifying []) [(F.SEC_RB_V, 1)]).reg F.SEC_RB_V = 1 := by
  decide +kernel

/-- A configuration that passes its check: one program that clears, opens and transfers every group. -/
def configured : List (Field × Nat) :=
  [(F.THY_MINPER_MINPER, 5000), (F.THY_PROG0_LEN 0, 3),
    (F.THY_STEP_TICK 0 0, 1700), (F.THY_STEP_KIND 0 0, 3), (F.THY_STEP_MASK 0 0, 63),
    (F.THY_STEP_TICK 0 1, 1750), (F.THY_STEP_KIND 0 1, 1), (F.THY_STEP_MASK 0 1, 63),
    (F.THY_STEP_TICK 0 2, 1900), (F.THY_STEP_KIND 0 2, 2), (F.THY_STEP_MASK 0 2, 63)]

def applying : State := put (booting 4 { Boot.reset with image := some (image 0) }) configured

/-- Boot phase 4 with an image that is applied. -/
theorem meets_ImageIsAppliedOrRefused_applied :
    applying.boot.halted = false ∧ applying.reg F.CFG_BOOT_STAT_PHASE = 4 ∧
      (State.applySects (image 0) (imageSects (image 0)) applying).2 = true ∧
      (State.applySects (image 0) (imageSects (image 0)) applying).1.checkConfig none
        (State.applySects (image 0) (imageSects (image 0)) applying).1.target = none ∧
      (State.applySects (image 0) (imageSects (image 0)) applying).1.thermDown = false ∧
      (State.applySects (image 0) (imageSects (image 0)) applying).1.hkp.resuming = none := by decide +kernel

/-- One whose configuration fails its check. -/
theorem meets_ImageIsAppliedOrRefused_unfit :
    (State.applySects (image 0) (imageSects (image 0)) (booting 4 { Boot.reset with image := some (image 0) })).2 = true ∧
      (State.applySects (image 0) (imageSects (image 0)) (booting 4 { Boot.reset with image := some (image 0) })).1.checkConfig
        none (State.applySects (image 0) (imageSects (image 0))
          (booting 4 { Boot.reset with image := some (image 0) })).1.target ≠ none ∧
      (State.applySects (image 0xE0000) (imageSects (image 0xE0000))
        (booting 4 { Boot.reset with image := some (image 0xE0000) })).2 = false := by decide +kernel

def slotted (st : Nat) : State := put standby [(F.SEC_SLOT_CTL_STATE 3, st)]

def reporting : State := { standby with boot := { standby.boot with report := some (List.replicate 256 1) } }

theorem meets_KeysAndAttestation :
    (3 < 4 ∧ standby.flag F.CFG_LOCK_LOCKED = false ∧ (slotted 0).reg (F.SEC_SLOT_CTL_STATE 3) = 0 ∧
      (slotted 1).reg (F.SEC_SLOT_CTL_STATE 3) = 1 ∧ (slotted 1).flag F.SEC_STAT_KEY_VALID = false ∧
      (slotted 2).reg (F.SEC_SLOT_CTL_STATE 3) ≠ 1) ∧
    ((put standby [(F.CFG_LOCK_LOCKED, 1)]).flag F.CFG_LOCK_LOCKED = true ∧
      standby.reg F.CFG_IMAGE_RB_V ≤ standby.reg F.SEC_RB_V ∧
      (put standby [(F.CFG_IMAGE_RB_V, 1)]).reg F.SEC_RB_V < (put standby [(F.CFG_IMAGE_RB_V, 1)]).reg F.CFG_IMAGE_RB_V) ∧
    (standby.flag F.SEC_STAT_ATT_BUSY = false ∧ (put standby [(F.SEC_STAT_ATT_BUSY, 1)]).flag F.SEC_STAT_ATT_BUSY = true) ∧
    (reporting.boot.report = some (List.replicate 256 1) ∧ Memory.wf reporting.mem = true ∧ standby.boot.report = none) := by
  decide +kernel

/-- A module whose slot `k` is in use, with the two-wire pointer at offset `o` of the slot. -/
def inUse (k o : Nat) : State :=
  put standby [(F.CAL_SETS_EN, 2 ^ k), (F.TWI_PTR_V, 2 ^ 31 + dramBase + k * 0x200000 + o)]

theorem meets_SetSlotsInUseAreLocked :
    (standby.boot.supply = .run ∧ standby.reg F.CFG_BOOT_STAT_PHASE = 5 ∧ standby.flag F.HKP_THERM_HOLD = false) ∧
    (bitAt ((inUse 7 0x1FFFFC).reg F.CAL_SETS_EN) 7 = true ∧ onePage (dramBase + (7 * 0x200000 + 0x1FFFFF)) 1 = true ∧
      (inUse 7 0x1FFFFC).twAnswers = true ∧
      (inUse 7 0x1FFFFC).twPtr = 2 ^ 31 + (dramBase + (7 * 0x200000 + 0x1FFFFC)) ∧ (inUse 7 0x1FFFFC).twRoom = 4 ∧
      (inUse 7 0x1FFFFC).flag F.TWI_CTL_PEC_REQ = false) ∧
    (bitAt ((inUse 0 0).reg F.CAL_SETS_EN) 0 = true ∧ (inUse 0 0).twPtr = 2 ^ 31 + (dramBase + (0 * 0x200000 + 0)) ∧
      8 ≤ (inUse 0 0).twRoom ∧ (inUse 0 0).countOk 255 = true) := by decide +kernel

/-! ### The two-wire port -/

def four : List Byte := [0x10, 0x20, 0x30, 0]
def eight : List Byte := [1, 0, 0, 0, 2, 0, 0, 0]

/-- A module whose two-wire pointer is as given. -/
def pointing (p : Nat) : State := put standby [(F.TWI_PTR_V, p)]

/-- A module that requires PECs. -/
def checked : State := put standby [(F.TWI_CTL_PEC_REQ, 1)]

/-- A module in boot phase 4. -/
def phase4 : State := put standby [(F.CFG_BOOT_STAT_PHASE, 4)]

theorem meets_TwoWireWrites :
    (standby.twAnswers = true ∧ four.length = 4 ∧ pointerOk (ofLeBytes four) = true ∧
      standby.flag F.TWI_CTL_PEC_REQ = false ∧ pointerOk (ofLeBytes [1, 0, 0, 0]) = false ∧
      pointerOk (ofLeBytes [0, 0, 0x40, 0]) = false ∧ pointerOk (ofLeBytes [0xFC, 0xFF, 0x3F, 0]) = true) ∧
    (checked.twAnswers = true ∧ checked.booting = false ∧ 8 ≤ checked.twRoom ∧ checked.flag F.TWI_CTL_PEC_REQ = true) ∧
    ((pointing 0xFFC).twAnswers = true ∧ (pointing 0xFFC).booting = false ∧ 4 ≤ (pointing 0xFFC).twRoom ∧
      spaceOf (pointing 0xFFC).twPtr = false ∧ 4 ≤ (pointing 0x80000FFC).twRoom ∧
      spaceOf (pointing 0x80000FFC).twPtr = true) ∧
    (0x19 = pecOf ([(pointing 0xFFC).twAddress, 2] ++ four.map (fun b => b.toNat)) ∧
      0x1A ≠ pecOf ([(pointing 0xFFC).twAddress, 2] ++ four.map (fun b => b.toNat))) ∧
    (eight.length = 8 ∧ 8 ≤ (pointing 0xFF8).twRoom ∧ spaceOf (pointing 0xFF8).twPtr = false) ∧
    ((pointing 0x80000FFF).countOk 2 = false ∧ (pointing 0x80000FFF).countOk 0 = false ∧
      (pointing 0x80000FFF).countOk 1 = true ∧ [7].length = 1 ∧ (pointing 0x80000FFF).twAnswers = true) ∧
    phase4.booting = true ∧ (pointing 0xFF8).flag F.TWI_CTL_PEC_REQ = false := by decide +kernel

theorem meets_TwoWireReads :
    ((pointing 0xFFC).twAnswers = true ∧ 4 ≤ (pointing 0xFFC).twRoom ∧ spaceOf (pointing 0xFFC).twPtr = false ∧
      (pointing 0x80000FFD).twRoom < 4 ∧ (pointing 0x400000).twRoom < 4) ∧
    ((pointing 0xFFC).booting = false ∧ bitAt 1 0 = true ∧ bitAt 0 0 = false) ∧
    ((pointing (0x83000FF8)).twAnswers = true ∧ (pointing 0x83000FF8).booting = false ∧
      (pointing 0x83000FF8).hubStopped = false ∧ spaceOf (pointing 0x83000FF8).twPtr = true ∧
      (pointing 0x84000FF8).twRoom = 8 ∧
      (∀ i, i < 8 → bar2Range ((pointing 0x84000FF8).twPtr % 2 ^ 28 + i) = .readWrite) ∧
      (pointing 0x84000FF8).countOk 8 = true ∧ (pointing 0x84000FF8).countOk 9 = false) ∧
    ({ standby with twi := { standby.twi with waitStop := true } } : State).twAnswers = false := by decide +kernel

/-- A module with one record in its event FIFO. -/
def oneEvent : State := standby.log 0x101 [(1, 3)]

def attending (newly : Bool) : State := { standby with twi := ⟨true, newly, false, standby.twi.view⟩ }
def unreferenced : State := { standby with clk := { standby.clk with refLost := true } }

theorem meets_EventsAndAttention :
    (oneEvent.twAnswers = true ∧ oneEvent.booting = false ∧ oneEvent.flag F.DMA_EVT_EN = false ∧
      oneEvent.dma.evtSent = 0 ∧ oneEvent.fifo ≠ [] ∧ oneEvent.fifoLost = 0 ∧ standby.fifo = [] ∧
      (put oneEvent [(F.DMA_EVT_EN, 1)]).flag F.DMA_EVT_EN = true) ∧
    { oneEvent with dma := { oneEvent.dma with evtSent := 1 } }.dma.evtSent ≠ 0 ∧
    (standby.clk.refLost = false ∧ unreferenced.clk.refLost = true) ∧
    ((attending true).mayAttend = true ∧ (attending true).twi.newly = true ∧ (attending false).mayAttend = true ∧
      (attending false).twi.unanswered = true ∧ (attending false).twi.newly = false ∧
      (attending false).twi.waitStop = false ∧ standby.twi.unanswered = false ∧ standby.twi.newly = false) ∧
    ({ standby with twi := { standby.twi with waitStop := true } } : State).twi.waitStop = true := by decide +kernel

/-! ### Clocks -/

/-- A pair in the control register of PLL `x`. -/
def paired (x mode n : Nat) (s : State) : State := put s [(F.CLK_PLL_CTL_REF_MODE x, mode), (F.CLK_PLL_CTL_N x, n)]

/-- Locks in progress. -/
def locking (s : State) : State := { s with clk := { s.clk with locking := 31 } }

theorem meets_PllStates :
    (standby.takesWrites ∧ pllPair 4 3 80 = false ∧ pllPair 0 0 72 = false ∧ pllPair 4 2 160 = true ∧
      pllPair 0 1 30 = true ∧ (launching standby).takesWrites ∧ (launching standby).isRunning = true ∧
      (paired 4 2 160 standby).takesWrites ∧ (paired 4 2 160 standby).isRunning = false ∧
      (paired 4 2 160 standby).flag F.DMA_CTL_EN = false ∧ (paired 4 2 160 standby).clk.refLost = false ∧
      (put (paired 4 2 160 standby) [(F.CLK_PLL_STAT_GATED 4, 1)]).gated 4 = true) ∧
    (standby.boot.supply = .run ∧ bitAt (locking standby).clk.locking 4 = true ∧ bitAt standby.clk.locking 4 = false ∧
      (put standby [(F.CLK_PLL_STAT_LOCKED 4, 1)]).flag (F.CLK_PLL_STAT_LOCKED 4) = true ∧
      standby.flag (F.CLK_PLL_STAT_LOCKED 4) = false ∧ standby.clk.refLost = false ∧ unreferenced.clk.refLost = true ∧
      unreferenced.boot.supply = .run) ∧
    (standby.thermDown = false ∧ standby.clk.halted = false) ∧
    ((put (locking standby) [(F.HKP_THERM_HOLD, 1)]).thermDown = true ∧
      { locking standby with hkp := { standby.hkp with resuming := some 9 } }.hkp.resuming.isSome = true ∧
      (locking standby).hkp.resuming.isSome = false) := by
  unfold State.takesWrites
  decide +kernel

/-! ### Housekeeping, power, the Bay island, JTAG -/

/-- Sixteen readings of 25 °C, die 2 at its shutdown limit and one more where `hot`. -/
def readings (hot : Bool) : List (Nat × Bool) :=
  (List.replicate 9 (400, true)) ++ [(if hot then 1521 else 1520, true)] ++ List.replicate 6 (0, true)

/-- Die 2 was above its limit in the last round. -/
def warm : State := { standby with hkp := { standby.hkp with above := 4 } }

def holding : State := put standby [(F.HKP_THERM_HOLD, 1), (F.HKP_PWR_STATE, 4)]
/-- The hold has ended, and PLL-T locks while PLL-C has locked. -/
def resumingState : State :=
  { standby with hkp := { standby.hkp with resuming := some 9, left := 2 }, clk := { standby.clk with locking := 1 } }

def resumable : State := put holding [(F.HKP_THERM_RESUME_OK, 1)]
def asleep : State := { standby with boot := { standby.boot with supply := .sleep } }

theorem meets_ThermalProtection :
    (standby.boot.supply = .run ∧ (readings false).length = 16 ∧ (∀ x ∈ readings false, x.1 < 65536) ∧
      (readings false)[10]? = some (0, true) ∧ ((readings false).set 7 (961, true))[7]? = some (961, true) ∧
      960 < signedOf 16 961 ∧ ¬ 960 < signedOf 16 960 ∧ ¬ 960 < signedOf 16 0xFFFF ∧
      warm.thermDown = false ∧ bitAt warm.hkp.above 2 = true ∧ (readings true)[7 + 2]? = some (1521, true) ∧
      (readings true).length = 16 ∧ (∀ x ∈ readings true, x.1 < 65536) ∧
      Int.ofNat (dieLimit 2) < signedOf 16 1521 ∧ ¬ Int.ofNat (dieLimit 2) < signedOf 16 1520) ∧
    asleep.boot.supply ≠ .run ∧
    (holding.boot.supply = .run ∧ holding.flag F.HKP_THERM_HOLD = true ∧ holding.flag F.HKP_THERM_RESUME_OK = false ∧
      resumable.boot.supply = .run ∧ resumable.flag F.HKP_THERM_HOLD = true ∧
      resumable.flag F.HKP_THERM_RESUME_OK = true ∧ resumable.clk.refLost = false ∧ resumable.clk.halted = false) ∧
    (∀ r, r < 16 → (warm.ring r).stream = some 18 → warm.ringUsed r = false) ∧
    (resumingState.boot.supply = .run ∧ resumingState.hkp.resuming.isSome = true ∧ resumingState.thermDown = false ∧
      resumingState.boot.halted = false ∧ 5 ≤ resumingState.reg F.CFG_BOOT_STAT_PHASE ∧ resumingState.clk.halted = false ∧
      bitAt resumingState.clk.locking 0 = true ∧ resumingState.gated 4 = false ∧
      resumingState.clk.ptMode ≠ .off) := by decide +kernel

/-- Every sensor of the stack at its limit, one above it, and none valid. -/
def stack (v : Nat) (good : Bool) : List (Nat × Bool) :=
  List.replicate 7 (1600, good) ++ [(v, good), (400, true), (400, good)] ++ List.replicate 6 (0, true)

/-- Dies 0, 1 and 2 each above its limit in the last round. -/
def warmAt (d : Nat) : State := { standby with hkp := { standby.hkp with above := 2 ^ d } }

theorem meets_ThermalProtection_dies :
    (∀ d ∈ [0, 1, 2], (warmAt d).boot.supply = .run ∧ (warmAt d).thermDown = false ∧
      bitAt (warmAt d).hkp.above d = true ∧ (∀ r, r < 16 → (warmAt d).ringUsed r = false)) ∧
    ((stack 1601 true)[7]? = some (1601, true) ∧ 1600 < signedOf 16 1601 ∧ ¬ 1600 < signedOf 16 1600 ∧
      (stack 1601 true).length = 16 ∧ (∀ x ∈ stack 1601 true, x.1 < 65536)) ∧
    ((∀ n, n < 8 → ((stack 0 false)[n]?).map (fun x => x.2) = some false) ∧ (stack 0 false).length = 16) ∧
    ((stack 0 false)[7 + 2]? = some (400, false) ∧ ((readings false).set 8 (1841, true))[7 + 1]? = some (1841, true) ∧
      1840 < signedOf 16 1841) := by decide +kernel

/-- The state in which the shutdown began, and PLL-H and PLL-B locked since. -/
def resumingFrom (left : Nat) : State :=
  put { standby with hkp := { standby.hkp with resuming := some 9, left := left }, clk := { standby.clk with locking := 1 } }
    [(F.CLK_PLL_STAT_LOCKED 1, 1), (F.CLK_PLL_STAT_LOCKED 2, 1), (F.CLK_PLL_STAT_GATED 1, 1), (F.CLK_PLL_STAT_GATED 2, 1)]

theorem meets_ThermalProtection_resume :
    ∀ left ∈ [1, 2, 3], (resumingFrom left).boot.supply = .run ∧ (resumingFrom left).hkp.resuming.isSome = true ∧
      (resumingFrom left).thermDown = false ∧ (resumingFrom left).boot.halted = false ∧
      5 ≤ (resumingFrom left).reg F.CFG_BOOT_STAT_PHASE ∧ (resumingFrom left).clk.halted = false ∧
      bitAt (resumingFrom left).clk.locking 0 = true ∧ (resumingFrom left).gated 4 = false ∧
      (resumingFrom left).clk.ptMode ≠ .off ∧ (resumingFrom left).live = [] ∧ (resumingFrom left).shadow = [] ∧
      (resumingFrom left).hkp.left = left ∧ (resumingFrom left).reg (F.CLK_PLL_STAT_LOCKED 1) = 1 ∧
      (resumingFrom left).reg (F.CLK_PLL_STAT_LOCKED 2) = 1 := by decide +kernel

/-- A brown-out record with its CRC, and a log that holds it, or one with a wrong CRC, as record 63. -/
def goodRec : List Byte := 1 :: List.replicate 59 0 ++ leBytes 4 0xCEC10787

def logging (b : List Byte) : State :=
  put { standby with hkp := { standby.hkp with log := [(63, b)] } } [(F.HKP_LOG_ACK_INDEX, 63)]

def recorded : State := logging goodRec
def unsoundLog : State := logging (setAt goodRec 4 9)

/-- The entry to SLEEP waits for the LFCLK edge that takes press time over. -/
def sleeping : State :=
  put { standby with hkp := { standby.hkp with sleeping := true }, clk := { standby.clk with ptMode := .lfEnter } }
    [(F.HKP_PWR_STATE, 5)]

theorem meets_LogSleepAndBrownOut :
    (recorded.takesWrites ∧ Assoc.find recorded.hkp.log (recorded.reg F.HKP_LOG_ACK_INDEX) = some goodRec ∧
      recKind (recorded.logRecord (recorded.reg F.HKP_LOG_ACK_INDEX)) ≠ 0 ∧
      recKind (unsoundLog.logRecord (unsoundLog.reg F.HKP_LOG_ACK_INDEX)) = 0 ∧
      Assoc.find standby.hkp.log (standby.reg F.HKP_LOG_ACK_INDEX) = none ∧ Assoc.rising recorded.hkp.log = true) ∧
    (standby.reg F.HKP_PWR_STATE = 2 ∧ standby.isRunning = false ∧ standby.flag F.CLK_MON_LF_OK = true ∧
      standby.clk.ptMode = .ticks ∧ standby.thermDown = false ∧ standby.hkp.resuming = none ∧
      standby.dma.drain = false ∧ standby.hkp.sleeping = false ∧
      (∀ r, r < 16 → (standby.ring r).stream = some 18 → standby.ringUsed r = false) ∧
      ¬ (((launching standby).reg F.HKP_PWR_STATE = 1 ∨ (launching standby).reg F.HKP_PWR_STATE = 2) ∧
        (launching standby).isRunning = false ∧ (launching standby).flag F.CLK_MON_LF_OK = true ∧ (launching standby).thermDown = false)) ∧
    (sleeping.boot.supply = .run ∧ sleeping.hkp.sleeping = true ∧ sleeping.clk.ptMode = .lfEnter ∧
      sleeping.clk.lfLost = false ∧ sleeping.bay.vaux = true) ∧
    (3167 < railWarning 3 ∧ standby.bay.railsOff = 0 ∧ standby.boot.supply = .run ∧ standby.bay.vaux = true ∧ railWarning 3 ≤ 3168) := by
  unfold State.takesWrites
  decide +kernel

/-- A module in SLEEP with its main rails down, and one enabled source of a wake. -/
def sleeper : State :=
  put { asleep with bay := { asleep.bay with railsGood := false, railsOff := 15 } } [(F.BAY_WAKE_CTL_EN_PIN, 1)]

def supplied (x : Supply) (vaux : Bool) : State :=
  { State.reset with boot := { Boot.reset with supply := x }, bay := { Bay.reset with vaux := vaux, railsGood := false, railsOff := 15 } }

def onCell (x : Supply) : State := put (supplied x false) [(F.BAY_STAT_RAIL_SRC, 1)]

/-- A scan with strobes in its register while cause 1 stands, and a module without its main rails. -/
def scanKill : State := { standby with jtag := ⟨.other, some 1, true, 5⟩, arr := { standby.arr with kills := 2 } }
def unpowered : State := { standby with bay := { standby.bay with railsGood := false, railsOff := 15 }, boot := { standby.boot with supply := .off } }

theorem meets_BayPowerPath :
    (standby.mainPower = true ∧ unpowered.mainPower = false ∧ standby.jtag.scan = false ∧ scanKill.mainPower = true ∧
      scanKill.jtag.scan = true ∧ bitAt scanKill.arr.kills 1 = true ∧ scanKill.arr.strobes.length = 6) ∧
    (sleeper.boot.supply = .sleep ∧ sleeper.bay.wake = none ∧ sleeper.bay.railsGood = false ∧
      sleeper.wakeEnabled 2 = true ∧ sleeper.wakeEnabled 4 = false) ∧
    ((supplied .reset false).bay.vaux = false ∧ (supplied .reset true).bay.vaux = true ∧
      (supplied .reset true).boot.supply = .reset ∧ standby.bay.vaux = true ∧ standby.boot.supply = .run ∧
      standby.bay.moved = false ∧ (supplied (.bay false) false).boot.supply = .bay false ∧
      (supplied (.bay false) false).bay.railsGood = false ∧
      (onCell (.bay true)).boot.supply ≠ .off ∧ (onCell (.bay true)).flag F.BAY_STAT_RAIL_SRC = true ∧
      standby.flag F.BAY_STAT_RAIL_SRC = false ∧ (supplied .off true).boot.supply = .off ∧
      (supplied .off false).bay.vaux = false) ∧
    (standby.isRunning = false ∧ ¬ (((3 : Nat) = 1 ∨ (3 : Nat) = 2) ∧ standby.isRunning = false) ∧
      (launching standby).isRunning = true) := by decide +kernel

/-- A running charger in state `x`, with the sums of one tick. -/
def charging (x mv ntc : Nat) : State :=
  put { standby with
      bay := { Bay.reset with runs := true, cellSum := (4 * mv, 4), ntcSum := (4 * ntc, 4), ticks := 1 } }
    [(F.BAY_CHG_STAT_STATE, x)]

/-- A charger in FAULT with code 2. -/
def faulted : State := put (charging 6 3700 1000) [(F.BAY_CHG_STAT_FAULT, 2)]

theorem meets_ChargerStates :
    standby.bay.runs = false ∧
    ((charging 1 5400 51).bay.runs = true ∧ (charging 1 5400 51).bay.cellSum = (21600, 4) ∧ (4 : Nat) ≠ 0 ∧
      21600 / 4 ≤ 5400 ∧ (charging 1 5400 51).bay.ntcSum = (204, 4) ∧ (charging 1 5400 51).reg F.BAY_CHG_STAT_STATE = 1 ∧
      50 < 204 / 4 ∧ (charging 1 5400 51).bay.ticks = 1 ∧ (charging 1 5400 625).bay.ntcSum = (2500, 4) ∧ 2500 / 4 = 625 ∧ (charging 5 3700 50).bay.runs = true ∧
      1 ≤ (charging 5 3700 50).reg F.BAY_CHG_STAT_STATE ∧ (charging 5 3700 50).reg F.BAY_CHG_STAT_STATE ≤ 5 ∧
      (charging 5 3700 50).bay.ntcSum = (200, 4) ∧ 200 / 4 ≤ 50) ∧
    (faulted.takesWrites ∧ faulted.reg F.BAY_CHG_STAT_STATE = 6 ∧
      (charging 3 3700 1000).takesWrites ∧
      (charging 3 3700 1000).reg F.BAY_CHG_STAT_STATE ≠ 6 ∧ (charging 3 3700 1000).bay.runs = true) := by
  unfold State.takesWrites
  decide +kernel

/-! ### Well-formedness: an ill-formed command is refused by each check -/

theorem test_wf_ports : (Instr.bar0Read 2 0 4).wf = false ∧ (Instr.registerWrite 2 0 4 0).wf = false ∧
    (Instr.wideRead 2 8).wf = false ∧ (Instr.trainingComplete 2 0 false 0).wf = false ∧
    (Instr.packetDropped 2).wf = false ∧ (Instr.bar0Read 1 0 4).wf = true := by decide

theorem test_wf_accesses : (Instr.bar0Read 0 0x3FFFFD 4).wf = false ∧ (Instr.registerWrite 0 0 9 0).wf = false ∧
    (Instr.registerWrite 0 0 0 0).wf = false ∧ (Instr.registerWrite 0 0 4 (2 ^ 32)).wf = false ∧
    (Instr.wideRead 0 0x40002).wf = false ∧ (Instr.wideWriteLow 0 0x40008 (2 ^ 32)).wf = false ∧
    (Instr.latchTmo 0 0x400000).wf = false ∧ (Instr.barReadTimeout 1 ⟨0, 4⟩).wf = false ∧
    (Instr.barReadTimeout 0 ⟨0x100, 2⟩).wf = false ∧ (Instr.barReadTimeout 2 ⟨0xFFF, 2⟩).wf = false ∧
    (Instr.barReadTimeout 2 ⟨0xFFE, 2⟩).wf = true ∧
    (Instr.bar2Write 0xFFFFFFF [0, 0]).wf = false ∧ 
    (Instr.registerWrite 0 0x3FFFFC 4 (2 ^ 32 - 1)).wf = true := by decide

theorem test_wf_numbers : (Instr.cntStart 8).wf = false ∧ (Instr.chainOutput 6).wf = false ∧
    (Instr.detectorDecision 64).wf = false ∧ (Instr.evtPulseEnd 4).wf = false ∧ (Instr.strbMaxon 6).wf = false ∧
    (Instr.recordWrite ⟨16, []⟩).wf = false ∧ (Instr.dmaPiWrite 15 (2 ^ 32)).wf = false ∧ (Instr.pllApply 5).wf = false ∧
    (Instr.pllLoss 0 0).wf = false ∧ (Instr.pllLoss 0 4).wf = false ∧ (Instr.slotProgram 4).wf = false ∧
    (Instr.calSetsWrite 256).wf = false ∧ (Instr.brownOut 4 0).wf = false ∧ (Instr.wake 0).wf = false ∧
    (Instr.wake 5).wf = false ∧ (Instr.boundaryScanInstruction 4).wf = false ∧ (Instr.resetNRelease 16).wf = false ∧
    (Instr.linkSpeed 3 8 ⟨0, 2048⟩).wf = false ∧ (Instr.linkSpeed 3 8 ⟨0, 6⟩).wf = false ∧
    (Instr.linkSpeed 3 8 ⟨1, 5⟩).wf = true ∧
    (Instr.twTimeout 3).wf = false ∧ (Instr.busStuck 10 false).wf = false ∧ (Instr.wake 4).wf = true := by decide

theorem test_wf_data : (Instr.lineSample 0 [(16512, [])] []).wf = false ∧
    (Instr.lineSample 0 [] [(50310, [])]).wf = false ∧
    (Instr.linkSpeed 7 8 ⟨0, 0⟩).wf = false ∧ (Instr.linkSpeed 3 3 ⟨0, 0⟩).wf = false ∧ (Instr.linkSpeed 3 8 ⟨2, 0⟩).wf = false ∧
    (Instr.hkRound [(0, true)]).wf = false ∧ (Instr.hkRound (List.replicate 16 (65536, true))).wf = false ∧
    (Instr.hostReadCompletion 0 8 []).wf = false ∧ (Instr.trainingComplete 0 0 false 4).wf = false ∧
    (Instr.ptr ⟨1, List.replicate 256 0⟩).wf = false ∧ (Instr.ptr ⟨9, []⟩).wf = false ∧ (Instr.ptr ⟨256, []⟩).wf = false ∧
    (Instr.ptr ⟨10, []⟩).wf = true ∧ (Instr.brd 256 ⟨0, 0⟩).wf = false ∧ (Instr.brd 1 ⟨0, 2 ^ 64⟩).wf = false ∧
    (Instr.rd4 ⟨5, 2⟩).wf = false ∧ (Instr.rd8 ⟨9, 4⟩).wf = false ∧ (Instr.rd8 ⟨9, 3⟩).wf = true ∧
    (Instr.ptmDialogDone true ⟨0, 0, 0⟩ (2 ^ 64)).wf = false ∧ (Instr.ptmDialogDone true ⟨0, 0, 2 ^ 32⟩ 0).wf = false ∧
     (Instr.hkRound (List.replicate 16 (65535, true))).wf = true := by
  decide +kernel

/-! ### Numbers that the spec gives -/

/-- 04_column_converters.md Table CNV-2: FS of the five presets. -/
theorem test_full_scale : [0, 1, 2, 3, 4].map (fun p => Cfg.fs (put State.reset [(F.CNV_PRESET_PRESET, p)]).regs) =
    [707264, 715520, 732160, 765952, 835584] := by decide +kernel

/-- Six groups at TDI 2, as on the reference bar. -/
def bar : State := put standby ((List.range 6).flatMap (fun g => [(F.ARR_GRP_EN g, 1), (F.ARR_GRP_TDI g, 1)]))

/-- 04_column_converters.md, worked example: F = 2,816, and the window of G1 is 1,664 to 2,816. -/
theorem test_frame : Cfg.frameLen bar.regs = 2816 ∧ Cfg.window bar.regs 1 = (1664, 2816) ∧ Cfg.window bar.regs 0 = (512, 1664) := by
  decide +kernel

/-- 06_calibration.md, worked example: θ of PC 7,064, the weight and PG_L. -/
theorem test_interpolation :
    (⟨[0, 0, 660, 684, 0, 0, 0, 0], [], none, false⟩ : WorkSet).theta 7064 = 682 ∧
    ((bracket 682 [⟨1, 640, []⟩, ⟨2, 768, []⟩]).map (fun x => x.2.2)) = some 336 ∧ interpolate 33056 33168 336 = 33093 := by
  decide +kernel

/-- The SCALE of the worked example. -/
def scaled : State := put bar [(F.CAL_SCALE_SCALE 4, 0x7000), (F.CAL_GRP_MODE 4, 1)]

/-- 06_calibration.md, worked example: eg, z0 and y of one column. -/
theorem test_calibration : Cfg.eg scaled.regs 4 = 177940170 ∧ Cfg.z0 scaled.regs 4 1200 (-400) = 92637 ∧
    Cfg.calValue scaled.regs 4 1228000 (1200, 32640, -400, 33093, 0) 41 = (47317, false, false) := by decide +kernel

/-- 05_line_filters_and_level_events.md, worked example: XFRAC and PT_CROSS of the cue mark, with T(M) = 10,000. -/
theorem test_crossing :
    crossing ⟨0, 2, 103, 7, 498080, 10987, some (102, 909920, 4637), false⟩ 704000 1 = (-128, 7812, false) := by
  decide +kernel

/-- Press time from LFCLK, with the fraction as given. -/
def edgeAt (acc : Nat) : State :=
  put { standby with
      clk := { standby.clk with ptMode := .lf },
      ptc := { standby.ptc with lfAcc := acc } } [(F.CLK_PLL_STAT_GATED 0, 1)]

/-- The press time that one edge leaves. -/
def ptAfter (i : Instr) (s : State) : Option PressTime :=
  match exec i s with
  | .next t => some t.pt
  | _ => none

/-- 02_press_time_and_event_counters.md R80: an edge adds 45,776 ticks, and one more where the fraction passes 128. -/
theorem test_lfclk : ptAfter .lfclkEdge (edgeAt 80) = some 45776 ∧ ptAfter .lfclkEdge (edgeAt 81) = some 45777 := by
  decide +kernel

/-- 04_column_converters.md, worked example: a converter passes a level within 45,760 codes, TOL = 64. -/
theorem test_self_test : passLevel 732160 64 (366080 + 45760) 8 = true ∧ passLevel 732160 64 (366080 + 45761) 8 = false := by
  decide +kernel

/-- The check values of the CRCs over the digits 1 to 9, and SHA-256 of "abc" (FIPS 180-4). -/
theorem test_hashes : crc32 ((List.range 9).map (fun i => BitVec.ofNat 8 (49 + i))) = 0xCBF43926 ∧
    crc8 ((List.range 9).map (fun i => BitVec.ofNat 8 (49 + i))) = 0xF4 ∧
    (sha256 [0x61, 0x62, 0x63]).take 4 = [0xBA, 0x78, 0x16, 0xBF] := by decide +kernel

/-- 15_bay_backup_domain.md R456: a 10 kΩ NTC at 25 °C halves 1,250 mV, and 400 is 25 °C in 1/16 °C. -/
theorem test_ntc : ntcCode 625 = 400 := by decide +kernel

/-- Tables ARR-9 and CLK-9, R424: a register map gives each field of an index 0 its own reset value. -/
theorem test_reset_values : ∀ f ∈ [F.CLK_PLL_LOSSES_V 0, F.CLK_PLL_STAT_BAND 0, F.CLK_PLL_STAT_GATED 0, F.ARR_GRP_EN 0],
    (fieldsAt f.off).contains f = true ∧ State.reset.readField 0 f = (if f.key = (F.CLK_PLL_STAT_GATED 0).key ∨
      f.key = (F.ARR_GRP_EN 0).key then 1 else 0) := by decide +kernel

/-! ### The state after reset meets the invariants of Safety.lean -/

theorem reset_memOk : State.reset.memOk := by unfold State.memOk; decide +kernel
theorem reset_fifoOk : State.reset.fifoOk := by unfold State.fifoOk; decide +kernel
theorem reset_shapeOk : State.reset.shapeOk := by unfold State.shapeOk State.partsOk; decide +kernel

/-- The step answers a next state. -/
def answers (s : State) : Bool :=
  match step s with
  | .next _ => true
  | _ => false

/-- A command in the queue of a module. -/
def commanded (i : Instr) : State := { standby with pending := [i] }

theorem meets_StepKeepsTheMemoryForm :
    (commanded (.bar2Write 0x2000000 [1, 0])).memOk ∧ answers (commanded (.bar2Write 0x2000000 [1, 0])) = true := by
  unfold State.memOk; decide +kernel

theorem meets_StepKeepsTheQueues :
    (commanded .cfgLock).fifoOk ∧ answers (commanded .cfgLock) = true ∧ answers (commanded (.rd4 ⟨5, 0⟩)) = true ∧
      answers standby = true := by
  unfold State.fifoOk; decide +kernel

theorem meets_StepKeepsTheShape : (commanded .logAck).shapeOk ∧ answers (commanded .logAck) = true := by
  unfold State.shapeOk State.partsOk; decide +kernel

end Sys2Proof.Tests
end

section
/-! PROOFS of `01_pixel_array_and_exposure.md`: program steps on photodiodes, storage nodes and strobes, flush frames,
the strobe watchdog and KILL_CLR. -/

namespace Sys2Proof.Machine

/-! ### Bits of a register field -/

theorem bitAt_eq_testBit (n i : Nat) : bitAt n i = n.testBit i := by
  rw [Nat.testBit_eq_decide_div_mod_eq]; rfl

theorem testBit_withBit_true (n i : Nat) : (withBit n i true).testBit i = true := by
  have split_bit : withBit n i true = if n.testBit i then n else 2 ^ i + n := by
    rcases Nat.mod_two_eq_zero_or_one (n / 2 ^ i) with h | h
    · simp [withBit, bitsAt, Nat.testBit_eq_decide_div_mod_eq, h, Nat.add_comm]
    · have hle : 2 ^ i ≤ n := Nat.le_of_not_lt fun hlt => by simp [Nat.div_eq_of_lt hlt] at h
      simp [withBit, bitsAt, Nat.testBit_eq_decide_div_mod_eq, h, Nat.sub_add_cancel hle]
  rw [split_bit]
  split
  · assumption
  · rename_i h; simpa [Nat.testBit_two_pow_add_eq] using h

/-- A bit set within the width of its field reads 1. -/
theorem State.bitAt_setBitOf (s : State) {f : Field} {i : Nat} (h : i < f.w) :
    bitAt ((s.setBitOf f i).reg f) i = true := by
  rw [State.setBitOf, State.reg_setReg_same, bitAt_eq_testBit, Nat.testBit_mod_two_pow, testBit_withBit_true]
  simpa using h

theorem Changes.setBitOf (s : State) (f : Field) (i : Nat) : Changes [.regs] [f] s (s.setBitOf f i) :=
  Changes.setReg s f _

/-! ### Parts replaced, and the forced flags of the strobes -/

theorem Changes.setThy (s : State) (x : Thy) : Changes [.thy] [] s { s with thy := x } :=
  ⟨fun p hp => by cases p with | thy => simp at hp | _ => rfl, RegsSame.of_regs rfl⟩

theorem Changes.setArr (s : State) (x : Arr) : Changes [.arr] [] s { s with arr := x } :=
  ⟨fun p hp => by cases p with | arr => simp at hp | _ => rfl, RegsSame.of_regs rfl⟩

theorem Changes.setCnv (s : State) (x : Cnv) : Changes [.cnv] [] s { s with cnv := x } :=
  ⟨fun p hp => by cases p with | cnv => simp at hp | _ => rfl, RegsSame.of_regs rfl⟩

theorem Changes.setArrCnv (s : State) (x : Arr) (y : Cnv) : Changes [.arr, .cnv] [] s { s with arr := x, cnv := y } :=
  (Changes.setArr s x).mono (by decide) (by simp) |>.trans
    ((Changes.setCnv { s with arr := x } y).mono (by decide) (by simp))

theorem Changes.setCal (s : State) (x : Cal) : Changes [.cal] [] s { s with cal := x } :=
  ⟨fun p hp => by cases p with | cal => simp at hp | _ => rfl, RegsSame.of_regs rfl⟩

@[simp] theorem State.setForced_strobe (s : State) (k : Nat) (b : Bool) (n : Nat) :
    (s.setForced k b).strobe n = s.strobe n := rfl

theorem Changes.setForced (s : State) (n : Nat) (b : Bool) : Changes [.arr] [] s (s.setForced n b) :=
  Changes.setArr s _

/-! ### One step on one unit (R27, R41, R87) -/

/-- What a step of kind `kind` at program tick `t` does to group or strobe `n`: one turn of the loop of
`State.programStep`. -/
def State.stepUnit (s : State) (c : Cfg) (t kind n : Nat) : State :=
  match kind with
  | 1 => if c.grpEn n then s.pixelEvent 1 t (c.rowsOf n) n else s
  | 2 => if c.grpEn n then s.pixelEvent 2 t (c.rowsOf n) n else s
  | 3 => if c.grpEn n then s.pixelEvent 3 t (c.rowsOf n) n else s
  | 4 => s.strobeRise c n
  | 5 => s.strobeFall n
  | _ => s

theorem State.programStep_eq (s : State) (c : Cfg) (t kind mask : Nat) :
    s.programStep c (t, kind, mask) =
      (List.range 6).foldl (fun u n => if bitAt mask n then u.stepUnit c t kind n else u) s := rfl

/-- A property that the updates of group `n` and of strobe `n` keep is kept by a step on unit `n`. -/
theorem State.stepUnit_keeps {P : State → Prop} {s : State} (c : Cfg) (t kind : Nat) {n : Nat}
    (pix : ∀ u x, P u → P (u.setPix n x)) (strobe : ∀ u x, P u → P (u.setStrobe n x))
    (forced : ∀ u b, P u → P (u.setForced n b)) (h : P s) : P (s.stepUnit c t kind n) := by
  have event : ∀ kind rows, P (s.pixelEvent kind t rows n) := by
    intro kind rows
    unfold State.pixelEvent
    split
    · exact pix _ _ h
    · dsimp only
      split
      · exact pix _ _ h
      · exact h
    · exact pix _ _ h
  have rise : P (s.strobeRise c n) := by
    unfold State.strobeRise
    split
    · exact h
    · split
      · exact forced _ _ (strobe _ _ h)
      · exact forced _ _ h
  unfold State.stepUnit
  split
  iterate 3
    · split
      · exact event _ _
      · exact h
  · exact rise
  · exact strobe _ _ h
  · exact h

/-- A step word changes the array alone. -/
theorem Changes.programStep (s : State) (c : Cfg) (t kind mask : Nat) :
    Changes [.arr] [] s (s.programStep c (t, kind, mask)) := by
  rw [State.programStep_eq]
  refine List.foldlRecOn _ _ (Changes.refl _ _ s) (fun u hu n _ => ?_)
  split
  · exact State.stepUnit_keeps c t kind (fun v x h => h.trans (Changes.setPix v n x))
      (fun v x h => h.trans (Changes.setStrobe v n x)) (fun v b h => h.trans (Changes.setForced v n b)) hu
  · exact hu

/-- The two states agree on all that a step on unit `n` reads: the group, the strobe, the kills and the time. -/
structure State.SameUnit (n : Nat) (s u : State) : Prop where
  pix : u.pix n = s.pix n
  strobe : u.strobe n = s.strobe n
  groups : u.arr.groups.length = s.arr.groups.length
  strobes : u.arr.strobes.length = s.arr.strobes.length
  kills : u.arr.kills = s.arr.kills
  killAt : u.arr.killAt = s.arr.killAt
  pt : u.pt = s.pt

theorem State.SameUnit.stepUnit_ne {s u : State} {n k : Nat} (h : s.SameUnit n u) (ne : n ≠ k) (c : Cfg)
    (t kind : Nat) : s.SameUnit n (u.stepUnit c t kind k) :=
  State.stepUnit_keeps c t kind
    (fun v x a => ⟨(State.pix_setPix_ne ne).trans a.pix, a.strobe, (v.setPix_length k x).trans a.groups, a.strobes,
      a.kills, a.killAt, a.pt⟩)
    (fun v x a => ⟨a.pix, (State.strobe_setStrobe_ne ne).trans a.strobe, a.groups,
      (v.setStrobe_length k x).trans a.strobes, a.kills, a.killAt, a.pt⟩)
    (fun _ _ a => ⟨a.pix, a.strobe, a.groups, a.strobes, a.kills, a.killAt, a.pt⟩) h

/-- The turns of the loop on other units leave what unit `n` reads. -/
theorem State.SameUnit.foldl {n : Nat} {l : List Nat} (hn : n ∉ l) (s : State) (c : Cfg) (t kind mask : Nat) :
    s.SameUnit n (l.foldl (fun u k => if bitAt mask k then u.stepUnit c t kind k else u) s) := by
  refine List.foldlRecOn _ _ ⟨rfl, rfl, rfl, rfl, rfl, rfl, rfl⟩ (fun u hu k hk => ?_)
  split
  · exact hu.stepUnit_ne (fun e => hn (e ▸ hk)) c t kind
  · exact hu

/-- On a unit of its mask, a step word shows what the step does to this unit alone: the units before it leave what it
reads, and the units after it leave what it did. -/
theorem State.programStep_unit (s : State) (c : Cfg) (t kind : Nat) {mask n : Nat} (hn : n < 6)
    (hm : bitAt mask n = true) :
    ∃ u, s.SameUnit n u ∧ (u.stepUnit c t kind n).SameUnit n (s.programStep c (t, kind, mask)) := by
  obtain ⟨pre, post, hl⟩ := List.append_of_mem (List.mem_range.2 hn)
  have nodup := List.nodup_range (n := 6)
  rw [hl, List.nodup_append] at nodup
  obtain ⟨-, hpost, hpre⟩ := nodup
  refine ⟨_, SameUnit.foldl (fun h => hpre n h n (by simp) rfl) s c t kind mask, ?_⟩
  rw [programStep_eq, hl, List.foldl_append, List.foldl_cons, if_pos hm]
  exact SameUnit.foldl (List.nodup_cons.1 hpost).1 _ c t kind mask

section

variable {s : State} {c : Cfg} {mask n : Nat} (t : Nat) (hn : n < 6) (hm : bitAt mask n = true)
include hn hm

/-- OPEN releases the photodiodes of an enabled group in the rows that are converted (R27, R44). -/
theorem State.pix_programStep_open (hg : s.arr.groups.length = 6) (en : c.grpEn n = true) :
    (s.programStep c (t, 1, mask)).pix n = { s.pix n with openAt := some t, rows := c.rowsOf n } := by
  obtain ⟨u, before, after⟩ := s.programStep_unit c t 1 hn hm
  rw [after.pix, ← before.pix]
  simp only [stepUnit, en, if_true, pixelEvent]
  exact State.pix_setPix_same (by rw [before.groups, hg]; exact hn)

/-- TX moves the window since OPEN into the storage node (R27). -/
theorem State.pix_programStep_tx (hg : s.arr.groups.length = 6) (en : c.grpEn n = true) {o : Nat}
    (ho : (s.pix n).openAt = some o) :
    (s.programStep c (t, 2, mask)).pix n = ⟨none, 0, (s.pix n).windows ++ [(o, t, (s.pix n).rows)]⟩ := by
  obtain ⟨u, before, after⟩ := s.programStep_unit c t 2 hn hm
  rw [← before.pix] at ho ⊢
  rw [after.pix]
  simp only [stepUnit, en, if_true, pixelEvent, ho]
  exact State.pix_setPix_same (by rw [before.groups, hg]; exact hn)

/-- SNR clears the storage node (R27). -/
theorem State.pix_programStep_snr (hg : s.arr.groups.length = 6) (en : c.grpEn n = true) :
    (s.programStep c (t, 3, mask)).pix n = { s.pix n with windows := [] } := by
  obtain ⟨u, before, after⟩ := s.programStep_unit c t 3 hn hm
  rw [after.pix, ← before.pix]
  simp only [stepUnit, en, if_true, pixelEvent]
  exact State.pix_setPix_same (by rw [before.groups, hg]; exact hn)

/-- A rising edge has no effect under a kill, or in the tick of one (R42). -/
theorem State.strobe_programStep_killed (hk : s.arr.kills ≠ 0 ∨ s.arr.killAt = some s.pt) :
    (s.programStep c (t, 4, mask)).strobe n = s.strobe n := by
  obtain ⟨u, before, after⟩ := s.programStep_unit c t 4 hn hm
  rw [← before.kills, ← before.killAt, ← before.pt] at hk
  rw [after.strobe, ← before.strobe]
  simp [stepUnit, strobeRise, hk]

/-- A rising edge drives an enabled strobe with a watchdog high (R39, R41). -/
theorem State.strobe_programStep_rise (hs : s.arr.strobes.length = 6) (hk : s.arr.kills = 0)
    (ha : s.arr.killAt ≠ some s.pt) (en : bitAt (c.get F.ARR_STRB_EN_EN) n = true)
    (wd : c.get (F.ARR_STRB_MAXON_MAXON n) ≠ 0) :
    (s.programStep c (t, 4, mask)).strobe n = .high s.pt := by
  obtain ⟨u, before, after⟩ := s.programStep_unit c t 4 hn hm
  rw [← before.kills] at hk
  rw [← before.killAt, ← before.pt] at ha
  rw [after.strobe, ← before.pt]
  have rises : u.strobeRise c n = (u.setStrobe n (.high u.pt)).setForced n false := by
    simp [strobeRise, hk, ha, en, wd]
  simp only [stepUnit, rises, setForced_strobe]
  exact State.strobe_setStrobe_same (by rw [before.strobes, hs]; exact hn)

/-- A falling edge drives a strobe low (R39). -/
theorem State.strobe_programStep_fall (hs : s.arr.strobes.length = 6) :
    (s.programStep c (t, 5, mask)).strobe n = (s.strobe n).lowered := by
  obtain ⟨u, before, after⟩ := s.programStep_unit c t 5 hn hm
  rw [after.strobe, ← before.strobe]
  exact State.strobe_setStrobe_same (by rw [before.strobes, hs]; exact hn)

end

/-! ### The running program (R87, R108) -/

/-- With no class L value waiting, nothing comes into force when Thyme stops. -/
theorem State.thymeLive_of_live_nil {s : State} (h : s.live = []) : s.thymeLive = s := by
  simp [State.thymeLive, h]

theorem exec_programStep (s : State) :
    exec .programStep s = .next (if s.tclkRuns then s.runSteps.thymeLive else s) := rfl

/-- A step alone with its tick runs alone, and the rest of its line stays in front while there is any. -/
theorem State.runSteps_single {s : State} {r : RunLine} {rs : List RunLine} {tick kind mask : Nat}
    {rest : List (Nat × Nat × Nat)} (hr : s.thy.running = r :: rs) (hst : r.steps = (tick, kind, mask) :: rest)
    (alone : ∀ x ∈ rest.head?, x.1 ≠ tick) :
    s.runSteps =
      let u := s.programStep (s.lineCfg r.ln) (tick, kind, mask)
      { u with thy := { u.thy with running := if rest = [] then rs else { r with steps := rest } :: rs } } := by
  have now : stepsAt tick r.steps = [(tick, kind, mask)] := by
    cases rest with
    | nil => simp [stepsAt, hst]
    | cons x xs => simp [stepsAt, hst, alone x (by simp)]
  simp [State.runSteps, hr, hst, hst ▸ now]

/-- Settles O20: a step of the running line acts through `State.programStep` alone, whose loop acts on each unit of the
mask apart from the others. -/
theorem programStepsDrive : Obligations.ProgramStepsDrive := by
  refine ⟨fun s stopped => by simp [exec_programStep, stopped],
    fun s r rs tick kind mask rest runs hr hst alone hl => ?_⟩
  have acts := Changes.programStep s (s.lineCfg r.ln) tick kind mask
  have single := State.runSteps_single hr hst alone
  have hlive : s.runSteps.live = [] := by rw [single]; exact (acts.1 .live (by decide)).trans hl
  refine ⟨s.runSteps, by rw [exec_programStep, if_pos runs, State.thymeLive_of_live_nil hlive], ?_⟩
  rw [single]
  refine ⟨rfl, (acts.mono (by decide) (by simp)).trans ((Changes.setThy _ _).mono (by decide) (by simp)),
    fun hg hs n hn hm => ⟨?_, ?_, ?_, ?_, ?_, ?_⟩⟩
  · rintro rfl en; exact State.pix_programStep_open tick hn hm hg en
  · rintro rfl en o ho; exact State.pix_programStep_tx tick hn hm hg en ho
  · rintro rfl en; exact State.pix_programStep_snr tick hn hm hg en
  · rintro rfl hk; exact State.strobe_programStep_killed tick hn hm hk
  · rintro rfl hk ha en wd; exact State.strobe_programStep_rise tick hn hm hs hk ha en wd
  · rintro rfl; exact State.strobe_programStep_fall tick hn hm hs

/-! ### The conversion frame of a flush (R28, R112) -/

/-- What the substitutions of a frame may change: the converters and what their events do. -/
theorem Changes.spareSwaps (s : State) (ln : LineNo) (new : List (Nat × Nat × Nat)) :
    Changes (.cnv :: logParts) attnFields s (s.spareSwaps ln new) := by
  have logs : ∀ (dir : Nat) (l : List (Nat × Nat × Nat)) (u : State), Changes (.cnv :: logParts) attnFields s u →
      Changes (.cnv :: logParts) attnFields s
        (l.foldl (fun v x => v.log 0x0304 [(2, x.1), (1, x.2.1), (1, x.2.2), (1, dir), (6, ln.toNat)]) u) :=
    fun dir l u hu => List.foldlRecOn l _ hu
      (fun v hv x _ => hv.trans ((Changes.log v _ _).mono (by decide) (by simp)))
  have logged := logs 1 (new.filter (fun x => !s.cnv.spares.contains x)) _
    (logs 0 (s.cnv.spares.filter (fun x => !new.contains x)) _ (Changes.refl _ _ s))
  refine logged.trans ?_
  exact (Changes.setCnv _ _).mono (by decide) (by simp)

theorem Changes.beginVisit (s : State) (c : Cfg) (v : Option (Nat × Nat)) :
    Changes [.cal] [] s (s.beginVisit c v) := by
  cases v with
  | none => exact Changes.refl _ _ s
  | some x => exact Changes.setCal s _

/-- What the start of a conversion frame may change. -/
theorem Changes.frameStart (s : State) (flush : Bool) :
    Changes ([.arr, .cnv, .cal] ++ logParts) attnFields s (s.frameStart flush) := by
  unfold State.frameStart
  split
  · exact Changes.refl _ _ s
  · split
    · exact (Changes.setArr s _).mono (by decide) (by simp)
    · rename_i i _
      refine Changes.trans ((Changes.spareSwaps s i.ln i.spares).mono (by decide) (by simp)) ?_
      let u := s.spareSwaps i.ln i.spares
      refine Changes.trans ((Changes.beginVisit u i.cfg (u.visitFor i flush)).mono (by decide) (by simp)) ?_
      exact (Changes.setArrCnv _ _ _).mono (by decide) (by simp)

/-- No line waits for conversion once its frame has started. -/
theorem State.frameStart_unconverted (s : State) (flush : Bool) : (s.frameStart flush).arr.unconverted = none := by
  unfold State.frameStart
  split
  · assumption
  · split <;> rfl

/-- The arming of actions in the flush hold touches Thyme alone. -/
theorem Changes.flushArmed (s : State) (lo hi : PressTime) : Changes [.thy] [] s (s.flushArmed lo hi) :=
  Changes.setThy s _

/-- What a flush frame may change. -/
theorem Changes.flushFrame (s : State) :
    Changes ([.thy, .arr, .cnv, .cal] ++ logParts) attnFields s s.flushFrame := by
  unfold State.flushFrame
  split
  · exact Changes.refl _ _ s
  · rename_i l _
    refine Changes.trans ((Changes.frameStart s true).mono (by decide) (by simp)) ?_
    refine Changes.trans ?_ ((Changes.flushArmed _ _ _).mono (by decide) (by simp))
    refine Changes.trans ((Changes.log _ 0x0204 [(6, l.ln.toNat)]).mono (by decide) (by simp)) ?_
    exact (Changes.setArr _ _).mono (by decide) (by simp)

/-- The array after a flush frame: its last line has gone into the frame, and the hold is the frame length and 33
ticks (R112). -/
theorem State.flushFrame_arr {s : State} {l : Launched} (h : s.arr.unconverted = some l) :
    s.flushFrame.arr = { (s.frameStart true).arr with
      hold := some (s.pt, s.pt + BitVec.ofNat 64 ((s.lineCfg l.ln).frameLen + 33)) } := by
  simp [State.flushFrame, State.flushArmed, h]

/-! ### The strobe watchdog (R41) -/

/-- The watchdog of a strobe that is high, outside a scan: the strobe is forced low, MAXON_HIT notes it, and the event
is logged. -/
theorem State.watchdog_high {s : State} {n : Nat} {since : PressTime} (scan : s.jtag.scan = false)
    (high : s.strobe n = .high since) :
    s.watchdog n = (((s.setStrobe n .low).setForced n true).setBitOf F.ARR_STRB_STAT_MAXON_HIT n).log 0x0201
      [(1, n), (6, s.runningLn.toNat)] := by
  simp only [State.watchdog, scan, high]
  rfl

section

variable {s : State} {n : Nat} {since : PressTime} (scan : s.jtag.scan = false) (high : s.strobe n = .high since)
include scan high

/-- The watchdog forces its strobe low. -/
theorem State.watchdog_strobe (hs : n < s.arr.strobes.length) : (s.watchdog n).strobe n = .low := by
  have pins : (s.watchdog n).arr.strobes = (s.setStrobe n .low).arr.strobes := by
    simp [State.watchdog_high scan high, State.setForced]
  rw [State.strobe, pins]
  exact State.strobe_setStrobe_same hs

theorem State.watchdog_strobeForced (hf : n < s.arr.strobeForced.length) :
    (s.watchdog n).arr.strobeForced[n]? = some true := by
  simp [State.watchdog_high scan high, State.setForced, State.setStrobe, hf]

theorem State.watchdog_hit (h6 : n < 6) : bitAt ((s.watchdog n).reg F.ARR_STRB_STAT_MAXON_HIT) n = true := by
  rw [State.watchdog_high scan high, RegsSame.log _ _ _ _ (by decide)]
  exact State.bitAt_setBitOf _ h6

theorem State.watchdog_logged : Logged s (s.watchdog n) 0x0201 [(1, n), (6, s.runningLn.toNat)] := by
  have same : ∀ f : Field, f.key ≠ F.ARR_STRB_STAT_MAXON_HIT.key →
      (((s.setStrobe n .low).setForced n true).setBitOf F.ARR_STRB_STAT_MAXON_HIT n).reg f = s.reg f :=
    fun _ ne => State.reg_setReg_ne _ _ ne
  rw [State.watchdog_high scan high]
  exact (Logged.log _ _ _).of_same rfl rfl rfl (same _ (by decide))
    (congrArg (BitVec.ofNat 32) (same _ (by decide))) rfl

theorem Changes.watchdog :
    Changes (.arr :: logParts) (F.ARR_STRB_STAT_MAXON_HIT :: attnFields) s (s.watchdog n) := by
  rw [State.watchdog_high scan high]
  refine Changes.trans ((Changes.setStrobe s n .low).mono (by decide) (by simp)) ?_
  refine Changes.trans ((Changes.setForced _ n true).mono (by decide) (by simp)) ?_
  refine Changes.trans ((Changes.setBitOf _ F.ARR_STRB_STAT_MAXON_HIT n).mono (by decide) (by simp)) ?_
  exact (Changes.log _ _ _).mono (by decide) (fun _ => List.mem_cons_of_mem _)

end

/-! ### KILL_CLR (R42) -/

/-- A host's KILL_CLR clears the cause where no condition is present, and does nothing else. -/
theorem exec_killClr {s : State} (run : s.takesWrites) :
    exec .killClr s = .next (if s.arr.kills = 0 then s.setReg F.ARR_STRB_STAT_KILL_CAUSE 0 else s) := by
  change Host.Outcome.next (s.hostAction 0x30340 State.clearKillCause) = _
  rw [State.hostAction_run run, State.clearKillCause]

/-- Settles O21: the flush frame by the array it leaves (`State.flushFrame_arr`), the watchdog by `State.watchdog_high`,
and KILL_CLR by its two branches. -/
theorem flushAndStrobeEnds : Obligations.FlushAndStrobeEnds := by
  refine ⟨fun s l waits => ⟨s.flushFrame, rfl, ?_, ?_, (Changes.flushFrame s).1 .pt (by decide)⟩, fun s b pulse => ?_,
    fun s n since hs hf h6 scan high => ⟨s.watchdog n, rfl, State.watchdog_strobe scan high hs,
      State.watchdog_strobeForced scan high hf, State.watchdog_hit scan high h6, State.watchdog_logged scan high,
      Changes.watchdog scan high⟩,
    fun s run => ⟨fun absent => ?_, fun present => ?_⟩⟩
  · rw [State.flushFrame_arr waits]; exact s.frameStart_unconverted true
  · rw [State.flushFrame_arr waits]
  · change execTrigOutPulseEnd s = _
    rw [execTrigOutPulseEnd, pulse]
  · rw [exec_killClr run, if_pos absent]
  · rw [exec_killClr run, if_neg present]

end Sys2Proof.Machine
end

section
/-! PROOFS of `04_column_converters.md`: line samples, and the converters' self-test. -/

namespace Sys2Proof.Machine

/-! ### What the converters' operations leave alone -/

theorem Changes.setShadow (s : State) (f : Field) (v : Nat) : Changes [.shadow] [] s (s.setShadow f v) := by
  rw [State.setShadow_eq]
  exact ⟨fun p hp => by cases p with | shadow => simp at hp | _ => rfl, RegsSame.of_regs rfl⟩

/-- What the proposal of a spare pair may change (R209, R210). -/
theorem Changes.proposePair (s : State) (n i : Nat) : Changes [.shadow] [] s (s.proposePair n i).1 := by
  unfold State.proposePair
  split
  · exact Changes.refl _ _ s
  · exact (Changes.setShadow s _ _).trans (Changes.setShadow _ _ _)

/-- The turns of the loop over the pairs change the shadow alone. -/
theorem Changes.proposePairs (l : List Nat) (s : State) (n : Nat) :
    Changes [.shadow] [] s (l.foldl (fun a i => State.proposePair a.1 a.2 i) (s, n)).1 :=
  List.foldlRecOn (motive := fun (x : State × Nat) => Changes [.shadow] [] s x.1) l _ (Changes.refl _ _ s)
    (fun x hx i _ => hx.trans (Changes.proposePair x.1 x.2 i))

/-- What the proposal of a spare map may change (R209). -/
theorem Changes.propose (s : State) :
    Changes ([.shadow, .cal] ++ logParts) (F.CAL_STAT_PROPOSED :: attnFields) s s.propose := by
  unfold State.propose
  split
  · split
    · exact (Changes.setCal s _).mono (by decide) (by simp)
    · have pairs := Changes.proposePairs (List.range 774) s 0
      split
      rename_i u n made
      rw [made] at pairs
      refine Changes.trans (pairs.mono (by decide) (by simp)) ?_
      refine Changes.trans ((Changes.setCal u { u.cal with repairDue := false }).mono (by decide) (by simp)) ?_
      refine Changes.trans ((Changes.setFlag _ F.CAL_STAT_PROPOSED true).mono (by decide) (by simp)) ?_
      exact (Changes.log _ _ _).mono (by decide) (fun _ => List.mem_cons_of_mem _)
  · exact Changes.refl _ _ s

@[simp] theorem State.propose_cnv (s : State) : s.propose.cnv = s.cnv := (Changes.propose s).1 .cnv (by decide)

@[simp] theorem State.propose_arr (s : State) : s.propose.arr = s.arr := (Changes.propose s).1 .arr (by decide)

@[simp] theorem State.logSpareFail_cnv (s : State) (i : Nat) : (s.logSpareFail i).cnv = s.cnv := State.log_cnv s _ _

@[simp] theorem State.logSpareFail_arr (s : State) (i : Nat) : (s.logSpareFail i).arr = s.arr := State.log_arr s _ _

theorem Changes.logSpareFail (s : State) (i : Nat) : Changes logParts attnFields s (s.logSpareFail i) :=
  Changes.log s _ _

/-- A loop changes what its turns change. -/
theorem Changes.foldl {α : Type} {p : List Part} {l : List Field} {turn : State → α → State}
    (h : ∀ u x, Changes p l u (turn u x)) (xs : List α) (s : State) : Changes p l s (xs.foldl turn s) :=
  List.foldlRecOn xs _ (Changes.refl p l s) (fun u hu x _ => hu.trans (h u x))

/-! ### Line samples (R135 to R139) -/

/-- From `s` to `t` no line sample has been queued or taken, and the array stays. -/
structure State.KeepsSamples (s t : State) : Prop where
  out : t.cnv.out = s.cnv.out
  arr : t.arr = s.arr

theorem State.KeepsSamples.refl (s : State) : s.KeepsSamples s := ⟨rfl, rfl⟩

theorem State.KeepsSamples.trans {s t u : State} (h : s.KeepsSamples t) (k : t.KeepsSamples u) : s.KeepsSamples u :=
  ⟨k.out.trans h.out, k.arr.trans h.arr⟩

theorem State.KeepsSamples.bgTake (s : State) (c : Cfg) (level i code : Nat) :
    s.KeepsSamples (s.bgTake c level i code) := by
  unfold State.bgTake
  split
  split
  split
  · dsimp only
    split
    · exact ⟨rfl, rfl⟩
    · split
      · exact ⟨rfl, rfl⟩
      · exact ⟨by simp, by simp⟩
  · exact ⟨rfl, rfl⟩

theorem State.KeepsSamples.bgSamples (s : State) (c : Cfg) (f : Frame) (spares : List (Nat × Nat × Nat)) (b : Nat)
    (bg : List (Nat × List Bool)) : s.KeepsSamples (s.bgSamples c f spares b bg) := by
  unfold State.bgSamples
  split
  · refine List.foldlRecOn bg _ (refl s) (fun u hu x _ => ?_)
    dsimp only
    split
    · exact hu.trans (bgTake u _ _ _ _)
    · exact hu
  · exact refl s

theorem State.KeepsSamples.closeSat (s : State) (sn : SegNo) : s.KeepsSamples (s.closeSat sn) := by
  unfold State.closeSat
  split
  · exact refl s
  · exact ⟨by simp, by simp⟩

theorem State.KeepsSamples.cnvHandles (s : State) (sn : SegNo) : s.KeepsSamples (s.cnvHandles sn) := by
  unfold State.cnvHandles
  cases s.cnv.seg with
  | none => exact ⟨rfl, rfl⟩
  | some old =>
    dsimp only
    split
    · exact ⟨rfl, rfl⟩
    · exact ⟨(closeSat s old).out, (closeSat s old).arr⟩

theorem State.KeepsSamples.cnvDrained (s : State) : s.KeepsSamples s.cnvDrained := by
  unfold State.cnvDrained
  split
  · exact refl s
  · split
    · exact ⟨(closeSat s _).out, (closeSat s _).arr⟩
    · exact refl s

theorem State.KeepsSamples.tdiBreak (s : State) (ln : LineNo) (missing : Nat) :
    s.KeepsSamples (s.tdiBreak ln missing) := by
  unfold State.tdiBreak
  split
  · exact refl s
  · exact ⟨by simp, by simp⟩

theorem State.KeepsSamples.countSat (s : State) (ln : LineNo) : s.KeepsSamples (s.countSat ln) := by
  unfold State.countSat
  split
  · exact refl s
  · exact ⟨rfl, rfl⟩

/-- The stage that the line of `i` makes of group `g` in frame `f` (R136, R137, R206). -/
def State.newStage (s : State) (f : Frame) (i : LineInfo) (g : Nat) (bits : List (Nat × List (List Bool))) :
    StageLine :=
  { ln := i.ln, pt := i.t + BitVec.ofNat 64 (i.cfg.centroid i.prog g + 12), key := i.cfg.stageKey g,
    cols := heldCols f g (i.ownStages (s.cnv.stages[g]?.getD []))
      (bits.map (fun x => i.cfg.columnBlocks i.spares g x.1 x.2)),
    held := match f.visit with
      | some (cg, b) => if b = bankOf g then some cg else none
      | none => none }

/-- What the line sample holds: of the newest stage `now` and the stages before it, each column sums the valid ones
(R138, R139), and the press time is the mean of theirs (R136). -/
structure GroupLine.Sums (o : GroupLine) (tdi : Nat) (now : StageLine) (older : List StageLine) : Prop where
  pt : o.pt = meanPt now.pt (((now :: older).filter (fun l =>
    l.key == now.key && decide ((now.ln - l.ln).toNat < tdi))).map (fun l => l.pt))
  cols : o.cols = now.cols.map (fun x => ⟨x.pc, stageSum tdi (validStages tdi now older x),
    (validStages tdi now older x).any (fun y => y.2), false⟩)

/-- A line sample put at the end of its group's queue stands there. -/
theorem modAt_append {α : Type} {l : List (List α)} {g : Nat} (h : g < l.length) (o : α) :
    (modAt l g (fun q => q ++ [o]))[g]? = some (l[g]?.getD [] ++ [o]) := by
  simp [modAt, h]

/-- A frame that waited for one group alone is over once this group is done. -/
theorem State.frameDone_single {s : State} {f : Frame} {g : Nat} (h : s.arr.frames = [f]) (only : f.waiting = [g]) :
    (s.frameDone f g).arr.frames = [] := by
  simp [State.frameDone, h, only]

/-- The line sample of group `g` enters its queue, and the group leaves the frame. -/
theorem State.sampleLine_appends (s : State) (f : Frame) (i : LineInfo) {g : Nat} (bits : List (Nat × List (List Bool)))
    (bg : List (Nat × List Bool)) (hg : g < s.cnv.out.length) :
    (s.sampleLine f i g bits bg).arr = (s.frameDone f g).arr ∧
    ∃ o, (s.sampleLine f i g bits bg).cnv.out[g]? = some (s.cnv.out[g]?.getD [] ++ [o]) ∧
      o.ln = i.ln ∧ o.sn = i.sn ∧ o.captured = true ∧
      o.Sums (i.cfg.tdi g) (s.newStage f i g bits) (i.ownStages (s.cnv.stages[g]?.getD [])) := by
  unfold State.sampleLine
  extract_lets c kept older cols held pt now tdi sums used restart settling out missing before counted tested
  have gap : s.KeepsSamples before := (KeepsSamples.cnvHandles s i.sn).trans (KeepsSamples.tdiBreak _ _ _)
  have count : before.KeepsSamples counted := by
    unfold counted
    split
    · exact KeepsSamples.countSat before i.ln
    · exact KeepsSamples.refl before
  have keeps : s.KeepsSamples tested := (gap.trans count).trans (KeepsSamples.bgSamples _ _ _ _ _ _)
  have drained := KeepsSamples.cnvDrained
  refine ⟨(drained _).arr.trans ?_, out, (congrArg (·[g]?) (drained _).out).trans ?_, rfl, rfl, rfl, rfl, ?_⟩
  · simp only [frameDone, keeps.arr]
  · rw [← keeps.out]
    exact modAt_append (keeps.out ▸ hg) out
  · exact List.map_map

theorem meanPt_single (base : PressTime) : meanPt base [base] = base := by
  simp [meanPt, sumInt, signedDiff]

/-- The first line of a group with one stage sums its own blocks at its own press time. -/
theorem GroupLine.Sums.first {o : GroupLine} {now : StageLine} {x : ColBlocks} (h : o.Sums 1 now [])
    (one : now.cols = [x]) :
    o.pt = now.pt ∧ o.cols = [⟨x.pc, x.blocks[0]?.getD 0, x.sats[0]?.getD false, false⟩] := by
  have stages : validStages 1 now [] x = [(x.blocks[0]?.getD 0, x.sats[0]?.getD false)] := by
    simp [validStages, StageLine.col, one]
  refine ⟨?_, ?_⟩
  · have own : [now].filter (fun l => l.key == now.key && decide ((now.ln - l.ln).toNat < 1)) = [now] :=
      List.filter_eq_self.2 (List.forall_mem_singleton.2 (by simp))
    rw [h.pt, own]
    exact meanPt_single now.pt
  · rw [h.cols, one]; simp [stages, stageSum]

theorem LineInfo.ownStages_nil (i : LineInfo) : i.ownStages [] = [] := by
  unfold LineInfo.ownStages
  split
  · simp
  · rfl

/-- The stage of one column outside a visit holds the sums of its own conversions (R137). -/
theorem State.newStage_cols_single {s : State} {f : Frame} (i : LineInfo) (g pc : Nat) (rows : List (List Bool))
    (unvisited : f.visit = none) :
    (s.newStage f i g [(pc, rows)]).cols = [i.cfg.columnBlocks i.spares g pc rows] := by
  simp [State.newStage, heldCols, unvisited]

/-- LINE_SAMPLE takes the oldest frame that waits for the group (R135). -/
theorem exec_lineSample {s : State} {g : Nat} {f : Frame} {i : LineInfo} (bits : List (Nat × List (List Bool)))
    (bg : List (Nat × List Bool)) (oldest : s.arr.frames.find? (fun x => x.waiting.contains g) = some f)
    (line : s.lineInfo f.ln = some i) :
    exec (.lineSample g bits bg) s = .next (s.sampleLine f i g bits bg) := by
  change Host.Outcome.next (s.lineSample g bits bg) = _
  simp only [State.lineSample, oldest, line]

/-- Settles O23: the line sample that enters the queue is `State.sampleLine_appends`; with one stage it sums the newest
line alone (`GroupLine.Sums.first`). -/
theorem lineSamplesAreTaken : Obligations.LineSamplesAreTaken := by
  intro s g bits bg f i hg six oldest line
  obtain ⟨harr, o, hout, hln, hsn, hcap, sums⟩ := s.sampleLine_appends f i bits bg (six ▸ hg)
  refine ⟨_, o, exec_lineSample bits bg oldest line, hout, hln, hsn, hcap, fun frames only => ?_,
    fun pc rows hb tdi unvisited fresh => ?_⟩
  · rw [harr]; exact State.frameDone_single frames only
  · rw [fresh, i.ownStages_nil, tdi, hb] at sums
    exact sums.first (s.newStage_cols_single i g pc rows unvisited)

/-! ### The full test: RUN, ABORT and FAIL_CLR (R147, R148, R151) -/

/-- A host's RUN starts the full test (R147). -/
theorem exec_cnvTestRun {s : State} (run : s.takesWrites) : exec .cnvTestRun s = .next s.runTest := by
  change Host.Outcome.next (s.hostAction 0x40100 State.runTest) = _
  rw [State.hostAction_run run]

theorem exec_cnvTestAbort {s : State} (run : s.takesWrites) : exec .cnvTestAbort s = .next s.abortTest := by
  change Host.Outcome.next (s.hostAction 0x40100 State.abortTest) = _
  rw [State.hostAction_run run]

theorem exec_cnvFailClr {s : State} (run : s.takesWrites) : exec .cnvFailClr s = .next s.clearFails := by
  change Host.Outcome.next (s.hostAction 0x40100 State.clearFails) = _
  rw [State.hostAction_run run]

theorem State.runTest_running {s : State} (running : s.isRunning = true) : s.runTest = s.writeIgnored 0x40100 5 := by
  simp [State.runTest, running]

/-- A full test begins: the bitmap is empty, the test is BUSY, and ABORTED falls. -/
def State.testBegun (s : State) : State :=
  ({ s with cnv := { s.cnv with fails := [], bgLogged := [] } }.setFlag F.CNV_TEST_STAT_BUSY true).setFlag
    F.CNV_TEST_STAT_ABORTED false

theorem Changes.testBegun (s : State) :
    Changes [.regs, .cnv] [F.CNV_TEST_STAT_BUSY, F.CNV_TEST_STAT_ABORTED] s s.testBegun := by
  refine Changes.trans ((Changes.setCnv s { s.cnv with fails := [], bgLogged := [] }).mono (by decide) (by simp)) ?_
  refine Changes.trans ((Changes.setFlag _ F.CNV_TEST_STAT_BUSY true).mono (by decide) (by simp)) ?_
  exact (Changes.setFlag _ F.CNV_TEST_STAT_ABORTED false).mono (by decide) (by simp)

/-- RUN begins a test where Thyme is stopped and none runs. -/
theorem State.runTest_idle {s : State} (stopped : s.isRunning = false) (free : s.flag F.CNV_TEST_STAT_BUSY = false) :
    s.runTest = s.testBegun := by
  simp [State.runTest, stopped, free, State.testBegun]

theorem State.clearFails_idle {s : State} (free : s.flag F.CNV_TEST_STAT_BUSY = false) :
    s.clearFails = { s with cnv := { s.cnv with fails := [], bgLogged := [] } } := by
  simp [State.clearFails, free]

/-- A full test ends with the fail bits `fails`: it is no longer BUSY, and it is DONE. -/
def State.testEnded (s : State) (fails : List Nat) : State :=
  ({ s with cnv := { s.cnv with fails := fails } }.setFlag F.CNV_TEST_STAT_BUSY false).setFlag F.CNV_TEST_STAT_DONE true

theorem State.testEnded_done (s : State) (fails : List Nat) : (s.testEnded fails).reg F.CNV_TEST_STAT_DONE = 1 :=
  State.reg_setReg_same _ _ _

theorem State.testEnded_busy (s : State) (fails : List Nat) : (s.testEnded fails).reg F.CNV_TEST_STAT_BUSY = 0 :=
  (State.reg_setReg_ne _ _ (by decide)).trans (State.reg_setReg_same _ _ _)

theorem Changes.testEnded (s : State) (fails : List Nat) :
    Changes [.cnv, .regs] [F.CNV_TEST_STAT_BUSY, F.CNV_TEST_STAT_DONE] s (s.testEnded fails) := by
  refine Changes.trans ((Changes.setCnv s { s.cnv with fails := fails }).mono (by decide) (by simp)) ?_
  refine Changes.trans ((Changes.setFlag _ F.CNV_TEST_STAT_BUSY false).mono (by decide) (by simp)) ?_
  exact (Changes.setFlag _ F.CNV_TEST_STAT_DONE true).mono (by decide) (by simp)

/-- What an aborted test does beside its end with an all-zero bitmap: ABORTED, FAILS and its event (R148). -/
theorem Changes.abortTest {s : State} (busy : s.flag F.CNV_TEST_STAT_BUSY = true) :
    Changes logParts ([F.CNV_TEST_STAT_ABORTED, F.CNV_TEST_STAT_FAILS] ++ attnFields) (s.testEnded []) s.abortTest := by
  rw [State.abortTest, if_pos busy]
  refine Changes.trans ((Changes.setFlag (s.testEnded []) F.CNV_TEST_STAT_ABORTED true).mono (by decide) (by simp)) ?_
  refine Changes.trans ((Changes.setReg _ F.CNV_TEST_STAT_FAILS 0).mono (by decide) (by simp)) ?_
  exact (Changes.log _ _ _).mono (by decide) (fun _ => List.mem_append_right _)

theorem State.abortTest_aborted {s : State} (busy : s.flag F.CNV_TEST_STAT_BUSY = true) :
    s.abortTest.reg F.CNV_TEST_STAT_ABORTED = 1 := by
  rw [State.abortTest, if_pos busy]
  exact (RegsSame.log _ _ _ _ (by decide)).trans
    ((State.reg_setReg_ne _ _ (by decide)).trans (State.reg_setReg_same _ _ _))

/-- What a test that ends of itself does beside its end: FAILS, its events and the proposal of a spare map (R144, R147,
R209). -/
theorem Changes.testDone {s : State} (codes : List (Nat × List (List Bool) × List (List Bool) × List (List Bool)))
    (busy : s.flag F.CNV_TEST_STAT_BUSY = true) :
    Changes ([.shadow, .cal] ++ logParts) ([F.CNV_TEST_STAT_FAILS, F.CAL_STAT_PROPOSED] ++ attnFields)
      (s.testEnded ((Cfg.testFails s.regs (s.reg F.CNV_TEST_TOL) codes).map (fun x => x.1))) (s.testDone codes) := by
  rw [State.testDone, if_pos busy]
  extract_lets bad found noted counted ended named told
  have count : Changes [.regs] [F.CNV_TEST_STAT_FAILS] (s.testEnded (bad.map (fun x => x.1))) counted :=
    Changes.setReg _ _ _
  have events : Changes logParts attnFields counted told := by
    refine Changes.trans (Changes.log counted _ _) (Changes.trans (Changes.foldl (fun u x => ?_) _ ended)
      (Changes.foldl (fun u x => ?_) _ named))
    · exact Changes.log u _ _
    · split
      · exact Changes.logSpareFail u _
      · exact Changes.refl _ _ u
  refine Changes.trans (count.mono (by decide) (by simp)) ?_
  refine Changes.trans (events.mono (by decide) (fun _ => List.mem_append_right _)) ?_
  exact (Changes.propose told).mono (by decide) (fun _ => List.mem_cons_of_mem _)

/-! ### The verdict of a full test (R146) -/

theorem mem_insertFail {l : List (Nat × Nat)} {x y : Nat × Nat} : y ∈ insertFail l x ↔ y = x ∨ y ∈ l := by
  induction l with
  | nil => simp [insertFail]
  | cons z r ih =>
    rw [insertFail]
    split
    · simp
    · rw [List.mem_cons, ih, List.mem_cons]
      exact or_left_comm

theorem mem_foldl_insertFail {l a : List (Nat × Nat)} {y : Nat × Nat} :
    y ∈ l.foldl insertFail a ↔ y ∈ l ∨ y ∈ a := by
  induction l generalizing a with
  | nil => simp
  | cons x r ih =>
    rw [List.foldl_cons, ih, mem_insertFail, List.mem_cons]
    exact or_left_comm.trans or_assoc.symm

section

variable {c : Cfg} {tol : Nat} {codes : List (Nat × List (List Bool) × List (List Bool) × List (List Bool))} {i : Nat}

/-- A converter fails where it is one of those judged and its verdict names a level. -/
theorem Cfg.mem_testFails {l : Nat} :
    (i, l) ∈ c.testFails tol codes ↔
      (i ∈ codes.map (fun x => x.1) ∨ i < 50310 ∧ (c.verdict tol [] 0).isSome = true) ∧
        c.verdict tol codes i = some l := by
  have judged : i ∈ codes.map (fun x => x.1) ++ (if (c.verdict tol [] 0).isSome then List.range 50310 else []) ↔
      i ∈ codes.map (fun x => x.1) ∨ i < 50310 ∧ (c.verdict tol [] 0).isSome = true := by
    rw [List.mem_append, List.mem_ite_nil_right, List.mem_range, and_comm]
  rw [testFails, mem_foldl_insertFail, List.mem_filterMap, ← judged]
  constructor
  · rintro (⟨j, hj, h⟩ | h)
    · obtain ⟨k, level, same⟩ := Option.map_eq_some_iff.1 h
      cases same
      exact ⟨List.mem_eraseDups.1 hj, level⟩
    · exact absurd h List.not_mem_nil
  · rintro ⟨hi, level⟩
    exact .inl ⟨i, List.mem_eraseDups.2 hi, Option.map_eq_some_iff.2 ⟨l, level, rfl⟩⟩

/-- Every converter that fails a full test is one of the module's (Table CAL-1). -/
theorem Cfg.testFails_lt (listed : ∀ x ∈ codes, x.1 < 50310)
    (fails : i ∈ (c.testFails tol codes).map (fun x => x.1)) : i < 50310 := by
  obtain ⟨⟨_, l⟩, hx, rfl⟩ := List.mem_map.1 fails
  obtain ⟨h | h, -⟩ := Cfg.mem_testFails.1 hx
  · obtain ⟨x, hx, same⟩ := List.mem_map.1 h
    exact same ▸ listed x hx
  · exact h.1

/-- A listed converter fails where its verdict names a level. -/
theorem Cfg.mem_testFails_listed {a : Nat × List (List Bool) × List (List Bool) × List (List Bool)}
    (listed : codes.find? (fun x => x.1 == i) = some a) :
    i ∈ (c.testFails tol codes).map (fun x => x.1) ↔ c.verdict tol codes i ≠ none := by
  have mem : i ∈ codes.map (fun x => x.1) :=
    List.mem_map.2 ⟨a, List.mem_of_find?_eq_some listed, by simpa using List.find?_some listed⟩
  rw [Option.ne_none_iff_exists']
  constructor
  · intro fails
    obtain ⟨⟨_, l⟩, hx, rfl⟩ := List.mem_map.1 fails
    exact ⟨l, (Cfg.mem_testFails.1 hx).2⟩
  · rintro ⟨l, level⟩
    exact List.mem_map.2 ⟨(i, l), Cfg.mem_testFails.2 ⟨.inl mem, level⟩, rfl⟩

/-- The mean of 16 conversions, rounded down. -/
theorem meanDown_take_sixteen {α : Type} {l : List α} (f : α → Nat) (h : l.length = 16) :
    meanDown ((l.take 16).map f) = (l.map f).foldl (fun n v => n + v) 0 / 16 := by
  have ne : l ≠ [] := by rintro rfl; simp at h
  rw [List.take_of_length_le (Nat.le_of_eq h), meanDown, if_neg (by rwa [List.map_eq_nil_iff]), List.length_map, h]

/-- A listed converter is judged by the means of its 16 conversions at each level. -/
theorem Cfg.verdict_listed {a0 a1 a2 : List (List Bool)}
    (listed : codes.find? (fun x => x.1 == i) = some (i, a0, a1, a2)) (h0 : a0.length = 16) (h1 : a1.length = 16)
    (h2 : a2.length = 16) :
    let mean (l : List (List Bool)) : Nat := (l.map (fun b => (decimate c.shifts b).1)).foldl (fun n v => n + v) 0 / 16
    c.verdict tol codes i = judge c.fs tol (mean a0) (mean a1) (mean a2) := by
  simp only [Cfg.verdict, listed, meanDown_take_sixteen _ h0, meanDown_take_sixteen _ h1, meanDown_take_sixteen _ h2]

end

/-- Settles O26: RUN by `State.testBegun`, both ends of a test by what follows `State.testEnded`, and the fail bits by
`Cfg.mem_testFails`. -/
theorem converterSelfTest : Obligations.ConverterSelfTest := by
  refine ⟨fun s run stopped free => ⟨_, exec_cnvTestRun run, ?_⟩, fun s run running => ?_,
    fun s run busy => ⟨_, exec_cnvTestAbort run, ?_⟩, fun s run free => ?_,
    fun s codes busy => ⟨s.testDone codes, rfl, ?_⟩⟩
  · rw [State.runTest_idle stopped free]
    exact ⟨(State.reg_setReg_ne _ _ (by decide)).trans (State.reg_setReg_same _ _ _), rfl, State.reg_setReg_same _ _ _,
      Changes.testBegun s⟩
  · rw [exec_cnvTestRun run, State.runTest_running running]
  · have rest := Changes.abortTest busy
    refine ⟨(rest.2 _ (by decide)).trans (s.testEnded_busy []), (rest.2 _ (by decide)).trans (s.testEnded_done []),
      State.abortTest_aborted busy, rest.1 .cnv (by decide), ?_⟩
    exact ((Changes.testEnded s []).mono (by decide) (by simp)).trans (rest.mono (by decide) (fun _ =>
      List.mem_append_right [F.CNV_TEST_STAT_BUSY, F.CNV_TEST_STAT_DONE]))
  · rw [exec_cnvFailClr run, State.clearFails_idle free]
  · have rest := Changes.testDone codes busy
    have fails : (s.testDone codes).cnv.fails =
        (Cfg.testFails s.regs (s.reg F.CNV_TEST_TOL) codes).map (fun x => x.1) :=
      congrArg Cnv.fails (rest.1 .cnv (by decide))
    refine ⟨(rest.2 _ (by decide)).trans (s.testEnded_busy _), (rest.2 _ (by decide)).trans (s.testEnded_done _),
      fun listed c hc => Cfg.testFails_lt listed (fails ▸ hc), fun c a0 a1 a2 _ listed h0 h1 h2 => ?_⟩
    rw [fails, Cfg.mem_testFails_listed listed, Cfg.verdict_listed listed h0 h1 h2]

end Sys2Proof.Machine
end

section
/-! PROOFS of `05_line_filters_and_level_events.md`: the filter chains, the level-event detectors, and the records and
pulses that they give. -/

namespace Sys2Proof.Machine

/-! ### One element of a list changed -/

theorem getElem?_modAt_same {α : Type} (l : List α) (i : Nat) (f : α → α) : (modAt l i f)[i]? = l[i]?.map f := by
  unfold modAt
  split
  · rename_i v hv
    obtain ⟨hi, rfl⟩ := List.getElem?_eq_some_iff.1 hv
    simp [hi]
  · rename_i hv; simp [hv]

theorem getElem?_modAt_ne {α : Type} (l : List α) {i j : Nat} (f : α → α) (h : j ≠ i) : (modAt l i f)[j]? = l[j]? := by
  unfold modAt
  split
  · exact List.getElem?_set_ne h.symm
  · rfl

/-! ### What leaves the chains alone (R154, R164, R173, R211, R491) -/

/-- From `s` to `t` no chain has taken a line, and no chain output has been delivered or taken. -/
structure State.KeepsChains (s t : State) : Prop where
  cnv : t.cnv = s.cnv
  hist : t.lfl.hist = s.lfl.hist
  out : t.lfl.out = s.lfl.out

theorem State.KeepsChains.refl (s : State) : s.KeepsChains s := ⟨rfl, rfl, rfl⟩

theorem State.KeepsChains.trans {s t u : State} (h : s.KeepsChains t) (k : t.KeepsChains u) : s.KeepsChains u :=
  ⟨k.cnv.trans h.cnv, k.hist.trans h.hist, k.out.trans h.out⟩

/-- A loop leaves the chains alone where its turns do. -/
theorem State.KeepsChains.foldl {α : Type} {turn : State → α → State}
    (h : ∀ (u : State) (x : α), u.KeepsChains (turn u x)) (xs : List α) (s : State) :
    s.KeepsChains (xs.foldl turn s) :=
  List.foldlRecOn xs _ (refl s) (fun u hu x _ => hu.trans (h u x))

/-- The segment that the filters, or the apply units, handle is beside the chains. -/
theorem State.KeepsChains.lflSeg {s t : State} (h : s.KeepsChains t) (x : Option SegNo) :
    s.KeepsChains { t with lfl := { t.lfl with seg := x } } := ⟨h.cnv, h.hist, h.out⟩

theorem State.KeepsChains.calSeg {s t : State} (h : s.KeepsChains t) (x : Option SegNo) :
    s.KeepsChains { t with cal := { t.cal with seg := x } } := ⟨h.cnv, h.hist, h.out⟩

theorem State.KeepsChains.closeDet (s : State) (sn : SegNo) (d : Nat) : s.KeepsChains (s.closeDet sn d) := by
  unfold State.closeDet
  split
  · exact refl s
  · split
    · exact refl s
    · exact ⟨by simp, by simp, by simp⟩

theorem State.KeepsChains.closeFilters (s : State) (sn : SegNo) : s.KeepsChains (s.closeFilters sn) := by
  unfold State.closeFilters
  extract_lets n lfl counted
  have clamps : s.KeepsChains counted := by
    unfold counted
    split
    · exact refl s
    · exact ⟨by simp, by simp [lfl], by simp [lfl]⟩
  exact clamps.trans (foldl (fun u d => closeDet u sn d) _ _)

theorem State.KeepsChains.lflHandles (s : State) (sn : SegNo) : s.KeepsChains (s.lflHandles sn) := by
  unfold State.lflHandles
  cases s.lfl.seg with
  | none => exact lflSeg (refl s) _
  | some old =>
    dsimp only
    split
    · exact lflSeg (refl s) _
    · exact lflSeg (closeFilters s old) _

theorem State.KeepsChains.lflDrained (s : State) : s.KeepsChains s.lflDrained := by
  unfold State.lflDrained
  split
  · exact refl s
  · split
    · exact lflSeg (closeFilters s _) _
    · exact refl s

theorem State.KeepsChains.closeFill (s : State) (sn : SegNo) : s.KeepsChains (s.closeFill sn) := by
  unfold State.closeFill
  split
  · exact refl s
  · exact ⟨by simp, by simp, by simp⟩

theorem State.KeepsChains.calDrained (s : State) : s.KeepsChains s.calDrained := by
  unfold State.calDrained
  split
  · exact refl s
  · split
    · exact calSeg (closeFill s _) _
    · exact refl s

theorem State.KeepsChains.tapLine (s : State) (c : Cfg) (i : LineInfo) (g d : Nat) (h : List GroupLine)
    (out : Option GroupLine) (x : GroupLine) : s.KeepsChains (s.tapLine c i g d h out x) := by
  unfold State.tapLine
  extract_lets fresh lfl push none_ vals
  have pushed : ∀ t, s.KeepsChains (push t) := fun _ => ⟨rfl, rfl, rfl⟩
  have missed : s.KeepsChains (if fresh then push none_ else s) := by
    split
    · exact pushed none_
    · exact refl s
  split
  · split
    · split
      · exact pushed _
      · exact missed
    · split
      · split
        · exact pushed _
        · exact missed
      · exact missed
  · exact refl s

theorem State.KeepsChains.captureEnds (s : State) (kind lines : Nat) : s.KeepsChains (s.captureEnds kind lines) :=
  ⟨by simp [State.captureEnds], by simp [State.captureEnds], by simp [State.captureEnds]⟩

theorem State.KeepsChains.captureSums (s : State) (c : Cfg) (g : Nat) (o : GroupLine) :
    s.KeepsChains (s.captureSums c g o) := by
  unfold State.captureSums
  split
  · exact refl s
  · extract_lets n after k cal summed counted
    have sums : s.KeepsChains counted := ⟨rfl, rfl, rfl⟩
    split
    · split
      · exact sums.trans (captureEnds counted _ _)
      · exact sums
    · exact refl s

theorem State.KeepsChains.countClamp (s : State) (i : LineInfo) : s.KeepsChains (s.countClamp i) := by
  unfold State.countClamp
  dsimp only
  split
  · split
    · exact ⟨rfl, rfl, rfl⟩
    · exact ⟨rfl, rfl, rfl⟩
  · exact refl s

theorem State.KeepsChains.detRests (s : State) (d : Nat) : s.KeepsChains (s.detRests d) := by
  unfold State.detRests
  split
  · exact refl s
  · extract_lets more
    split
    · exact refl s
    · exact ⟨rfl, rfl, rfl⟩

/-! ### A chain takes a line (R157, R158, R164) -/

/-- The history of the chain of group `g` once it has taken line `x`; it begins anew where the line restarts the chain
(R164). -/
def State.joined (s : State) (i : LineInfo) (g : Nat) (x : GroupLine) : List GroupLine :=
  trimHistory (x :: (if i.restarts.contains g then [] else s.lfl.hist[g]?.getD []))

/-- The line joins the history of its chain, which delivers an output at a selected line and none at another. -/
structure State.Takes (s t : State) (i : LineInfo) (g : Nat) (x : GroupLine) : Prop where
  cnv : t.cnv = s.cnv
  hist : t.lfl.hist = s.lfl.hist.set g (s.joined i g x)
  selected : i.cfg.selected g x.ln = true →
    t.lfl.out = modAt s.lfl.out g (fun q => q ++ [i.cfg.chainLine g (s.joined i g x) x])
  skipped : i.cfg.selected g x.ln = false → t.lfl.out = s.lfl.out

theorem State.Takes.keeps {s t u : State} {i : LineInfo} {g : Nat} {x : GroupLine} (h : s.Takes t i g x)
    (k : t.KeepsChains u) : s.Takes u i g x :=
  ⟨k.cnv.trans h.cnv, k.hist.trans h.hist, fun y => k.out.trans (h.selected y), fun n => k.out.trans (h.skipped n)⟩

/-- What stands in the places of the chain after its line. -/
theorem State.Takes.delivers {s t : State} {i : LineInfo} {g : Nat} {x : GroupLine} (h : s.Takes t i g x)
    (ho : g < s.lfl.out.length) (hh : g < s.lfl.hist.length) :
    t.lfl.hist[g]? = some (s.joined i g x) ∧
    (i.cfg.selected g x.ln = true → t.lfl.out[g]? =
      some (s.lfl.out[g]?.getD [] ++ [i.cfg.chainLine g (s.joined i g x) x])) ∧
    (i.cfg.selected g x.ln = false → t.lfl.out = s.lfl.out) := by
  refine ⟨?_, fun sel => ?_, h.skipped⟩
  · rw [h.hist, List.getElem?_set_self hh]
  · rw [h.selected sel]; exact modAt_append ho _

theorem State.chainTakes_takes (s : State) (i : LineInfo) (g : Nat) (x : GroupLine) :
    s.Takes (s.chainTakes i g x) i g x := by
  unfold State.chainTakes
  extract_lets c handled old h lfl joined out tapped filters delivered
  have seg : s.KeepsChains handled := KeepsChains.lflHandles s i.sn
  have history : h = s.joined i g x := by simp only [h, old, State.joined, seg.hist]
  have taps : joined.KeepsChains tapped := KeepsChains.foldl (fun u d => KeepsChains.tapLine u c i g d h out x) _ _
  have hist : tapped.lfl.hist = s.lfl.hist.set g (s.joined i g x) := by
    rw [taps.hist, ← seg.hist, ← history]
  have queue : tapped.lfl.out = s.lfl.out := taps.out.trans seg.out
  have takes : s.Takes delivered i g x := by
    cases sel : i.cfg.selected g x.ln with
    | false =>
      have gives : delivered = tapped := by simp [delivered, out, c, sel]
      rw [gives]
      exact ⟨taps.cnv.trans seg.cnv, hist, by simp [sel], fun _ => queue⟩
    | true =>
      have gives : out = some (i.cfg.chainLine g (s.joined i g x) x) := by simp [out, c, sel, history]
      unfold delivered
      rw [gives]
      refine State.Takes.keeps ?_ (KeepsChains.captureSums _ c g _)
      exact ⟨taps.cnv.trans seg.cnv, hist, fun _ => by rw [← queue], by simp [sel]⟩
  exact takes.keeps ((KeepsChains.countClamp delivered i).trans
    ((KeepsChains.foldl (fun u d => KeepsChains.detRests u d) _ _).trans (KeepsChains.lflDrained _)))

/-- CHAIN_OUTPUT takes the line sample of the next line of the group, and what stands before it leaves the converters'
queue with it. -/
theorem State.chainOutput_launched {s : State} {g : Nat} {i : LineInfo} {x : GroupLine}
    (next : s.nextChainLine g = some i) (launched : i.launched = true)
    (sample : (s.cnv.out[g]?.getD []).find? (fun y => y.ln == i.ln) = some x) :
    s.chainOutput g = State.chainTakes { s with cnv := { s.cnv with
      out := modAt s.cnv.out g (fun q => q.filter (fun y => decide (0 < signedDiff y.ln i.ln))) } } i g x := by
  simp only [State.chainOutput, next, launched, sample, if_true]

/-- A line that was not launched goes through the chain as one not captured. -/
theorem State.chainOutput_missed {s : State} {g : Nat} {i : LineInfo} (next : s.nextChainLine g = some i)
    (missed : i.launched = false) : s.chainOutput g = s.chainTakes i g (i.missing g) := by
  simp [State.chainOutput, next, missed]

theorem exec_chainOutput (s : State) (g : Nat) : exec (.chainOutput g) s = .next (s.chainOutput g).calDrained := rfl

/-- Settles O24: the line that CHAIN_OUTPUT takes is `State.chainOutput_launched` or `State.chainOutput_missed`, what
its chain does with it `State.chainTakes_takes`, and the rest of the command leaves the chains alone. -/
theorem chainsDeliver : Obligations.ChainsDeliver := by
  intro s g i x hg outs hists cnvs next sample missing
  have drained := State.KeepsChains.calDrained (s.chainOutput g)
  refine ⟨_, exec_chainOutput s g, ?_⟩
  cases launched : i.launched with
  | true =>
    have taken := State.chainOutput_launched next launched (sample launched)
    have takes := (State.chainTakes_takes _ i g x).keeps (taken ▸ drained)
    rw [taken]
    refine ⟨?_, takes.delivers (outs ▸ hg) (hists ▸ hg)⟩
    rw [takes.cnv, getElem?_modAt_same]
    simp [cnvs, hg]
  | false =>
    obtain rfl := missing launched
    have taken := State.chainOutput_missed next launched
    have takes := (State.chainTakes_takes _ i g _).keeps (taken ▸ drained)
    rw [taken]
    refine ⟨?_, takes.delivers (outs ▸ hg) (hists ▸ hg)⟩
    rw [takes.cnv]
    rfl

/-! ### What leaves a detector's decision alone (R171, R173, R174) -/

theorem Changes.attend (s : State) (c : Nat) : Changes [.regs, .twi] attnFields s (s.attend c) :=
  ⟨fun p hp => by rw [State.attend_eq]; cases p with | regs => simp at hp | twi => simp at hp | _ => rfl,
    RegsSame.attend s c⟩

theorem Changes.setFifo (s : State) (x : List FifoRec) : Changes [.fifo] [] s { s with fifo := x } :=
  ⟨fun p hp => by cases p with | fifo => simp at hp | _ => rfl, RegsSame.of_regs rfl⟩

theorem Changes.setLfl (s : State) (x : Lfl) : Changes [.lfl] [] s { s with lfl := x } :=
  ⟨fun p hp => by cases p with | lfl => simp at hp | _ => rfl, RegsSame.of_regs rfl⟩

/-- From `s` to `t` detector `d` has the same lines to evaluate, is in the same state, and FIRED is the same. -/
structure State.KeepsDecision (d : Nat) (s t : State) : Prop where
  inq : (t.det d).inq = (s.det d).inq
  state : t.reg (F.LFL_DET_STAT_STATE d) = s.reg (F.LFL_DET_STAT_STATE d)
  fired : t.reg (F.LFL_DET_STAT_FIRED d) = s.reg (F.LFL_DET_STAT_FIRED d)

theorem State.KeepsDecision.refl (d : Nat) (s : State) : s.KeepsDecision d s := ⟨rfl, rfl, rfl⟩

theorem State.KeepsDecision.trans {d : Nat} {s t u : State} (h : s.KeepsDecision d t) (k : t.KeepsDecision d u) :
    s.KeepsDecision d u := ⟨k.inq.trans h.inq, k.state.trans h.state, k.fired.trans h.fired⟩

theorem State.KeepsDecision.setReg {d : Nat} (s : State) {f : Field} (v : Nat)
    (state : (F.LFL_DET_STAT_STATE d).key ≠ f.key) (fired : (F.LFL_DET_STAT_FIRED d).key ≠ f.key) :
    s.KeepsDecision d (s.setReg f v) := ⟨rfl, State.reg_setReg_ne s v state, State.reg_setReg_ne s v fired⟩

/-- A detector replaced by one with the same lines to evaluate. -/
theorem State.KeepsDecision.setDet {d : Nat} {s : State} {x : Det} (h : x.inq = (s.det d).inq) :
    s.KeepsDecision d (s.setDet d x) := by
  refine ⟨?_, rfl, rfl⟩
  by_cases hl : d < s.lfl.dets.length
  · rw [State.det_setDet_same hl, h]
  · simp [State.det, State.setDet, hl]

/-- A pulse of the EVT pins is beside every detector. -/
theorem State.KeepsDecision.pulseEvt {d : Nat} (s : State) (e : Nat) : s.KeepsDecision d (s.pulseEvt e) :=
  ⟨rfl, rfl, rfl⟩

section

variable {d : Nat} (hd : d < 64)
include hd

/-- The registers of the 64 detectors stand in a block of their own (Table LFL-14): what writes no register of it, and
none of the filters' memory, leaves every decision alone. -/
theorem State.KeepsDecision.of_changes {p : List Part} {l : List Field} {s t : State} (h : Changes p l s t)
    (lfl : .lfl ∉ p) (beside : ∀ f ∈ l, f.key < 8 * 0x51000 ∨ 8 * 0x52000 ≤ f.key) : s.KeepsDecision d t := by
  have outside : ∀ k : Nat, 8 * 0x51000 ≤ k → k < 8 * 0x52000 → k ∉ l.map Field.key := by
    intro k lo hi mem
    obtain ⟨f, hf, rfl⟩ := List.mem_map.1 mem
    have := beside f hf
    omega
  refine ⟨by rw [State.det, State.det, h.1 .lfl lfl], h.2 _ (outside _ ?_ ?_), h.2 _ (outside _ ?_ ?_)⟩ <;>
    simp only [Field.key, F.LFL_DET_STAT_STATE, F.LFL_DET_STAT_FIRED] <;> omega

theorem State.KeepsDecision.setCnt (s : State) (n : Nat) (c : Counter) : s.KeepsDecision d (s.setCnt n c) :=
  of_changes hd (Changes.setCnt s n c) (by decide) (by simp)

theorem State.KeepsDecision.raiseInput (s : State) (src : Nat) (sel : Nat → Bool) (rev : Bool) :
    s.KeepsDecision d (s.raiseInput src sel rev) := by
  refine List.foldlRecOn _ _ (refl d s) (fun u hu k _ => ?_)
  split
  · exact hu.trans (setCnt hd u k _)
  · exact hu

theorem State.KeepsDecision.capture (s : State) {n : Nat} (hn : n < 8) (t : PressTime) :
    s.KeepsDecision d (s.capture n t) := by
  have pend : (F.PTC_CNT_STAT_CAPT_PEND n).key < 8 * 0x51000 := by
    simp only [Field.key, F.PTC_CNT_STAT_CAPT_PEND]; omega
  have ovr : (F.PTC_CNT_STAT_CAPT_OVR n).key < 8 * 0x51000 := by simp only [Field.key, F.PTC_CNT_STAT_CAPT_OVR]; omega
  have cnt : (F.PTC_CNT_CAPT_CNT_V n).key < 8 * 0x51000 := by simp only [Field.key, F.PTC_CNT_CAPT_CNT_V]; omega
  have pt : (F.PTC_CNT_CAPT_PT_V n).key < 8 * 0x51000 := by simp only [Field.key, F.PTC_CNT_CAPT_PT_V]; omega
  have set : ∀ (u : State) (f : Field) (v : Nat), f.key < 8 * 0x51000 → u.KeepsDecision d (u.setReg f v) :=
    fun u f v below => of_changes hd (Changes.setReg u f v) (by decide) (by simp [below])
  unfold State.capture
  split
  · split
    · exact (setCnt hd s n _).trans (set _ _ _ pend)
    · exact (set s _ _ ovr).trans (of_changes hd (Changes.log _ _ _) (by decide) (by decide))
  · exact (set s _ _ cnt).trans (set _ _ _ pt)

theorem State.KeepsDecision.captureBy (s : State) (src : Nat) (sel : Nat → Bool) (t : PressTime) :
    s.KeepsDecision d (s.captureBy src sel t) := by
  refine List.foldlRecOn _ _ (refl d s) (fun u hu k hk => ?_)
  split
  · refine hu.trans ?_
    unfold State.captureInTurn
    split
    · exact capture hd u (List.mem_range.1 hk) t
    · exact setCnt hd u k _
  · exact hu

theorem State.KeepsDecision.queueLevel (s : State) (r : List Byte) : s.KeepsDecision d (s.queueLevel d r) := by
  unfold State.queueLevel
  extract_lets x
  split
  · exact (of_changes hd (Changes.attend s 4) (by decide) (by decide)).trans
      (of_changes hd (Changes.setFifo (s.attend 4) _) (by decide) (by simp))
  · split
    · exact setDet rfl
    · refine (setDet (x := { x with lostSeg := x.lostSeg + 1 }) rfl).trans (setReg _ _ ?_ ?_) <;>
        simp [Field.key, F.LFL_DET_STAT_STATE, F.LFL_DET_STAT_FIRED, F.LFL_DET_STAT_LOST]

theorem State.KeepsDecision.levelEvent (s : State) (c : Cfg) (r : List Byte) :
    s.KeepsDecision d (s.levelEvent c d r) := by
  unfold State.levelEvent
  extract_lets thy asked counted pulsed
  have asks : s.KeepsDecision d asked := by
    unfold asked
    split
    · exact ⟨rfl, rfl, rfl⟩
    · exact refl d s
  have counts : asked.KeepsDecision d counted := by
    unfold counted
    split
    · exact refl d asked
    · exact (raiseInput hd asked 9 _ false).trans (captureBy hd _ 5 _ _)
  have pulses : s.KeepsDecision d pulsed := (asks.trans counts).trans (pulseEvt counted d)
  split
  · exact pulses.trans (queueLevel hd pulsed r)
  · exact pulses

/-- An event sets FIRED, and what it does beside that leaves the decision alone (R171). -/
theorem State.KeepsDecision.detEvent (s : State) (c : Cfg) (r : DetRun) (t : TapLine) (th value : Nat) :
    (s.setFlag (F.LFL_DET_STAT_FIRED d) true).KeepsDecision d (s.detEvent c d r t th value) := by
  unfold State.detEvent
  extract_lets fired rec_
  split
  · exact levelEvent hd fired c rec_
  · exact refl d fired

end

/-! ### One evaluated line in level mode (R169) -/

/-- An evaluated line after which no run goes on: it is the last one evaluated. -/
def State.runEnds (s : State) (d : Nat) (t : TapLine) (v : Nat) : State :=
  s.setDet d { s.det d with run := none, prev := some (t.ln, v, t.pt) }

/-- An evaluated line of value `v` beyond the threshold `th` of a run of kind `kind`: it completes the run, and the
detector goes to state `st` with an event, or the run goes on. -/
def State.runGoesOn (s : State) (c : Cfg) (d : Nat) (t : TapLine) (v kind st th : Nat) : State :=
  let r := extendRun (s.det d).run kind t v (s.det d).prev
  if c.get (F.LFL_DET_CTL_QUAL d) ≤ r.lines then
    ((s.runEnds d t v).setReg (F.LFL_DET_STAT_STATE d) st).detEvent c d r t th r.vc
  else s.setDet d { s.det d with run := some r, prev := some (t.ln, v, t.pt) }

theorem State.reg_state_setValue (s : State) (d v : Nat) :
    (s.setReg (F.LFL_DET_VALUE_V d) v).reg (F.LFL_DET_STAT_STATE d) = s.reg (F.LFL_DET_STAT_STATE d) :=
  State.reg_setReg_ne s v (by simp only [Field.key, F.LFL_DET_STAT_STATE, F.LFL_DET_VALUE_V]; omega)

theorem State.reg_fired_setValue (s : State) (d v : Nat) :
    (s.setReg (F.LFL_DET_VALUE_V d) v).reg (F.LFL_DET_STAT_FIRED d) = s.reg (F.LFL_DET_STAT_FIRED d) :=
  State.reg_setReg_ne s v (by simp only [Field.key, F.LFL_DET_STAT_FIRED, F.LFL_DET_VALUE_V]; omega)

theorem State.reg_fired_setState (s : State) (d v : Nat) :
    (s.setReg (F.LFL_DET_STAT_STATE d) v).reg (F.LFL_DET_STAT_FIRED d) = s.reg (F.LFL_DET_STAT_FIRED d) :=
  State.reg_setReg_ne s v (by simp [Field.key, F.LFL_DET_STAT_STATE, F.LFL_DET_STAT_FIRED])

theorem State.reg_state_setState (s : State) (d : Nat) {v : Nat} (h : v < 4) :
    (s.setReg (F.LFL_DET_STAT_STATE d) v).reg (F.LFL_DET_STAT_STATE d) = v :=
  (State.reg_setReg_same s _ v).trans (Nat.mod_eq_of_lt h)

theorem State.reg_state_setFired (s : State) (d : Nat) (b : Bool) :
    (s.setFlag (F.LFL_DET_STAT_FIRED d) b).reg (F.LFL_DET_STAT_STATE d) = s.reg (F.LFL_DET_STAT_STATE d) :=
  State.reg_setReg_ne s _ (by simp [Field.key, F.LFL_DET_STAT_STATE, F.LFL_DET_STAT_FIRED])

section

variable {s : State} {c : Cfg} {d : Nat} {t : TapLine} {v : Nat}

/-- An UNKNOWN detector goes by TH_HI alone, without an event. -/
theorem State.detLevel_unknown (value : reduceCols (c.get (F.LFL_DET_CTL_REDUCE d)) t.cols = v)
    (unknown : s.reg (F.LFL_DET_STAT_STATE d) = 0) :
    s.detLevel c d t = ((s.setReg (F.LFL_DET_VALUE_V d) v).runEnds d t v).setReg (F.LFL_DET_STAT_STATE d)
      (if c.get (F.LFL_DET_TH_HI_TH d) < v then 2 else 1) := by
  subst value
  simp only [State.detLevel, State.reg_state_setValue, unknown]
  rfl

/-- A line of a HIGH detector below TH_LO extends the run that makes it LOW. -/
theorem State.detLevel_high_below (value : reduceCols (c.get (F.LFL_DET_CTL_REDUCE d)) t.cols = v)
    (high : s.reg (F.LFL_DET_STAT_STATE d) = 2) (below : v < c.get (F.LFL_DET_TH_LO_TH d)) :
    s.detLevel c d t =
      (s.setReg (F.LFL_DET_VALUE_V d) v).runGoesOn c d t v 0 1 (c.get (F.LFL_DET_TH_LO_TH d)) := by
  subst value
  simp only [State.detLevel, State.reg_state_setValue, high, below, if_true]
  rfl

/-- A line of a HIGH detector at or above TH_LO ends the run. -/
theorem State.detLevel_high_above (value : reduceCols (c.get (F.LFL_DET_CTL_REDUCE d)) t.cols = v)
    (high : s.reg (F.LFL_DET_STAT_STATE d) = 2) (above : c.get (F.LFL_DET_TH_LO_TH d) ≤ v) :
    s.detLevel c d t = (s.setReg (F.LFL_DET_VALUE_V d) v).runEnds d t v := by
  subst value
  simp only [State.detLevel, State.reg_state_setValue, high, Nat.not_lt.2 above, if_false]
  rfl

/-- The line that completes a run moves the detector to the run's state and sets FIRED. -/
theorem State.runGoesOn_completes (hd : d < 64) {kind st th : Nat} (hst : st < 4)
    (complete : c.get (F.LFL_DET_CTL_QUAL d) ≤ (extendRun (s.det d).run kind t v (s.det d).prev).lines) :
    (s.runGoesOn c d t v kind st th).reg (F.LFL_DET_STAT_STATE d) = st ∧
      (s.runGoesOn c d t v kind st th).reg (F.LFL_DET_STAT_FIRED d) = 1 := by
  rw [State.runGoesOn, if_pos complete]
  have event := State.KeepsDecision.detEvent hd ((s.runEnds d t v).setReg (F.LFL_DET_STAT_STATE d) st) c
    (extendRun (s.det d).run kind t v (s.det d).prev) t th (extendRun (s.det d).run kind t v (s.det d).prev).vc
  refine ⟨?_, event.fired.trans (State.reg_setReg_same _ _ _)⟩
  rw [event.state, State.reg_state_setFired, State.reg_state_setState _ _ hst]

variable (hd : d < 64) (len : s.lfl.dets.length = 64)
include hd len

theorem State.runEnds_det :
    (s.runEnds d t v).det d = { s.det d with run := none, prev := some (t.ln, v, t.pt) } :=
  State.det_setDet_same (len ▸ hd)

theorem State.runEnds_inq : ((s.runEnds d t v).det d).inq = (s.det d).inq := by rw [State.runEnds_det hd len]

theorem State.runEnds_run : ((s.runEnds d t v).det d).run = none := by rw [State.runEnds_det hd len]

theorem State.runGoesOn_inq (kind st th : Nat) :
    ((s.runGoesOn c d t v kind st th).det d).inq = (s.det d).inq := by
  unfold State.runGoesOn
  extract_lets r
  split
  · exact (State.KeepsDecision.detEvent hd _ c r t th r.vc).inq.trans (State.runEnds_inq hd len)
  · rw [State.det_setDet_same (len ▸ hd)]

/-- An evaluated line leaves those that wait. -/
theorem State.detLevel_inq : ((s.detLevel c d t).det d).inq = (s.det d).inq := by
  unfold State.detLevel
  extract_lets value lo hi u x prev run
  have runs : ∀ kind st th, ((run kind st th).det d).inq = (s.det d).inq :=
    State.runGoesOn_inq (s := u) (t := t) (v := value) hd len
  have ends : ((u.runEnds d t value).det d).inq = (s.det d).inq := State.runEnds_inq (s := u) hd len
  split
  · split
    · exact runs 0 1 lo
    · exact ends
  · split
    · exact runs 1 2 hi
    · exact ends
  · exact ends

end

/-- The oldest line that waits at a detector is taken; `rest` are those behind it. -/
def State.takeTap (s : State) (d : Nat) (rest : List TapLine) : State := s.setDet d { s.det d with inq := rest }

theorem State.takeTap_det {s : State} {d : Nat} (rest : List TapLine) (h : d < s.lfl.dets.length) :
    (s.takeTap d rest).det d = { s.det d with inq := rest } := State.det_setDet_same h

theorem State.takeTap_length (s : State) (d : Nat) (rest : List TapLine) :
    (s.takeTap d rest).lfl.dets.length = s.lfl.dets.length := s.setDet_length d _

/-- DETECTOR_DECISION evaluates a captured and settled line in level mode by `State.detLevel` (R168, R169). -/
theorem State.decide_level {s : State} {d : Nat} {x : TapLine} {rest : List TapLine}
    (oldest : (s.det d).inq = x :: rest) (captured : x.captured = true) (cols : x.cols ≠ [])
    (settled : x.unsettled = false) (known : x.fresh = false) (level : (s.lineCfg x.ln).get (F.LFL_DET_CTL_MODE d) = 1) :
    s.decide_ d = (s.takeTap d rest).detLevel (s.lineCfg x.ln) d x := by
  have cfg : (s.takeTap d rest).lineCfg x.ln = s.lineCfg x.ln := rfl
  rw [State.takeTap] at cfg ⊢
  simp [State.decide_, oldest, captured, cols, settled, known, cfg, level]

theorem exec_detectorDecision (s : State) (d : Nat) : exec (.detectorDecision d) s = .next (s.decide_ d) := rfl

/-! ### Level-event records and EVT pulses (R173, R174) -/

theorem exec_levelRecordDequeue (s : State) (d : Nat) : exec (.levelRecordDequeue d) s = .next (s.dequeueLevel d) := rfl

section

variable {s : State} {d : Nat} {r : List Byte} {rest : List (List Byte)} (waits : (s.det d).queue = r :: rest)
include waits

/-- The oldest record that waits moves into an event FIFO with room. -/
theorem State.dequeueLevel_room (room : s.fifo.length < 256) :
    s.dequeueLevel d =
      { ((s.setDet d { s.det d with queue := rest }).attend 4) with fifo := s.fifo ++ [.level r] } := by
  simp only [State.dequeueLevel, waits, room, if_true]
  rfl

/-- The records behind it go on waiting. -/
theorem State.dequeueLevel_queue (hd : d < s.lfl.dets.length) (room : s.fifo.length < 256) :
    ((s.dequeueLevel d).det d).queue = rest := by
  have stays : ((s.setDet d { s.det d with queue := rest }).attend 4).det d = { s.det d with queue := rest } := by
    rw [State.det, State.attend_lfl]; exact State.det_setDet_same hd
  rw [State.dequeueLevel_room waits room]
  exact congrArg Det.queue stays

theorem Changes.dequeueLevel (room : s.fifo.length < 256) :
    Changes [.lfl, .fifo, .regs, .twi] attnFields s (s.dequeueLevel d) := by
  rw [State.dequeueLevel_room waits room]
  refine Changes.trans ((Changes.setDet s d { s.det d with queue := rest }).mono (by decide) (by simp)) ?_
  refine Changes.trans ((Changes.attend _ 4).mono (by decide) (fun _ h => h)) ?_
  exact (Changes.setFifo _ _).mono (by decide) (by simp)

theorem State.dequeueLevel_full (full : 256 ≤ s.fifo.length) : s.dequeueLevel d = s := by
  simp only [State.dequeueLevel, waits, Nat.not_lt.2 full, if_false]

end

/-- Settles O27: a decision in level mode by the cases of `State.detLevel`, whose event leaves it as it is
(`State.KeepsDecision.detEvent`); a waiting record by the room in the FIFO; and the end of a pulse by the one pin it
changes. -/
theorem detectorsAndLevelRecords : Obligations.DetectorsAndLevelRecords := by
  refine ⟨fun s d x rest hd len oldest captured cols settled known level => ?_,
    fun s d r rest hd waits => ⟨fun room => ?_, fun full => ?_⟩, fun s k => ?_⟩
  · have taken := State.takeTap_det rest (len ▸ hd : d < s.lfl.dets.length)
    have restLen := (s.takeTap_length d rest).trans len
    refine ⟨_, exec_detectorDecision s d, ?_⟩
    rw [State.decide_level oldest captured cols settled known level]
    refine ⟨(State.detLevel_inq hd restLen).trans (by rw [taken]), fun unknown => ?_, fun high below complete => ?_,
      fun high above => ?_⟩
    · rw [State.detLevel_unknown (s := s.takeTap d rest) rfl unknown, State.reg_fired_setState]
      exact ⟨State.reg_state_setState _ _ (by split <;> decide), State.reg_fired_setValue _ d _⟩
    · have run : ((s.takeTap d rest).det d).run = (s.det d).run := by rw [taken]
      have prev : ((s.takeTap d rest).det d).prev = (s.det d).prev := by rw [taken]
      rw [State.detLevel_high_below (s := s.takeTap d rest) rfl high below]
      rw [← run, ← prev] at complete
      exact State.runGoesOn_completes hd (by decide) complete
    · rw [State.detLevel_high_above (s := s.takeTap d rest) rfl high above]
      exact ⟨(State.reg_state_setValue _ d _).trans high, State.runEnds_run hd restLen⟩
  · exact ⟨_, exec_levelRecordDequeue s d, congrArg State.fifo (State.dequeueLevel_room waits room),
      State.dequeueLevel_queue waits hd room, Changes.dequeueLevel waits room⟩
  · rw [exec_levelRecordDequeue, State.dequeueLevel_full waits full]
  · refine ⟨_, rfl, fun p pin => ?_, fun j other => getElem?_modAt_ne _ _ other, Changes.setLfl s _⟩
    exact (getElem?_modAt_same _ _ _).trans (congrArg _ pin)

end Sys2Proof.Machine
end

section
/-! PROOFS of `07_pixel_pipeline_and_seams.md`: aligned records, the west seam lines and the wait of a seam. -/

namespace Sys2Proof.Machine

/-! ### Parts replaced -/

theorem Changes.setPip (s : State) (x : Pip) : Changes [.pip] [] s { s with pip := x } :=
  ⟨fun p hp => by cases p with | pip => simp at hp | _ => rfl, RegsSame.of_regs rfl⟩

theorem Changes.setSor (s : State) (x : Sor) : Changes [.sor] [] s { s with sor := x } :=
  ⟨fun p hp => by cases p with | sor => simp at hp | _ => rfl, RegsSame.of_regs rfl⟩

theorem Changes.setFreeCtr (s : State) (n : Nat) : Changes [.freeCtr] [] s { s with freeCtr := n } :=
  ⟨fun p hp => by cases p with | freeCtr => simp at hp | _ => rfl, RegsSame.of_regs rfl⟩

/-! ### What alignment and the classes leave alone -/

/-- The parts in which records are aligned, settled and staged: neither the lines nor the calibrated outputs. -/
def recordParts : List Part := [.regs, .pip, .sor, .twi, .fifo, .fifoLost, .evtSeq, .outbox, .freeCtr]

/-- From `s` to `t` records have been settled or segments closed: the fields `fs` read the same, and alignment has
passed no line. -/
structure State.KeepsAlignment (fs : List Field) (s t : State) : Prop where
  parts : OnlyIn recordParts s t
  regs : ∀ f ∈ fs, t.reg f = s.reg f
  lastLn : t.pip.lastLn = s.pip.lastLn

namespace State.KeepsAlignment

variable {fs : List Field} {s t u : State}

theorem refl (fs : List Field) (s : State) : s.KeepsAlignment fs s := ⟨OnlyIn.refl _ s, fun _ _ => rfl, rfl⟩

theorem trans (h : s.KeepsAlignment fs t) (k : t.KeepsAlignment fs u) : s.KeepsAlignment fs u :=
  ⟨h.parts.trans k.parts, fun f hf => (k.regs f hf).trans (h.regs f hf), k.lastLn.trans h.lastLn⟩

theorem mono {gs : List Field} (h : s.KeepsAlignment fs t) (sub : ∀ f ∈ gs, f ∈ fs) : s.KeepsAlignment gs t :=
  ⟨h.parts, fun f hf => h.regs f (sub f hf), h.lastLn⟩

theorem of_changes {p : List Part} {l : List Field} (h : Changes p l s t) (parts : ∀ x ∈ p, x ∈ recordParts)
    (beside : ∀ f ∈ fs, f.key ∉ l.map Field.key) (lastLn : t.pip.lastLn = s.pip.lastLn) : s.KeepsAlignment fs t :=
  ⟨h.1.mono parts, fun f hf => h.2 f (beside f hf), lastLn⟩

theorem setPip {x : Pip} (lastLn : x.lastLn = s.pip.lastLn := by rfl) : s.KeepsAlignment fs { s with pip := x } :=
  of_changes (Changes.setPip s x) (by decide) (by simp) lastLn

theorem setSor (x : Sor) : s.KeepsAlignment fs { s with sor := x } :=
  of_changes (Changes.setSor s x) (by decide) (by simp) rfl

theorem isRunning (h : s.KeepsAlignment fs t) (listed : F.THY_CTL_RUNNING ∈ fs) : t.isRunning = s.isRunning := by
  rw [State.isRunning, State.flag, h.regs _ listed]; rfl

theorem unaligned (h : s.KeepsAlignment fs t) : t.unaligned = s.unaligned := by
  rw [State.unaligned, State.unaligned, h.lastLn, h.parts .lines (by decide)]

end State.KeepsAlignment

/-- RUNNING, and what the late west lines count in (Table PIP-12). -/
def lateFields : List Field := [F.THY_CTL_RUNNING, F.PIP_SEAM_STAT_LATE, F.PIP_SEAM_STAT_LATE_LINES]

/-- The registers of the streams, and of Sorrel, stand behind them (Table PIP-17). -/
theorem lateFields_ne {f : Field} (behind : 0x81000 ≤ f.off) : ∀ g ∈ lateFields, g.key ≠ f.key := by
  have below : ∀ g ∈ lateFields, g.key < 8 * 0x81000 := by decide
  intro g hg same
  have := below g hg
  have : f.key = f.off * 8 + f.lo := rfl
  omega

/-- From `s` to `t` the class stages have worked inside one segment: no west line has been counted as late, and the
records that wait are the same. -/
structure State.KeepsLate (s t : State) : Prop extends State.KeepsAlignment lateFields s t where
  waiting : t.pip.waiting = s.pip.waiting
  lateSeg : t.pip.lateSeg = s.pip.lateSeg

namespace State.KeepsLate

variable {s t u : State}

theorem refl (s : State) : s.KeepsLate s := ⟨.refl _ s, rfl, rfl⟩

theorem trans (h : s.KeepsLate t) (k : t.KeepsLate u) : s.KeepsLate u :=
  ⟨h.toKeepsAlignment.trans k.toKeepsAlignment, k.waiting.trans h.waiting, k.lateSeg.trans h.lateSeg⟩

theorem ite {c : Prop} [Decidable c] (h : s.KeepsLate t) (k : s.KeepsLate u) : s.KeepsLate (if c then t else u) := by
  split
  · exact h
  · exact k

/-- A loop keeps the counts of late lines where its turns do. -/
theorem foldl {α : Type} {turn : State → α → State} (h : ∀ (u : State) (x : α), u.KeepsLate (turn u x)) (xs : List α)
    (s : State) : s.KeepsLate (xs.foldl turn s) :=
  List.foldlRecOn xs _ (refl s) (fun u hu x _ => hu.trans (h u x))

/-- A loop over the streams that are on. -/
theorem foldl_on {on : Nat → Bool} {turn : State → Nat → State} (h : ∀ (u : State) (k : Nat), u.KeepsLate (turn u k))
    (ks : List Nat) (s : State) :
    s.KeepsLate (ks.foldl (fun s k => if on k then turn s k else s) s) :=
  foldl (fun u k => ite (h u k) (refl u)) ks s

theorem of_changes {p : List Part} {l : List Field} (h : Changes p l s t) (parts : ∀ x ∈ p, x ∈ recordParts)
    (beside : ∀ f ∈ lateFields, f.key ∉ l.map Field.key) (pip : t.pip = s.pip) : s.KeepsLate t :=
  ⟨.of_changes h parts beside (pip ▸ rfl), pip ▸ rfl, pip ▸ rfl⟩

theorem withPip (h : s.KeepsLate t) {x : Pip} (lastLn : x.lastLn = t.pip.lastLn := by rfl)
    (waiting : x.waiting = t.pip.waiting := by rfl) (lateSeg : x.lateSeg = t.pip.lateSeg := by rfl) :
    s.KeepsLate { t with pip := x } := h.trans ⟨.setPip lastLn, waiting, lateSeg⟩

theorem withSor (h : s.KeepsLate t) (x : Sor) : s.KeepsLate { t with sor := x } := h.trans ⟨.setSor x, rfl, rfl⟩

theorem setReg (s : State) {f : Field} (v : Nat) (beside : ∀ g ∈ lateFields, g.key ≠ f.key) :
    s.KeepsLate (s.setReg f v) := of_changes (Changes.setReg s f v) (by decide) (by simpa using beside) rfl

theorem withReg (h : s.KeepsLate t) {f : Field} (v : Nat) (beside : ∀ g ∈ lateFields, g.key ≠ f.key := by decide) :
    s.KeepsLate (t.setReg f v) := h.trans (setReg t v beside)

theorem setFreeCtr (s : State) (n : Nat) : s.KeepsLate { s with freeCtr := n } :=
  of_changes (Changes.setFreeCtr s n) (by decide) (by simp) rfl

theorem logAt (s : State) (code : Nat) (sn : SegNo) (pt : PressTime) (args : List (Nat × Nat)) :
    s.KeepsLate (s.logAt code sn pt args) :=
  of_changes (Changes.logAt s code sn pt args) (by decide) (by decide) (State.logAt_pip s code sn pt args)

theorem logClose (s : State) (code : Nat) (sn : SegNo) (args : List (Nat × Nat)) :
    s.KeepsLate (s.logClose code sn args) :=
  logAt s code sn _ args

theorem withLog (h : s.KeepsLate t) (code : Nat) (args : List (Nat × Nat)) : s.KeepsLate (t.log code args) :=
  h.trans (logAt t code _ _ args)

theorem attend (s : State) (c : Nat) : s.KeepsLate (s.attend c) :=
  of_changes (Changes.attend s c) (by decide) (by decide) (State.attend_pip s c)

theorem setStream (s : State) (k : Nat) (x : Stream) : s.KeepsLate (s.setStream k x) := (refl s).withPip

/-! ### Staging (R244, R247, R248, R311, R348) -/

theorem forceStage (s : State) (k : Nat) (r : Staged) : s.KeepsLate (s.forceStage k r) :=
  ite (refl s) (setStream s k _)

theorem payLinkDrop (s : State) (k : Nat) (d : Dropped) : s.KeepsLate (s.payLinkDrop k d) :=
  ((setStream s k _).trans (forceStage _ k _)).trans (forceStage _ k _)

theorem payBefore (s : State) (k : Nat) : s.KeepsLate (s.payBefore k) := by
  unfold State.payBefore
  split
  · exact payLinkDrop s k _
  · exact refl s

theorem stage (s : State) (c : Cfg) (k : Nat) (bytes : List Byte) (first last : LineNo) (sn : SegNo) :
    s.KeepsLate (s.stage c k bytes first last sn) := by
  unfold State.stage
  extract_lets x
  refine ite (refl s) (ite (setStream s k _) ((payBefore s k).trans ?_))
  exact ite (setStream _ k _) (setStream _ k _)

theorem truncated (s : State) (k : Nat) (sn : SegNo) (first : LineNo) (n : Nat) :
    s.KeepsLate (s.truncated k sn first n) := by
  have behind : 0x81000 ≤ 0x8100C + 0x20 * k := by omega
  refine trans (ite ?_ ?_) (logClose _ _ sn _)
  · exact (setReg s (f := F.PIP_ROI_STAT_TRUNC k) _ (lateFields_ne behind)).trans
      (setReg _ (f := F.PIP_ROI_STAT_TRUNC_SEGS k) _ (lateFields_ne behind))
  · exact ((refl s).withReg _).withReg _

theorem closeSegment (s : State) (k : Nat) (sn : SegNo) (first last : LineNo) (lost : Bool) :
    s.KeepsLate (s.closeSegment k sn first last lost) := by
  unfold State.closeSegment
  dsimp only
  split
  · exact (setStream s k _).trans (forceStage _ k _)
  · exact (((setStream s k _).trans (forceStage _ k _)).trans (forceStage _ k _)).trans (truncated _ k sn _ _)

theorem closeStream (s : State) (k : Nat) (sn : SegNo) (first last : LineNo) (lost : Bool) :
    s.KeepsLate (s.closeStream k sn first last lost) := by
  unfold State.closeStream
  extract_lets x d dropped told
  have tells : s.KeepsLate told := by
    unfold told
    split
    · exact (setStream s k _).trans (truncated _ k sn _ _)
    · exact setStream s k _
  exact ite (refl s) (ite (ite tells (tells.trans (payLinkDrop _ k d)))
    ((payBefore s k).trans (closeSegment _ k sn first last lost)))

theorem gapStream (s : State) (k : Nat) (first last : LineNo) (n : Nat) (sn : SegNo) :
    s.KeepsLate (s.gapStream k first last n sn) := by
  unfold State.gapStream
  extract_lets x paid y
  refine ite (refl s) (ite (setStream s k _) ((payBefore s k).trans ?_))
  split
  · exact setStream _ k _
  · exact forceStage _ k _

/-! ### The classes (R228, R236) -/

theorem roiRecord (s : State) (a : Aligned) (planes : List Plane) (k : Nat) : s.KeepsLate (s.roiRecord a planes k) :=
  ite (stage s _ k _ _ _ _) (stage s _ k _ _ _ _)

theorem colourClass (s : State) (a : Aligned) : s.KeepsLate (s.colourClass a) :=
  ite (foldl_on (fun u k => roiRecord u a _ k) _ s) (refl s)

theorem rowOut (s : State) (r : RowAcc) : s.KeepsLate (s.rowOut r) := by
  unfold State.rowOut
  extract_lets c _ closed _ handed base h slots payload full
  have closes : s.KeepsLate closed := (refl s).withPip
  have hands : s.KeepsLate handed := by
    unfold handed
    exact ite (closes.withSor _) closes
  exact ite (ite (hands.trans (stage _ c 16 _ _ _ _)) (hands.trans (stage _ c 16 _ _ _ _))) hands

theorem rowFlush (s : State) : s.KeepsLate s.rowFlush := by
  unfold State.rowFlush
  split
  · exact rowOut s _
  · exact refl s

theorem slotTakes (s : State) (a : Aligned) (r : RowAcc) (k : Nat) : s.KeepsLate (s.slotTakes a r k).1 := by
  unfold State.slotTakes
  dsimp only
  split
  · exact refl s
  · exact (refl s).withPip

theorem slotsTake (a : Aligned) (ks : List Nat) (x : State × RowAcc) :
    x.1.KeepsLate (ks.foldl (fun (x : State × RowAcc) k => x.1.slotTakes a x.2 k) x).1 :=
  List.foldlRecOn (motive := fun (y : State × RowAcc) => x.1.KeepsLate y.1) ks _ (refl x.1)
    (fun y hy k _ => hy.trans (slotTakes y.1 a y.2 k))

theorem inspectClass (s : State) (a : Aligned) : s.KeepsLate (s.inspectClass a) := by
  unfold State.inspectClass
  extract_lets c
  refine ite ?_ (refl s)
  split
  rename_i y last _
  extract_lets begun r counted
  have begins : s.KeepsLate begun := by
    unfold begun
    split
    · exact ite (refl s) (rowOut s _)
    · exact refl s
  split
  rename_i u v taken
  have takes : s.KeepsLate (u, v).1 := by
    rw [← taken]
    split
    · exact begins.withPip
    · exact begins.trans (slotsTake a _ (begun, _))
  exact ite (takes.trans (rowOut u v)) (takes.withPip)

/-! ### Sorrel learns of the segments (R256, R273) -/

theorem regForget (s : State) (p : Nat → Bool) : s.KeepsLate (s.regForget p) := by
  have behind (w q : Nat) : 0x81000 ≤ 0xA0400 + 0x10 * w + 0x4 * q := by omega
  have forgets (u : State) (w q : Nat) :
      u.KeepsLate ((u.setReg (F.SOR_REG_SM_SX w q) 0x8000).setReg (F.SOR_REG_SM_SY w q) 0x8000) :=
    (setReg u _ (lateFields_ne (behind w q))).trans (setReg _ _ (lateFields_ne (behind w q)))
  exact foldl_on (fun u w => foldl (fun v q => forgets v w q) _ u) _ s

theorem regOpens (s : State) (c : Cfg) (fresh : Bool) : s.KeepsLate (s.regOpens c fresh) :=
  (regForget s _).withSor _

theorem sorSkips (s : State) (sn : SegNo) : s.KeepsLate (s.sorSkips sn) :=
  ite (((refl s).withSor _).withReg _) ((refl s).withSor _)

theorem sorOpens (s : State) (c : Cfg) (fresh : Bool) : s.KeepsLate (s.sorOpens c fresh) :=
  ite (regOpens s c fresh) ((refl s).withSor _)

/-! ### Lost lines (R311) -/

theorem gapOut (s : State) (c : Cfg) (first last : LineNo) (sn : SegNo) : s.KeepsLate (s.gapOut c first last sn) :=
  ((rowFlush s).trans (setFreeCtr _ _)).trans (foldl_on (fun u k => gapStream u k first last _ sn) _ _)

theorem lostEnd (s : State) (i : LineInfo) (sn : SegNo) : s.KeepsLate (s.lostEnd i sn).2 := setFreeCtr s _

theorem gapAfterStop (s : State) (i : LineInfo) (a b : LineNo) (sn : SegNo) :
    s.KeepsLate (s.gapAfterStop i a b sn) :=
  (gapOut s i.cfg a b sn).trans (ite (refl _) (((setFreeCtr _ _).trans (lostEnd _ i sn)).trans
    (foldl_on (fun u k => closeStream u k sn _ _ true) _ _)))

/-! ### Records and their seams (R218, R225, R238, R258) -/

theorem recordOut (s : State) (a : Aligned) : s.KeepsLate (s.recordOut a) := by
  unfold State.recordOut
  extract_lets subst _ counted out
  have counts : s.KeepsLate counted :=
    ite (((refl s).withPip).withReg _) (refl s)
  exact ((counts.trans (colourClass counted a)).trans (inspectClass _ a)).withPip

theorem blend (s : State) (a : Aligned) (c : Cfg) (loc : Option SeamLocal) (west : Option WestLine) :
    s.KeepsLate (s.blend a c loc west).2 := by
  unfold State.blend
  dsimp only
  split
  · exact setFreeCtr s _
  · exact refl s

theorem tnrRestart (s : State) (i : LineInfo) : s.KeepsLate (s.tnrRestart i) := (refl s).withPip

theorem releaseSeam (s : State) (a : Aligned) : s.KeepsLate (s.releaseSeam a) := (refl s).withPip

theorem logMismatch (s : State) (width ovl : Nat) (sn : SegNo) : s.KeepsLate (s.logMismatch width ovl sn) :=
  ite (refl s) (((refl s).withPip).withLog _ _)

theorem assertAlarm (s : State) (src : Nat) (sn : SegNo) (ln : LineNo) : s.KeepsLate (s.assertAlarm src sn ln) :=
  (((((refl s).withSor _).withReg _).withReg _).trans (attend _ 0)).withLog _ _

end State.KeepsLate

/-! ### The end of a segment (R226, R244, R491) -/

/-- From `s` to `t` a segment has closed: what it had of late lines is told, and the next one has none yet. -/
structure State.Closes (s t : State) : Prop extends State.KeepsAlignment lateFields s t where
  waiting : t.pip.waiting = s.pip.waiting
  lateSeg : t.pip.lateSeg = 0

theorem State.Closes.trans {s t u : State} (h : s.Closes t) (k : t.KeepsLate u) : s.Closes u :=
  ⟨h.toKeepsAlignment.trans k.toKeepsAlignment, k.waiting.trans h.waiting, k.lateSeg.trans h.lateSeg⟩

theorem State.KeepsLate.closes {s t u : State} (h : s.KeepsLate t) (k : t.Closes u) : s.Closes u :=
  ⟨h.toKeepsAlignment.trans k.toKeepsAlignment, k.waiting.trans h.waiting, k.lateSeg⟩

theorem State.pipClose_closes (s : State) (sn : SegNo) (first last : LineNo) (c : Cfg) (lost : Bool)
    (next : Option Cfg) : s.Closes (s.pipClose sn first last c lost next) := by
  unfold State.pipClose
  extract_lets flushed closed _ substs _ told _ handed
  have closes : s.KeepsLate closed :=
    (KeepsLate.rowFlush s).trans (.foldl_on (fun u k => .closeStream u k sn first last lost) _ _)
  have counts : s.KeepsLate substs :=
    closes.trans (.ite (.refl _) ((KeepsLate.refl closed).withPip.trans (.logClose _ _ sn _)))
  have tells : s.Closes told := by
    unfold told
    split
    · next none => exact counts.closes ⟨.refl _ _, rfl, none⟩
    · exact (counts.closes (t := substs) (u := { substs with pip := { substs.pip with lateSeg := 0 } })
        ⟨.setPip rfl, rfl, rfl⟩).trans (.logClose _ _ sn _)
  have hands : s.Closes handed := by
    unfold handed
    split
    · exact tells.trans ((KeepsLate.refl told).withSor _)
    · split
      · exact (tells.trans (.sorSkips told sn)).trans (.sorOpens _ _ false)
      · exact tells.trans (.sorSkips told sn)
  exact hands.trans (KeepsLate.refl _).withPip

theorem State.pipClose_seg (s : State) (sn : SegNo) (first last : LineNo) (c : Cfg) (lost : Bool)
    (next : Option Cfg) : (s.pipClose sn first last c lost next).pip.seg = none := rfl

/-- From `s` to `t` the segment of line `i` has become the open one: where another one was open, it has closed. -/
structure State.Opens (i : LineInfo) (s t : State) : Prop extends State.KeepsAlignment lateFields s t where
  lateSeg : ∀ sn first c, s.pip.seg = some (sn, first, c) → t.pip.lateSeg = if i.sn = sn then s.pip.lateSeg else 0

theorem State.Opens.of_seg {i : LineInfo} {s t : State} {sn : SegNo} {first : LineNo} {c : Cfg}
    (seg : s.pip.seg = some (sn, first, c)) (same : i.sn = sn → s.KeepsLate t) (other : i.sn ≠ sn → s.Closes t) :
    s.Opens i t := by
  by_cases e : i.sn = sn
  · exact ⟨(same e).toKeepsAlignment, fun _ _ _ h => by cases seg.symm.trans h; rw [if_pos e, (same e).lateSeg]⟩
  · exact ⟨(other e).toKeepsAlignment, fun _ _ _ h => by cases seg.symm.trans h; rw [if_neg e, (other e).lateSeg]⟩

theorem State.Opens.of_none {i : LineInfo} {s t : State} (seg : s.pip.seg = none) (h : s.KeepsLate t) : s.Opens i t :=
  ⟨h.toKeepsAlignment, fun _ _ _ open_ => by cases seg.symm.trans open_⟩

theorem State.Opens.trans {i : LineInfo} {s t u : State} (h : s.Opens i t) (k : t.KeepsLate u) : s.Opens i u :=
  ⟨h.toKeepsAlignment.trans k.toKeepsAlignment, fun sn first c seg => k.lateSeg.trans (h.lateSeg sn first c seg)⟩

theorem State.pipSegment_opens (s : State) (i : LineInfo) : s.Opens i (s.pipSegment i) := by
  unfold State.pipSegment
  extract_lets ended opened
  have ends : s.Opens i ended := by
    unfold ended
    cases seg : s.pip.seg with
    | none =>
      refine .of_none seg ?_
      cases i.gap with
      | none => exact .refl s
      | some lost => exact .gapAfterStop s i _ _ _
    | some open_ =>
      obtain ⟨sn, first, c⟩ := open_
      cases i.gap with
      | none =>
        refine .of_seg seg (fun same => ?_) (fun other => ?_)
        · simpa [same] using KeepsLate.refl s
        · simpa [other] using pipClose_closes s sn first (i.segFirst - 1) c false (some i.cfg)
      | some lost =>
        obtain ⟨a, b, snG⟩ := lost
        have gap := KeepsLate.gapOut s c a b snG
        refine .of_seg seg (fun same => ?_) (fun other => ?_)
        · simpa [same] using gap
        · simpa [other] using
            (gap.trans (.lostEnd _ i sn)).closes (pipClose_closes _ sn first _ c true (some i.cfg))
  split
  · exact ends
  · exact ends.trans (KeepsLate.ite (.sorOpens ended i.cfg true) (.refl ended)).withPip

theorem State.pipSegment_same {s : State} {i : LineInfo} {first : LineNo} {c : Cfg}
    (seg : s.pip.seg = some (i.sn, first, c)) (gap : i.gap = none) : s.pipSegment i = s := by
  simp [State.pipSegment, seg, gap]

theorem State.lineEnters_opens (s : State) (i : LineInfo) : s.Opens i (s.lineEnters i) := by
  have restart := KeepsLate.tnrRestart s i
  have opens := (s.tnrRestart i).pipSegment_opens i
  exact ⟨restart.toKeepsAlignment.trans opens.toKeepsAlignment, fun sn first c seg => opens.lateSeg sn first c seg⟩

/-! ### A record leaves (R223 to R227) -/

@[simp] theorem State.recordOut_lastOut (s : State) (a : Aligned) : (s.recordOut a).pip.lastOut = some a.info.ln := rfl

@[simp] theorem State.releaseSeam_lastOut (s : State) (a : Aligned) :
    (s.releaseSeam a).pip.lastOut = s.pip.lastOut := rfl

/-- A record or a mark that waits for no west line. -/
def Aligned.seamless (a : Aligned) : Bool := a.mark || a.placeholder || a.info.cfg.get F.PIP_SEAM_OVL_W == 0

theorem State.seamReady_seamless {a : Aligned} (s : State) (h : a.seamless = true) : s.seamReady a = some none := by
  unfold State.seamReady
  exact if_pos h

/-- A record that leaves without its west line is counted (R226). -/
def State.countLate (s : State) : State :=
  ({ s with pip := { s.pip with lateSeg := s.pip.lateSeg + 1 } }.setFlag F.PIP_SEAM_STAT_LATE true).addReg
    F.PIP_SEAM_STAT_LATE_LINES 1

theorem State.countLate_late (s : State) : s.countLate.reg F.PIP_SEAM_STAT_LATE = 1 := by
  unfold State.countLate State.addReg
  rw [State.reg_setReg_ne _ _ (by decide)]
  exact State.reg_setReg_same _ _ _

theorem State.countLate_lines (s : State) :
    s.countLate.reg F.PIP_SEAM_STAT_LATE_LINES = (s.reg F.PIP_SEAM_STAT_LATE_LINES + 1) % 2 ^ 16 := by
  unfold State.countLate State.addReg State.setFlag
  rw [State.reg_setReg_same, State.reg_setReg_ne _ _ (by decide)]
  rfl

theorem State.countLate_lateSeg (s : State) : s.countLate.pip.lateSeg = s.pip.lateSeg + 1 := rfl

theorem State.KeepsAlignment.countLate (s : State) : s.KeepsAlignment [F.THY_CTL_RUNNING] s.countLate :=
  ((setPip (x := { s.pip with lateSeg := s.pip.lateSeg + 1 }) rfl).trans
    (.of_changes (Changes.setFlag _ F.PIP_SEAM_STAT_LATE true) (by decide) (by decide) rfl)).trans
    (.of_changes (Changes.addReg _ F.PIP_SEAM_STAT_LATE_LINES 1) (by decide) (by decide) rfl)

/-- A record leaves for the classes as `b`, with its seam settled, and releases the buffered lines. -/
theorem State.KeepsLate.leaves (s : State) (a b : Aligned) : s.KeepsLate ((s.recordOut b).releaseSeam a) :=
  (KeepsLate.recordOut s b).trans (.releaseSeam _ a)

theorem State.settle_mark {a : Aligned} (s : State) (w : Option WestLine) (h : a.mark = true) :
    s.settle a w = s.lineEnters a.info := by
  simp [State.settle, h]

theorem State.settle_unseamed {a : Aligned} (s : State) (w : Option WestLine) (mark : a.mark = false)
    (h : a.placeholder = true ∨ a.info.cfg.get F.PIP_SEAM_OVL_W = 0) :
    s.settle a w = ((s.lineEnters a.info).recordOut a).releaseSeam a := by
  simp [State.settle, mark, h]

/-- A record with a seam enters its segment, is counted where its west line is missing, and leaves. -/
theorem State.settle_seamed {a : Aligned} (s : State) (w : Option WestLine) (h : a.seamless = false) :
    ∃ u b, (if w.isNone then (s.lineEnters a.info).countLate else s.lineEnters a.info).KeepsLate u ∧
      b.info = a.info ∧ s.settle a w = (u.recordOut b).releaseSeam a := by
  simp only [Aligned.seamless, Bool.or_eq_false_iff] at h
  obtain ⟨⟨mark, placeholder⟩, width⟩ := h
  generalize leaves : s.settle a w = t
  unfold State.settle at leaves
  extract_lets c entered late _ counted loc bad logged west at leaves
  rw [if_neg (by simp [mark]), if_neg (by simpa [placeholder] using width)] at leaves
  have logs : counted.KeepsLate logged := by
    unfold logged
    generalize bad = other
    cases other with
    | none => exact .refl counted
    | some x => exact .logMismatch counted _ _ _
  clear_value logged
  split at leaves
  rename_i b u blended
  refine ⟨u, b, ?_, (congrArg (fun x => x.1.info) blended).symm, leaves.symm⟩
  have blends := KeepsLate.blend logged { a with seamDropped := (w.map (fun x => x.dropped)).getD false }
    (logged.seamCfg a) loc west
  rw [blended] at blends
  exact logs.trans blends

theorem State.KeepsAlignment.settle (s : State) (a : Aligned) (w : Option WestLine) :
    s.KeepsAlignment [F.THY_CTL_RUNNING] (s.settle a w) := by
  have enters := ((s.lineEnters_opens a.info).toKeepsAlignment).mono (gs := [F.THY_CTL_RUNNING]) (by decide)
  have leaves (u : State) (b : Aligned) : u.KeepsAlignment [F.THY_CTL_RUNNING] ((u.recordOut b).releaseSeam a) :=
    (KeepsLate.leaves u a b).mono (by decide)
  cases mark : a.mark with
  | true => exact s.settle_mark w mark ▸ enters
  | false =>
    by_cases seam : a.placeholder = true ∨ a.info.cfg.get F.PIP_SEAM_OVL_W = 0
    · exact s.settle_unseamed w mark seam ▸ enters.trans (leaves _ a)
    · obtain ⟨u, b, counts, -, out⟩ := s.settle_seamed w (a := a) (by simpa [Aligned.seamless, mark] using seam)
      have counted := counts.toKeepsAlignment.mono (gs := [F.THY_CTL_RUNNING]) (by decide)
      rw [out]
      refine (KeepsAlignment.trans ?_ counted).trans (leaves u b)
      split
      · exact enters.trans (.countLate _)
      · exact enters

theorem State.settle_lastOut {a : Aligned} (s : State) (w : Option WestLine) (h : a.mark = false) :
    (s.settle a w).pip.lastOut = some a.info.ln := by
  by_cases seam : a.placeholder = true ∨ a.info.cfg.get F.PIP_SEAM_OVL_W = 0
  · simp [s.settle_unseamed w h seam]
  · obtain ⟨u, b, -, info, out⟩ := s.settle_seamed w (a := a) (by simpa [Aligned.seamless, h] using seam)
    simp [out, info]

/-! ### The records at the front of the wait -/

theorem State.KeepsAlignment.flushSeams (l : List Aligned) (s : State) :
    s.KeepsAlignment [F.THY_CTL_RUNNING] (State.flushSeams l s) := by
  induction l generalizing s with
  | nil => exact .setPip rfl
  | cons a r ih =>
    unfold State.flushSeams
    split
    · exact (KeepsAlignment.settle s a _).trans (ih _)
    · exact .setPip rfl

theorem State.KeepsAlignment.flushWaiting (s : State) : s.KeepsAlignment [F.THY_CTL_RUNNING] s.flushWaiting :=
  flushSeams _ s

/-- Where no record of the wait has a seam, all of them leave. -/
theorem State.flushSeams_seamless {l : List Aligned} (h : ∀ a ∈ l, a.seamless = true) (s : State) :
    State.flushSeams l s = let t := l.foldl (fun t a => t.settle a none) s
      { t with pip := { t.pip with waiting := [] } } := by
  induction l generalizing s with
  | nil => rfl
  | cons a r ih =>
    rw [State.flushSeams, s.seamReady_seamless (h a (by simp))]
    exact ih (fun b hb => h b (by simp [hb])) _

theorem State.flushWaiting_nil {s : State} (h : s.pip.waiting = []) : s.flushWaiting = s := by
  rw [State.flushWaiting, h, State.flushSeams, ← h]

/-- Record `a`, the only one that waits, has left. -/
def State.left (s : State) (a : Aligned) (w : Option WestLine) : State :=
  { s.settle a w with pip := { (s.settle a w).pip with waiting := [] } }

theorem State.KeepsAlignment.left (s : State) (a : Aligned) (w : Option WestLine) :
    s.KeepsAlignment [F.THY_CTL_RUNNING] (s.left a w) := (KeepsAlignment.settle s a w).trans .setPip

theorem State.flushWaiting_single {s : State} {a : Aligned} {w : Option WestLine} (h : s.pip.waiting = [a])
    (ready : s.seamReady a = some w) : s.flushWaiting = s.left a w := by
  rw [State.flushWaiting, h, State.flushSeams, ready]
  rfl

theorem State.pipDrained_running {s : State} (h : s.isRunning = true) : s.pipDrained = s := by
  simp [State.pipDrained, h]

/-! ### The next line is aligned (R215, R217, R219, R418) -/

theorem State.takeOutputs_unaligned (s : State) : s.takeOutputs.unaligned = s.unaligned := rfl

theorem State.takeOutputs_groupReady (s : State) (g : Nat) (r : LineNo) :
    s.takeOutputs.groupReady g r = s.groupReady g r := rfl

theorem Changes.takeOutputs (s : State) : Changes [.cal, .pip] [] s s.takeOutputs :=
  ⟨fun p hp => by cases p with | cal => simp at hp | pip => simp at hp | _ => rfl, RegsSame.of_regs rfl⟩

/-- Every enabled group has handled a launched line. -/
def State.lineReady (s : State) (i : LineInfo) : Prop :=
  i.launched = true → ∀ g ∈ i.cfg.enabledGroups, s.groupReady g i.ln = true

theorem State.lineReady.guard {s : State} {i : LineInfo} (h : s.lineReady i) :
    (i.launched && !i.cfg.enabledGroups.all (fun g => s.groupReady g i.ln)) = false := by
  cases launched : i.launched with
  | false => rfl
  | true => simpa using h launched

/-- Alignment has passed line `i`. -/
def State.passed (s : State) (i : LineInfo) : State :=
  { s with pip := { s.pip with lastLn := some i.ln }, lines := trimLedger s.lines i.ln }

theorem State.passed_drained {s : State} (i : LineInfo) (h : s.isRunning = true) :
    (s.passed i).pipDrained = s.passed i := State.pipDrained_running h

theorem State.KeepsAlignment.passMarks (s : State) (i : LineInfo) :
    s.KeepsAlignment [F.THY_CTL_RUNNING] (s.passMarks i) := by
  unfold State.passMarks
  extract_lets old marks
  exact trans setPip (.flushWaiting _)

section

variable {s : State} {i : LineInfo}
  (next : s.unaligned.find? (fun i => Cfg.recordAt i.cfg i.ln) = some i)
include next

theorem State.align_waits (launched : i.launched = true)
    (missing : ∃ g ∈ i.cfg.enabledGroups, s.groupReady g i.ln = false) :
    s.align = if s.dma.hub then s else s.takeOutputs := by
  have waits : i.cfg.enabledGroups.all (fun g => s.groupReady g i.ln) = false := by simpa using missing
  unfold State.align
  cases s.dma.hub with
  | true => simp [next, launched, waits]
  | false => simp [State.takeOutputs_unaligned, State.takeOutputs_groupReady, next, launched, waits]

theorem State.align_gated (ready : s.lineReady i) (hub : s.dma.hub = true) :
    s.align = (((s.passMarks i).loseRecord i).passed i).pipDrained := by
  have still : (s.passMarks i).dma.hub = true := by rw [(KeepsAlignment.passMarks s i).parts .dma (by decide), hub]
  unfold State.align
  simp only [hub, if_true, next, ready.guard, still]
  rfl
theorem State.align_forms (ready : s.lineReady i) (hub : s.dma.hub = false) :
    s.align = (((s.takeOutputs.passMarks i).formRecord i).passed i).pipDrained := by
  have still : (s.takeOutputs.passMarks i).dma.hub = false := by
    rw [(KeepsAlignment.passMarks s.takeOutputs i).parts .dma (by decide)]
    exact hub
  unfold State.align
  simp only [hub, Bool.false_eq_true, if_false, State.takeOutputs_unaligned, State.takeOutputs_groupReady, next,
    ready.guard, still]
  rfl

end

theorem State.passMarks_waiting {s : State} {i : LineInfo} (h : s.pip.waiting = []) :
    (s.passMarks i).pip.waiting = [] := by
  unfold State.passMarks
  extract_lets old marks
  have seamless : ∀ a ∈ marks, a.seamless = true := by
    intro a ha
    obtain ⟨j, -, rfl⟩ := List.mem_map.1 ha
    rfl
  rw [State.flushWaiting, State.flushSeams_seamless (by simpa [h] using seamless)]

theorem State.passMarks_first {s : State} {i : LineInfo} (waits : s.pip.waiting = [])
    (first : ∀ j ∈ s.unaligned, ¬ signedDiff j.ln i.ln < 0) : s.passMarks i = s := by
  have none : s.unaligned.filter (fun j => decide (signedDiff j.ln i.ln < 0)) = [] := by simpa using first
  unfold State.passMarks
  rw [none]
  exact (State.flushWaiting_nil (by simp [waits])).trans (by rw [List.filter_nil, List.map_nil, List.append_nil])

/-- From `s` to `t` the pipeline is as it was, but for the test of a row's reference (R258). -/
structure State.KeepsPip (s t : State) : Prop extends State.KeepsAlignment lateFields s t where
  pip : t.pip = { s.pip with refRow := t.pip.refRow }

namespace State.KeepsPip

variable {s t u : State}

theorem of_same (h : s.KeepsAlignment lateFields t) (pip : t.pip = s.pip) : s.KeepsPip t := ⟨h, by rw [pip]⟩

theorem refl (s : State) : s.KeepsPip s := of_same (.refl _ s) rfl

theorem trans (h : s.KeepsPip t) (k : t.KeepsPip u) : s.KeepsPip u :=
  ⟨h.toKeepsAlignment.trans k.toKeepsAlignment, by rw [k.pip, h.pip]⟩

theorem ite {c : Prop} [Decidable c] (h : s.KeepsPip t) (k : s.KeepsPip u) : s.KeepsPip (if c then t else u) := by
  split
  · exact h
  · exact k

theorem testReference (s : State) (i : LineInfo) (nth : Nat) : s.KeepsPip (s.testReference i nth).2 := by
  have tested (y : Nat) : s.KeepsPip (State.testReference.tested s i y).2 := by
    unfold State.testReference.tested
    extract_lets miss _ noted flagged
    have notes : s.KeepsPip noted := ⟨.setPip, rfl⟩
    have flags : s.KeepsPip flagged := notes.trans (of_same (KeepsLate.setReg noted _ (by decide)).toKeepsAlignment rfl)
    have alarms : flagged.KeepsPip (flagged.assertAlarm 3 i.sn i.ln) :=
      of_same (KeepsLate.assertAlarm flagged 3 i.sn i.ln).toKeepsAlignment (by simp [State.assertAlarm])
    split
    · exact flags.trans (ite alarms (refl flagged))
    · exact notes
  unfold State.testReference
  dsimp only
  split
  · split
    · split
      · exact refl s
      · exact tested _
    · exact tested _
  · exact refl s

theorem sendSeam (s : State) (a : Aligned) : s.KeepsPip (s.sendSeam a) := by
  have emit (u : State) (e : Emission) : u.KeepsPip (u.emit e) :=
    of_same (.of_changes (Changes.emit u e) (by decide) (by simp) rfl) rfl
  have send (k : Packet) : s.KeepsPip (s.sendPacket 1 k) :=
    ite (ite (emit s _) ((emit s _).trans (emit _ _))) (refl s)
  exact ite (refl s) (ite (send _) (send _))

end State.KeepsPip

/-- From `s` to `t` record `a` of line `i` has been formed and has joined the wait; a line not launched gives a
placeholder (R219). -/
structure State.Forms (s : State) (i : LineInfo) (t : State) (a : Aligned) : Prop
    extends State.KeepsAlignment lateFields s t where
  streams : t.pip.streams = s.pip.streams
  seg : t.pip.seg = s.pip.seg
  waiting : t.pip.waiting = s.pip.waiting ++ [a]
  info : a.info = i
  mark : a.mark = false
  blank : i.launched = false → a.placeholder = true ∧ a.planes = []

theorem State.formRecord_forms (s : State) (i : LineInfo) :
    ∃ t a, s.Forms i t a ∧ s.formRecord i = t.flushWaiting := by
  generalize formed : s.formRecord i = f
  unfold State.formRecord at formed
  extract_lets c nth placeholder at formed
  split at formed
  rename_i noRef tested reference
  extract_lets planes free neg a sent l at formed
  have tests : s.KeepsPip tested := by simpa [reference] using KeepsPip.testReference s i nth
  have frees : s.KeepsPip free :=
    tests.trans (.ite (.of_same (KeepsLate.setFreeCtr tested _).toKeepsAlignment rfl) (.refl tested))
  have negs : s.KeepsPip neg :=
    frees.trans (.ite (.of_same (KeepsLate.setReg free _ (by decide)).toKeepsAlignment rfl) (.refl free))
  have sends : s.KeepsPip sent := negs.trans (.sendSeam neg a)
  have streams : sent.pip.streams = s.pip.streams := by rw [sends.pip]
  have seg : sent.pip.seg = s.pip.seg := by rw [sends.pip]
  have waiting : sent.pip.waiting = s.pip.waiting := by rw [sends.pip]
  refine ⟨_, a, ?_, formed.symm⟩
  refine ⟨sends.toKeepsAlignment.trans .setPip, streams, seg, congrArg (· ++ [a]) waiting, rfl, rfl, fun missed => ?_⟩
  simp [a, planes, placeholder, missed]

theorem State.KeepsAlignment.formRecord (s : State) (i : LineInfo) :
    s.KeepsAlignment [F.THY_CTL_RUNNING] (s.formRecord i) := by
  obtain ⟨t, a, forms, eq⟩ := s.formRecord_forms i
  rw [eq]
  exact (forms.toKeepsAlignment.mono (by decide)).trans (.flushWaiting t)

/-- With no seam and nothing waiting, the record of a line leaves at once. -/
theorem State.formRecord_leaves {s : State} {i : LineInfo} (waits : s.pip.waiting = [])
    (width : i.cfg.get F.PIP_SEAM_OVL_W = 0) : ∃ t a, s.Forms i t a ∧ s.formRecord i = t.left a none := by
  obtain ⟨t, a, forms, eq⟩ := s.formRecord_forms i
  have seamless : a.seamless = true := by simp [Aligned.seamless, forms.info, width]
  exact ⟨t, a, forms, eq.trans (State.flushWaiting_single (by rw [forms.waiting, waits]; rfl)
    (t.seamReady_seamless seamless))⟩

/-- A line that falls into a gate of PLL-H or PLL-B (R418). -/
theorem State.loseRecord_loses (s : State) (i : LineInfo) :
    OnlyIn (.cal :: recordParts) s (s.loseRecord i) ∧ (s.loseRecord i).isRunning = s.isRunning ∧
      ∀ l ∈ (s.loseRecord i).cal.out, ∀ o ∈ l, 0 < signedDiff o.ln i.ln := by
  unfold State.loseRecord
  generalize lost : ({ s with cal := _, pip := _ } : State) = t
  have keeps := KeepsAlignment.flushWaiting t
  refine ⟨OnlyIn.trans ?_ (keeps.parts.mono (by decide)), ?_, ?_⟩
  · subst lost
    exact fun p hp => by cases p with | cal => simp at hp | pip => simp [recordParts] at hp | _ => rfl
  · rw [keeps.isRunning (by decide)]
    subst lost
    rfl
  · rw [keeps.parts .cal (by decide)]
    subst lost
    intro l hl o ho
    obtain ⟨x, -, rfl⟩ := List.mem_map.1 hl
    simpa using (List.mem_filter.1 ho).2

/-! ### A placeholder in the staging of one stream (R219, R228, R241, R247) -/

/-- From `s` to `t` stream `k` has stayed as it was, and the link too. -/
structure State.KeepsStream (k : Nat) (s t : State) : Prop where
  stream : t.stream k = s.stream k
  length : t.pip.streams.length = s.pip.streams.length
  dma : t.dma = s.dma

namespace State.KeepsStream

variable {k : Nat} {s t u : State}

theorem refl (k : Nat) (s : State) : s.KeepsStream k s := ⟨rfl, rfl, rfl⟩

theorem trans (h : s.KeepsStream k t) (g : t.KeepsStream k u) : s.KeepsStream k u :=
  ⟨g.stream.trans h.stream, g.length.trans h.length, g.dma.trans h.dma⟩

theorem ite {c : Prop} [Decidable c] (h : s.KeepsStream k t) (g : s.KeepsStream k u) :
    s.KeepsStream k (if c then t else u) := by
  split
  · exact h
  · exact g

theorem setStream {j : Nat} (other : k ≠ j) (s : State) (x : Stream) : s.KeepsStream k (s.setStream j x) :=
  ⟨State.stream_setStream_ne other, State.setStream_length s j x, rfl⟩

theorem stage {j : Nat} (other : k ≠ j) (s : State) (c : Cfg) (bytes : List Byte) (first last : LineNo) (sn : SegNo) :
    s.KeepsStream k (s.stage c j bytes first last sn) := by
  have forced (u : State) (r : Staged) : u.KeepsStream k (u.forceStage j r) := ite (refl k u) (setStream other u _)
  have paid : s.KeepsStream k (s.payBefore j) := by
    unfold State.payBefore
    split
    · exact ((setStream other s _).trans (forced _ _)).trans (forced _ _)
    · exact refl k s
  unfold State.stage
  extract_lets x
  exact ite (refl k s) (ite (setStream other s _) (paid.trans (ite (setStream other _ _) (setStream other _ _))))

theorem roiRecord {j : Nat} (other : k ≠ j) (s : State) (a : Aligned) (planes : List Plane) :
    s.KeepsStream k (s.roiRecord a planes j) :=
  ite (stage other s _ _ _ _ _) (stage other s _ _ _ _ _)

/-- The record in the regions of interest `js`, of which `k` is none. -/
theorem roiRecords {js : List Nat} (other : k ∉ js) (s : State) (a : Aligned) (planes : List Plane) :
    s.KeepsStream k
      (js.foldl (fun s j => if a.info.cfg.streamOn j then s.roiRecord a planes j else s) s) :=
  List.foldlRecOn js _ (refl k s) (fun u hu _ hj =>
    hu.trans (ite (roiRecord (ne_of_mem_of_not_mem hj other).symm u a planes) (refl k u)))

end State.KeepsStream

/-- A record that has room enters the staging (R247). -/
theorem State.stage_room {s : State} {c : Cfg} {k : Nat} {bytes : List Byte} {sn : SegNo} (first last : LineNo)
    (on : (s.stream k).off sn = false) (link : (s.stream k).linkDrop = none) (lost : s.dma.lost = false)
    (dropping : (s.stream k).dropping = none)
    (room : (s.stream k).used + bytes.length + (c.staging k).2 ≤ (c.staging k).1) :
    s.stage c k bytes first last sn = s.setStream k { s.stream k with
      recs := (s.stream k).recs ++ [⟨bytes, first, last, sn, 1, 1, 0⟩], written := (s.stream k).written + 1 } := by
  have full : ¬ (c.staging k).1 < (s.stream k).used + bytes.length + (c.staging k).2 := by omega
  simp [State.stage, State.owes, State.payBefore, on, link, lost, dropping, full]

theorem leBytes_length (n v : Nat) : (leBytes n v).length = n := by
  induction n generalizing v with
  | zero => rfl
  | succ n ih => simp [leBytes, ih]

theorem RecHeader.bytes_length (h : RecHeader) : h.bytes.length = 64 := by
  unfold RecHeader.bytes
  simp only [List.length_append, leBytes_length]

theorem RecHeader.bytes_take_two (h : RecHeader) : h.bytes.take 2 = leBytes 1 h.rtype ++ leBytes 1 1 := by
  unfold RecHeader.bytes
  simp only [List.append_assoc]
  rw [← List.append_assoc]
  exact List.take_left' (by simp only [List.length_append, leBytes_length])

/-- Record `r` is the placeholder of line `i`, and the only record that stream `k` has received from `s` to `t`. -/
structure State.GetsPlaceholder (k : Nat) (i : LineInfo) (s t : State) (r : Staged) : Prop where
  recs : (t.stream k).recs = (s.stream k).recs ++ [r]
  written : (t.stream k).written = (s.stream k).written + 1
  length : r.bytes.length = 64
  kind : r.bytes.take 2 = [1, 1]
  first : r.lnFirst = i.ln
  last : r.lnLast = i.ln
  sn : r.sn = i.sn

/-- Stream `k` takes a placeholder of line `i`: it is on, nothing is being dropped, and it has room (R247, R248). -/
structure State.HasRoom (k : Nat) (i : LineInfo) (s : State) : Prop where
  roi : k < 16
  streams : s.pip.streams.length = 18
  enabled : i.cfg.streamOn k = true
  on : (s.stream k).off i.sn = false
  link : (s.stream k).linkDrop = none
  lost : s.dma.lost = false
  dropping : (s.stream k).dropping = none
  room : (s.stream k).used + 64 + 128 ≤ 1024 * i.cfg.get (F.PIP_ROI_STG_STG_KIB k)

theorem State.HasRoom.of_keeps {k : Nat} {i : LineInfo} {s t : State} (h : s.HasRoom k i) (g : s.KeepsStream k t) :
    t.HasRoom k i := by
  obtain ⟨stream, length, dma⟩ := g
  exact ⟨h.roi, length ▸ h.streams, h.enabled, stream ▸ h.on, stream ▸ h.link, dma ▸ h.lost, stream ▸ h.dropping,
    stream ▸ h.room⟩

theorem State.GetsPlaceholder.of_keeps {k : Nat} {i : LineInfo} {s t u v : State} {r : Staged}
    (h : t.GetsPlaceholder k i u r) (before : s.KeepsStream k t) (after : u.KeepsStream k v) :
    s.GetsPlaceholder k i v r :=
  ⟨by rw [after.stream, h.recs, before.stream], by rw [after.stream, h.written, before.stream], h.length, h.kind,
    h.first, h.last, h.sn⟩

theorem State.roiRecord_placeholder {k : Nat} {a : Aligned} {s : State} (planes : List Plane)
    (blank : a.placeholder = true) (h : s.HasRoom k a.info) :
    ∃ r, s.GetsPlaceholder k a.info (s.roiRecord a planes k) r := by
  have staging : a.info.cfg.staging k = (1024 * a.info.cfg.get (F.PIP_ROI_STG_STG_KIB k), 128) := if_pos h.roi
  have reads (x : Stream) : (s.setStream k x).stream k = x :=
    State.stream_setStream_same (by have := h.roi; have := h.streams; omega)
  unfold State.roiRecord
  extract_lets c base header
  rw [if_pos blank, State.stage_room _ _ h.on h.link h.lost h.dropping
    (by rw [staging, RecHeader.bytes_length]; exact h.room)]
  exact ⟨_, congrArg Stream.recs (reads _), congrArg Stream.written (reads _), header.bytes_length,
    header.bytes_take_two, rfl, rfl, rfl⟩

theorem State.colourClass_placeholder {k : Nat} {a : Aligned} {s : State}
    (colour : a.info.cfg.get F.PIP_CTL_COLOUR_EN = 1) (blank : a.placeholder = true) (h : s.HasRoom k a.info) :
    ∃ r, s.GetsPlaceholder k a.info (s.colourClass a) r := by
  obtain ⟨before, after, split, fresh, rest⟩ :
      ∃ before after, List.range 16 = before ++ k :: after ∧ k ∉ before ∧ k ∉ after := by
    obtain ⟨before, after, split⟩ := List.append_of_mem (List.mem_range.2 h.roi)
    have nodup := split ▸ List.nodup_range (n := 16)
    simp only [List.nodup_append, List.nodup_cons, List.mem_cons] at nodup
    obtain ⟨-, ⟨rest, -⟩, fresh⟩ := nodup
    exact ⟨before, after, split, fun mem => fresh k mem k (.inl rfl) rfl, rest⟩
  have prior := KeepsStream.roiRecords fresh s a []
  obtain ⟨r, gets⟩ := State.roiRecord_placeholder [] blank (h.of_keeps prior)
  refine ⟨r, ?_⟩
  simp only [State.colourClass, colour, blank, if_true, split, List.foldl_append, List.foldl_cons, h.enabled]
  exact gets.of_keeps prior (.roiRecords rest _ a [])

theorem State.inspectClass_off {a : Aligned} (s : State) (off : a.info.cfg.get F.PIP_CTL_INSP_EN = 0) :
    s.inspectClass a = s := by
  unfold State.inspectClass
  exact if_neg (by rw [off]; decide)

theorem State.Forms.keepsStream {s t : State} {i : LineInfo} {a : Aligned} (h : s.Forms i t a) (k : Nat) :
    s.KeepsStream k t :=
  ⟨by rw [State.stream, State.stream, h.streams], congrArg List.length h.streams, h.parts .dma (by decide)⟩

/-- The placeholder of a line whose segment is open leaves for the region of interest that has room. -/
theorem State.settle_placeholder {k : Nat} {a : Aligned} {s : State} {first : LineNo} {c : Cfg}
    (mark : a.mark = false) (blank : a.placeholder = true) (planes : a.planes = [])
    (seg : s.pip.seg = some (a.info.sn, first, c)) (gap : a.info.gap = none)
    (colour : a.info.cfg.get F.PIP_CTL_COLOUR_EN = 1) (inspect : a.info.cfg.get F.PIP_CTL_INSP_EN = 0)
    (room : s.HasRoom k a.info) : ∃ r, s.GetsPlaceholder k a.info (s.settle a none) r := by
  have entered : s.lineEnters a.info = s.tnrRestart a.info := State.pipSegment_same seg gap
  have restarts : s.KeepsStream k (s.tnrRestart a.info) := ⟨rfl, rfl, rfl⟩
  obtain ⟨r, gets⟩ := State.colourClass_placeholder colour blank (room.of_keeps restarts)
  refine ⟨r, ?_⟩
  rw [s.settle_unseamed none mark (.inl blank), entered]
  refine gets.of_keeps restarts ?_
  simp only [State.recordOut, planes, List.any_nil, Bool.false_eq_true, if_false, State.inspectClass_off _ inspect]
  exact ⟨rfl, rfl, rfl⟩

theorem exec_alignedRecord (s : State) : exec .alignedRecord s = .next s.align := rfl

/-- Settles O30: ALIGNED_RECORD by the three ways of `State.align`: the line waits for its groups, it is lost to a gate,
or its record is formed and leaves with what `State.settle` gives the streams. -/
theorem recordsAreAligned : Obligations.RecordsAreAligned := by
  intro s i run next
  refine ⟨fun launched missing => ?_, fun ready hub => ?_, fun ready hub => ?_⟩
  · refine ⟨_, exec_alignedRecord s, ?_⟩
    rw [State.align_waits next launched missing]
    split
    · exact ⟨rfl, rfl, Changes.refl _ _ s⟩
    · exact ⟨rfl, rfl, Changes.takeOutputs s⟩
  · have marks := State.KeepsAlignment.passMarks s i
    obtain ⟨parts, still, left⟩ := (s.passMarks i).loseRecord_loses i
    refine ⟨_, (exec_alignedRecord s).trans (congrArg _ (State.align_gated next ready hub)), ?_⟩
    rw [State.passed_drained i ((still.trans (marks.isRunning (by decide))).trans run)]
    exact ⟨rfl, (parts .mem (by decide)).trans (marks.parts .mem (by decide)),
      (parts .pt (by decide)).trans (marks.parts .pt (by decide)), left⟩
  · have forms : s.takeOutputs.KeepsAlignment [F.THY_CTL_RUNNING] ((s.takeOutputs.passMarks i).formRecord i) :=
      (State.KeepsAlignment.passMarks _ i).trans (.formRecord _ i)
    refine ⟨_, (exec_alignedRecord s).trans (congrArg _ (State.align_forms next ready hub)), ?_⟩
    rw [State.passed_drained i ((forms.isRunning (by decide)).trans run)]
    refine ⟨rfl, congrArg Cal.out (forms.parts .cal (by decide)), forms.parts .mem (by decide),
      forms.parts .pt (by decide), fun width waits => ?_⟩
    obtain ⟨t, a, formed, eq⟩ := State.formRecord_leaves (State.passMarks_waiting (s := s.takeOutputs) waits) width
    rw [State.passed, eq]
    refine ⟨rfl, ?_, ?_⟩
    · exact (t.settle_lastOut none formed.mark).trans (by rw [formed.info])
    · intro k first c hk missed streams seg earlier gap colour inspect enabled on link lost dropping room
      rw [State.passMarks_first (s := s.takeOutputs) waits earlier] at formed
      obtain rfl := formed.info
      obtain ⟨blank, planes⟩ := formed.blank missed
      have outputs : s.KeepsStream k s.takeOutputs := ⟨rfl, rfl, rfl⟩
      have taken : s.KeepsStream k t := outputs.trans (formed.keepsStream k)
      have hasRoom := State.HasRoom.of_keeps ⟨hk, streams, enabled, on, link, lost, dropping, room⟩ taken
      obtain ⟨r, gets⟩ := State.settle_placeholder formed.mark blank planes (formed.seg.trans seg) gap colour inspect
        hasRoom
      obtain ⟨recs, written, length, kind, first, last, sn⟩ := gets.of_keeps taken (.refl k _)
      exact ⟨r, recs, length, kind, first, last, sn, written⟩

/-! ### West lines and markers (R223, R226, R227) -/

theorem exec_seam (s : State) (words : List Word64) : exec (.seam words) s = .next (s.seamPacket false words) := rfl

theorem exec_seamMark (s : State) (words : List Word64) :
    exec (.seamMark words) s = .next (s.seamPacket true words) := rfl

/-- The width that a packet gives, and the groups of its mask (Table CHV-7). -/
def packetWidth (w0 : Word64) : Nat := w0.toNat / 2 ^ 48 % 512

def packetGroups (w1 : Word64) : List Nat := (List.range 6).filter (fun g => bitAt (w1.toNat / 2 ^ 48) g)

/-- The west line of a SEAM_MARK packet, and that of a SEAM packet. -/
def westMark (w0 w1 : Word64) : WestLine :=
  ⟨BitVec.ofNat 48 w0.toNat, BitVec.ofNat 32 w1.toNat, packetWidth w0, false, false, false, false, false, false, []⟩

def westData (w0 w1 : Word64) (data : List Word64) : WestLine :=
  ⟨BitVec.ofNat 48 w0.toNat, BitVec.ofNat 32 w1.toNat, packetWidth w0, true, false, bitAt w1.toNat 38,
    bitAt w1.toNat 32, bitAt w1.toNat 33, bitAt w1.toNat 37,
    seamPlanes (packetWidth w0 + 1) (packetGroups w1) (seamSamples data)⟩

/-- The width of a packet against the seam of its segment: a mismatch is logged (R223). -/
def State.checkWidth (s : State) (w : WestLine) : State :=
  if w.width = s.overlapOf w.sn then s else s.logMismatch w.width (s.overlapOf w.sn) w.sn

/-- A bit of the flags of word 1, which stand from bit 32 up. -/
theorem bitAt_flags (n k : Nat) (h : k < 16) : bitAt (n / 2 ^ 32 % 65536) k = bitAt n (32 + k) := by
  rw [bitAt_eq_testBit, bitAt_eq_testBit, show 65536 = 2 ^ 16 from rfl, Nat.testBit_mod_two_pow,
    Nat.testBit_div_two_pow]
  simp [h, Nat.add_comm]

section

variable {s : State} {w0 w1 : Word64} {data : List Word64} (up : s.portUp 0 = true) (heard : s.chv.cwIgnored = false)
include up heard

theorem State.seam_drops (len : data.length ≠ ((packetWidth w0 + 1) * (packetGroups w1).length + 3) / 4) :
    s.seamPacket false (w0 :: w1 :: data) = s.dropPacket 0 := by
  rw [State.seamPacket, if_neg (by simp [up, heard])]
  exact if_pos (bne_iff_ne.2 len)

theorem State.seamMark_drops (len : data ≠ []) : s.seamPacket true (w0 :: w1 :: data) = s.dropPacket 0 := by
  rw [State.seamPacket, if_neg (by simp [up, heard])]
  exact if_pos (by simpa using len)

theorem State.seam_takes (len : data.length = ((packetWidth w0 + 1) * (packetGroups w1).length + 3) / 4) :
    s.seamPacket false (w0 :: w1 :: data) =
      ((s.checkWidth (westData w0 w1 data)).takeWest (westData w0 w1 data)).pipDrained := by
  rw [State.seamPacket, if_neg (by simp [up, heard])]
  refine (if_neg (fun h => bne_iff_ne.1 h len)).trans ?_
  rw [bitAt_flags _ 6 (by decide), bitAt_flags _ 0 (by decide), bitAt_flags _ 1 (by decide),
    bitAt_flags _ 5 (by decide)]
  rfl

theorem State.seamMark_takes :
    s.seamPacket true [w0, w1] = ((s.checkWidth (westMark w0 w1)).takeWest (westMark w0 w1)).pipDrained := by
  rw [State.seamPacket, if_neg (by simp [up, heard])]
  rfl

end

theorem State.takeWest_gated {s : State} (w : WestLine) (h : s.gated 1 = true) : s.takeWest w = s := by
  simp [State.takeWest, h]

/-- A west line has come in: no segment is being dropped, and the line is in the buffer. -/
def State.acceptWest (s : State) (w : WestLine) : State :=
  let t := { s with pip := { s.pip with westDropping := none } }.setFlag F.PIP_SEAM_STAT_DROPPING false
  { t with pip := { t.pip with west := t.pip.west ++ [w] } }

/-- The input of the buffer has overflowed: the line, and the rest of its segment, are dropped (R227). -/
def State.overflowWest (s : State) (w : WestLine) : State :=
  let t := s.acceptWest ⟨w.ln, w.sn, w.width, false, true, false, false, false, false, []⟩
  ({ t with pip := { t.pip with westDropping := some w.sn } }.setFlag F.PIP_SEAM_STAT_DROPPING true).setFlag
    F.PIP_SEAM_STAT_OVF true

/-- SEAM_OVF, with the SN and the first LN dropped. -/
def State.logOverflow (s : State) (w : WestLine) : State := s.log 0x0601 [(4, w.sn.toNat), (6, w.ln.toNat)]

theorem State.seamSlots_resumed (s : State) :
    ({ s with pip := { s.pip with westDropping := none } }.setFlag F.PIP_SEAM_STAT_DROPPING false).seamSlots =
      s.seamSlots := by
  have lag : Cfg.seamLag (s.regs.set F.PIP_SEAM_STAT_DROPPING 0) = Cfg.seamLag s.regs := by
    rw [Cfg.seamLag, Cfg.stagger, Bank.get_set_ne _ _ (by decide)]
    rfl
  simp only [State.seamSlots, State.setFlag_regs, boolBit_false, State.setFlag_pip, lag]

section

variable {s : State} {w : WestLine} (open_ : s.gated 1 = false) (early : s.westPassed w.ln = false)
  (keeps : s.pip.westDropping ≠ some w.sn)
include open_ early keeps

theorem State.takeWest_room (room : s.seamSlots < 4096) : s.takeWest w = (s.acceptWest w).flushWaiting := by
  have fits : ¬ 4096 ≤ s.seamSlots := by omega
  simp [State.takeWest, open_, early, keeps, State.seamSlots_resumed, fits, State.acceptWest]

theorem State.takeWest_full (full : 4096 ≤ s.seamSlots) :
    s.takeWest w = ((s.overflowWest w).logOverflow w).flushWaiting := by
  simp [State.takeWest, open_, early, keeps, State.seamSlots_resumed, full, State.logOverflow, State.overflowWest,
    State.acceptWest]

end

theorem State.checkWidth_same {s : State} {w : WestLine} (h : w.width = s.overlapOf w.sn) : s.checkWidth w = s :=
  if_pos h

theorem State.checkWidth_other {s : State} {w : WestLine} (h : w.width ≠ s.overlapOf w.sn) :
    s.checkWidth w = s.logMismatch w.width (s.overlapOf w.sn) w.sn := if_neg h

section

variable {s : State} {sn : SegNo} (new : sn ∉ s.pip.mismatched) (width ovl : Nat)
include new

theorem State.logMismatch_new : s.logMismatch width ovl sn =
    { s with pip := { s.pip with mismatched := (sn :: s.pip.mismatched).take 16 } }.log 0x0605
      [(2, width), (2, ovl), (4, sn.toNat)] := if_neg (by simpa using new)

theorem Changes.logMismatch : Changes (.pip :: logParts) attnFields s (s.logMismatch width ovl sn) := by
  rw [State.logMismatch_new new]
  exact ((Changes.setPip s _).mono (by decide) (by simp)).trans ((Changes.log _ _ _).mono (by decide) (by simp))

theorem State.logMismatch_logged :
    Logged s (s.logMismatch width ovl sn) 0x0605 [(2, width), (2, ovl), (4, sn.toNat)] := by
  rw [State.logMismatch_new new]
  exact (Logged.log _ _ _).of_same rfl rfl rfl rfl rfl rfl

theorem State.logMismatch_known : sn ∈ (s.logMismatch width ovl sn).pip.mismatched := by
  simp [State.logMismatch_new new]

end

/-- A west line that comes in changes the wait and DROPPING alone. -/
theorem Changes.acceptWest (s : State) (w : WestLine) :
    Changes [.pip, .regs] [F.PIP_SEAM_STAT_DROPPING] s (s.acceptWest w) :=
  (((Changes.setPip s _).mono (by decide) (by simp)).trans
    ((Changes.setFlag _ _ false).mono (by decide) (by simp))).trans ((Changes.setPip _ _).mono (by decide) (by simp))

theorem State.acceptWest_pip (s : State) (w : WestLine) :
    (s.acceptWest w).pip = { s.pip with westDropping := none, west := s.pip.west ++ [w] } := rfl

@[simp] theorem State.logOverflow_pip (s : State) (w : WestLine) : (s.logOverflow w).pip = s.pip := State.log_pip s _ _

theorem Changes.logOverflow (s : State) (w : WestLine) : Changes logParts attnFields s (s.logOverflow w) :=
  Changes.log s _ _

theorem State.overflowWest_pip (s : State) (w : WestLine) : (s.overflowWest w).pip = { s.pip with
    westDropping := some w.sn,
    west := s.pip.west ++ [⟨w.ln, w.sn, w.width, false, true, false, false, false, false, []⟩] } := rfl

theorem Changes.overflowWest (s : State) (w : WestLine) :
    Changes [.pip, .regs] [F.PIP_SEAM_STAT_DROPPING, F.PIP_SEAM_STAT_OVF] s (s.overflowWest w) :=
  ((((Changes.acceptWest s _).mono (by decide) (by simp)).trans ((Changes.setPip _ _).mono (by decide) (by simp))).trans
    ((Changes.setFlag _ _ true).mono (by decide) (by simp))).trans
    ((Changes.setFlag _ _ true).mono (by decide) (by simp))

theorem State.overflowWest_dropping (s : State) (w : WestLine) :
    (s.overflowWest w).reg F.PIP_SEAM_STAT_DROPPING = 1 :=
  (State.reg_setReg_ne _ _ (by decide)).trans (State.reg_setReg_same _ _ _)

theorem State.overflowWest_ovf (s : State) (w : WestLine) : (s.overflowWest w).reg F.PIP_SEAM_STAT_OVF = 1 :=
  State.reg_setReg_same _ _ _

/-- What changes the pipeline and fields of no event stands beside the record of an event. -/
theorem Changes.logged {l : List Field} {s t u : State} {code : Nat} {args : List (Nat × Nat)}
    (h : Changes [.pip, .regs] l s t) (beside : ∀ f ∈ [F.CHV_POS_POS, F.THY_SN_V], f.key ∉ l.map Field.key)
    (k : Logged t u code args) : Logged s u code args :=
  k.of_same (h.1 .fifo (by decide)) (h.1 .fifoLost (by decide)) (h.1 .evtSeq (by decide))
    (h.2 _ (beside _ (by simp))) (congrArg (BitVec.ofNat 32) (h.2 _ (beside _ (by simp)))) (h.1 .pt (by decide))

theorem Changes.isRunning {p : List Part} {l : List Field} {s t : State} (h : Changes p l s t)
    (beside : F.THY_CTL_RUNNING.key ∉ l.map Field.key) : t.isRunning = s.isRunning := by
  rw [State.isRunning, State.flag, h.2 _ beside]
  rfl

theorem Changes.gated {p : List Part} {l : List Field} {s t : State} (h : Changes p l s t)
    (beside : (F.CLK_PLL_STAT_GATED 1).key ∉ l.map Field.key) : t.gated 1 = s.gated 1 := by
  rw [State.gated, State.flag, h.2 _ beside]
  rfl

/-! ### The end of a segment after a stop (R244, R491) -/

theorem State.seamReady_west {s : State} {a : Aligned} {w : WestLine} (mem : w ∈ s.pip.west)
    (needed : w.ln = (Cfg.seamLines a.info.cfg a.info.ln).1) : ∃ x, s.seamReady a = some x := by
  unfold State.seamReady
  dsimp only
  split
  · exact ⟨_, rfl⟩
  · cases found : s.pip.west.find? (fun w => w.ln == (Cfg.seamLines a.info.cfg a.info.ln).1) with
    | some x => exact ⟨_, rfl⟩
    | none => exact absurd needed (by simpa using List.find?_eq_none.1 found w mem)

/-- With every line aligned and no record waiting, a stop closes the open segment. -/
theorem State.pipDrained_stopped {s : State} (stopped : s.isRunning = false) (waits : s.pip.waiting = [])
    (aligned : s.unaligned = []) :
    s.pipDrained.pip.waiting = [] ∧ s.pipDrained.pip.seg = none ∧ s.pipDrained.isRunning = false := by
  generalize drained : s.pipDrained = t
  unfold State.pipDrained at drained
  rw [aligned] at drained
  extract_lets rest entered _ passed last at drained
  rw [if_neg (by simp [stopped, waits, rest])] at drained
  have passes : passed.pip.waiting = [] ∧ passed.isRunning = false := by
    unfold passed
    cases entered.lines.getLast? with
    | none => exact ⟨waits, stopped⟩
    | some i => exact ⟨waits, stopped⟩
  cases seg : passed.pip.seg with
  | none =>
    rw [seg] at drained
    exact drained ▸ ⟨passes.1, seg, passes.2⟩
  | some open_ =>
    obtain ⟨sn, first, c⟩ := open_
    rw [seg] at drained
    dsimp only at drained
    have closes := passed.pipClose_closes sn first last c false none
    rw [drained] at closes
    exact ⟨closes.waiting.trans passes.1, drained ▸ State.pipClose_seg passed sn first last c false none,
      (closes.isRunning (by decide)).trans passes.2⟩

/-! ### The wait of a seam (R226) -/

theorem exec_seamWaitExpiry_nil {s : State} (h : s.pip.waiting = []) : exec .seamWaitExpiry s = .next s := by
  change execSeamWaitExpiry s = _
  rw [execSeamWaitExpiry, h]

theorem exec_seamWaitExpiry_cons {s : State} {a : Aligned} {r : List Aligned} (h : s.pip.waiting = a :: r) :
    exec .seamWaitExpiry s = .next
      { s with pip := { s.pip with waiting := { a with expired := true } :: r } }.flushWaiting.pipDrained := by
  change execSeamWaitExpiry s = _
  rw [execSeamWaitExpiry, h]

/-- A record whose wait has expired, and the wait that holds it alone. -/
def Aligned.late (a : Aligned) : Aligned := { a with expired := true }

def State.waits (s : State) (a : Aligned) : State := { s with pip := { s.pip with waiting := [a] } }

theorem State.seamReady_expired {s : State} {a : Aligned} (expired : a.expired = true)
    (missing : ∀ w ∈ s.pip.west, w.ln ≠ (Cfg.seamLines a.info.cfg a.info.ln).1) : s.seamReady a = some none := by
  have none : s.pip.west.find? (fun w => w.ln == (Cfg.seamLines a.info.cfg a.info.ln).1) = none := by
    simpa using missing
  simp [State.seamReady, none, expired]

/-- From `s` to `t` record `a` has left late. -/
theorem State.settle_late {s : State} {a : Aligned} (seam : a.seamless = false) :
    (s.settle a none).reg F.PIP_SEAM_STAT_LATE = 1 ∧
      (s.settle a none).reg F.PIP_SEAM_STAT_LATE_LINES = (s.reg F.PIP_SEAM_STAT_LATE_LINES + 1) % 2 ^ 16 ∧
      ∀ sn first c, s.pip.seg = some (sn, first, c) →
        (s.settle a none).pip.lateSeg = if a.info.sn = sn then s.pip.lateSeg + 1 else 1 := by
  obtain ⟨u, b, counts, -, out⟩ := s.settle_seamed none seam
  have leaves := counts.trans (.leaves u a b)
  have enters := s.lineEnters_opens a.info
  rw [out]
  refine ⟨?_, ?_, fun sn first c seg => ?_⟩
  · rw [leaves.regs _ (by decide)]
    exact State.countLate_late _
  · rw [leaves.regs _ (by decide)]
    exact (State.countLate_lines _).trans (by rw [enters.regs _ (by decide)])
  · rw [leaves.lateSeg]
    refine (State.countLate_lateSeg _).trans ((congrArg (· + 1) (enters.lateSeg sn first c seg)).trans ?_)
    split <;> rfl

section

variable {s : State} {w : WestLine} (run : s.isRunning = true) (waits : s.pip.waiting = [])
  (open_ : s.gated 1 = false) (early : s.westPassed w.ln = false) (keeps : s.pip.westDropping ≠ some w.sn)
include run waits open_ early keeps

/-- While the module runs and nothing waits, a west line that has room only enters the buffer. -/
theorem State.takeWest_buffers (room : s.seamSlots < 4096) : (s.takeWest w).pipDrained = s.acceptWest w := by
  rw [State.takeWest_room open_ early keeps room, State.flushWaiting_nil (by exact waits),
    State.pipDrained_running (((Changes.acceptWest s w).isRunning (by decide)).trans run)]

theorem State.takeWest_overflows (full : 4096 ≤ s.seamSlots) :
    (s.takeWest w).pipDrained = (s.overflowWest w).logOverflow w := by
  have logs := Changes.logOverflow (s.overflowWest w) w
  have still := (logs.isRunning (by decide)).trans ((Changes.overflowWest s w).isRunning (by decide))
  rw [State.takeWest_full open_ early keeps full,
    State.flushWaiting_nil (by rw [State.logOverflow_pip, State.overflowWest_pip]; exact waits),
    State.pipDrained_running (still.trans run)]

end

/-- Settles O31: the packets by what `State.takeWest` does with their line, the stop by the record that the line
releases (`State.pipDrained_stopped`), and the expiry by `State.settle_late`. -/
theorem seamLinesFromTheWest : Obligations.SeamLinesFromTheWest := by
  refine ⟨fun s w0 w1 data up heard waits => ⟨fun len => ?_, fun len => ?_, fun width run gated => ?_,
      fun width run gated empty new => ?_, fun width run open_ early keeps =>
        ⟨fun room => ⟨fun len => ⟨s.acceptWest (westData w0 w1 data), ?_, rfl, Changes.acceptWest s _⟩,
          ⟨s.acceptWest (westMark w0 w1), ?_, rfl, Changes.acceptWest s _⟩⟩, fun full => ?_⟩⟩,
    fun s a w0 w1 up heard stopped open_ waits aligned room width needed early keeps => ?_,
    fun s => ⟨exec_seamWaitExpiry_nil, fun a run waits mark placeholder width missing => ?_⟩⟩
  · exact congrArg _ (State.seam_drops up heard len)
  · exact congrArg _ (State.seamMark_drops up heard len)
  · rw [exec_seamMark, State.seamMark_takes up heard, State.checkWidth_same (w := westMark w0 w1) width,
      State.takeWest_gated _ gated, State.pipDrained_running run]
  · obtain rfl := empty
    have logs := Changes.logMismatch new (packetWidth w0) (s.overlapOf (BitVec.ofNat 32 w1.toNat))
    refine ⟨_, ?_, State.logMismatch_logged new _ _, State.logMismatch_known new _ _, logs⟩
    rw [exec_seamMark, State.seamMark_takes up heard, State.checkWidth_other (w := westMark w0 w1) width,
      State.takeWest_gated _ (by exact (logs.gated (by decide)).trans gated),
      State.pipDrained_running (by exact (logs.isRunning (by decide)).trans run)]
    rfl
  · rw [exec_seam, State.seam_takes up heard len, State.checkWidth_same (w := westData w0 w1 data) width,
      State.takeWest_buffers (w := westData w0 w1 data) run waits open_ early keeps room]
  · rw [exec_seamMark, State.seamMark_takes up heard, State.checkWidth_same (w := westMark w0 w1) width,
      State.takeWest_buffers (w := westMark w0 w1) run waits open_ early keeps room]
  · have logs := Changes.logOverflow (s.overflowWest (westMark w0 w1)) (westMark w0 w1)
    refine ⟨(s.overflowWest (westMark w0 w1)).logOverflow (westMark w0 w1), ?_, ?_, ?_, ?_, ?_⟩
    · rw [exec_seamMark, State.seamMark_takes up heard, State.checkWidth_same (w := westMark w0 w1) width,
        State.takeWest_overflows (w := westMark w0 w1) run waits open_ early keeps full]
    · rw [State.logOverflow_pip, State.overflowWest_pip]
      rfl
    · exact (logs.2 _ (by decide)).trans (s.overflowWest_dropping _)
    · exact (logs.2 _ (by decide)).trans (s.overflowWest_ovf _)
    · exact (Changes.overflowWest s (westMark w0 w1)).logged (by decide) (Logged.log _ _ _)
  · have accepts := Changes.acceptWest s (westMark w0 w1)
    obtain ⟨x, ready⟩ := State.seamReady_west (s := s.acceptWest (westMark w0 w1)) (a := a) (w := westMark w0 w1)
      (by simp [State.acceptWest_pip]) needed
    have leaves := State.KeepsAlignment.left (s.acceptWest (westMark w0 w1)) a x
    have alone : (s.acceptWest (westMark w0 w1)).unaligned = [] := aligned
    rw [exec_seamMark, State.seamMark_takes up heard, State.checkWidth_same (w := westMark w0 w1) width,
      State.takeWest_room (w := westMark w0 w1) open_ early keeps room,
      State.flushWaiting_single (by exact waits) ready]
    exact ⟨_, rfl, State.pipDrained_stopped
      ((leaves.isRunning (by decide)).trans ((accepts.isRunning (by decide)).trans stopped)) rfl
      (leaves.unaligned.trans alone)⟩
  · have seam : a.late.seamless = false := by simp [Aligned.late, Aligned.seamless, mark, placeholder, width]
    have ready : (s.waits a.late).seamReady a.late = some none := State.seamReady_expired rfl missing
    have leaves := State.KeepsAlignment.left (s.waits a.late) a.late none
    obtain ⟨late, lines, lateSeg⟩ := State.settle_late (s := s.waits a.late) seam
    refine ⟨(s.waits a.late).left a.late none, ?_, rfl, State.settle_lastOut _ none mark, late, lines,
      leaves.parts .mem (by decide), lateSeg⟩
    refine (exec_seamWaitExpiry_cons waits).trans (congrArg _ ?_)
    exact (congrArg State.pipDrained (State.flushWaiting_single (s := s.waits a.late) rfl ready)).trans
      (State.pipDrained_running ((leaves.isRunning (by decide)).trans run))

end Sys2Proof.Machine
end
